-- ==== Sys2Proof/Word.lean ====
section
/-! DEFINITION. The word types of the part: the byte of a telegram and the 16-bit check word. -/

namespace Sys2Proof

/-- A byte of a telegram or of a record encoding (R173). -/
abbrev Byte := BitVec 8

/-- The register of the CRC-16 of R174, and a check word. -/
abbrev CheckWord := BitVec 16

end Sys2Proof
end

