-- ==== Sys2Proof/Config.lean ====
section
/-! DEFINITION. The line description (chapter 1: the line constants record and the five tables), the empty image of R9,
the fixed periods of the part, and the free values (constants without a body). -/

namespace Sys2Proof

/-- The two cars (00 section 1.1). -/
inductive Car where
  | a | b
  deriving DecidableEq, Repr

/-- A door side (R2). -/
inductive Side where
  | left | right | both
  deriving DecidableEq, Repr

/-- The direction of a gate (R5). -/
inductive GateDir where
  | entry | exit
  deriving DecidableEq, Repr

/-- The line constants record (R7), field by field in the order of its table. Millimetres are signed (10 R173). -/
structure LineConsts where
  /-- L, the line length. -/
  length : Int
  aBase : Nat
  aMin : Nat
  cLoad : Nat
  personMass : Nat
  carCapacity : Nat
  ratedLoad : Nat
  mStop : Int
  overrun : Int
  vLineMax : Nat
  creep : Nat
  standstillTime : Nat
  dwellMin : Nat
  ackTime : Nat
  closeTimeout : Nat
  exitQuiet : Nat
  reservationTimeout : Nat
  tSb : Nat
  tEb : Nat
  stopEbDelay : Nat
  silenceLimit : Nat
  estopQualify : Nat
  positionTolerance : Int
  datumTolerance : Int
  zero1 : Nat
  scale1 : Nat
  zero2 : Nat
  scale2 : Nat
  deriving DecidableEq, Repr

/-- The defaults of R7. -/
def LineConsts.default : LineConsts where
  length := 1000000
  aBase := 1200
  aMin := 600
  cLoad := 2
  personMass := 80
  carCapacity := 160
  ratedLoad := 13000
  mStop := 2000
  overrun := 1000
  vLineMax := 10000
  creep := 500
  standstillTime := 500
  dwellMin := 40
  ackTime := 800
  closeTimeout := 20
  exitQuiet := 5
  reservationTimeout := 10
  tSb := 1500
  tEb := 2000
  stopEbDelay := 2000
  silenceLimit := 500
  estopQualify := 20
  positionTolerance := 500
  datumTolerance := 300
  zero1 := 0
  scale1 := 1000
  zero2 := 0
  scale2 := 1000

/-- A stop entry (R2); a platform field of `none` is NONE. -/
structure StopEntry where
  present : Bool
  position : Int
  halfWidth : Int
  platformA : Option (Fin 8)
  sideA : Side
  platformB : Option (Fin 8)
  sideB : Side
  deriving DecidableEq, Repr

/-- A zone entry (R3). -/
structure ZoneEntry where
  present : Bool
  start : Int
  limit : Nat
  percent : Nat
  deriving DecidableEq, Repr

/-- A platform entry (R4); the answer of the policy at index i is bit i (10 R173). -/
structure PlatformEntry where
  present : Bool
  policy : Byte
  deriving DecidableEq, Repr

/-- A gate entry (R5). -/
structure GateEntry where
  present : Bool
  platform : Fin 8
  dir : GateDir
  deriving DecidableEq, Repr

/-- A datum entry (R6). -/
structure DatumEntry where
  present : Bool
  position : Int
  deriving DecidableEq, Repr

/-- The line description (section 1.2): the working tables and the stored image each hold one. -/
structure Tables where
  line : LineConsts
  stops : Vector StopEntry 6
  zones : Vector ZoneEntry 16
  platforms : Vector PlatformEntry 8
  gates : Vector GateEntry 16
  datums : Vector DatumEntry 4
  deriving DecidableEq, Repr

/-- The default policy (R4): yes at index 7 and no at indices 0 to 6. -/
def PlatformEntry.defaultPolicy : Byte := 0x80

/-- The empty image (R9). -/
def Tables.empty : Tables where
  line := LineConsts.default
  stops := Vector.replicate 6
    { present := false, position := 0, halfWidth := 50, platformA := none, sideA := .left, platformB := none, sideB := .left }
  zones := Vector.replicate 16 { present := false, start := 0, limit := 500, percent := 50 }
  platforms := Vector.replicate 8 { present := false, policy := PlatformEntry.defaultPolicy }
  gates := Vector.replicate 16 { present := false, platform := 0, dir := .entry }
  datums := Vector.replicate 4 { present := false, position := 0 }

namespace Config

/-! The fixed periods of the part, in milliseconds (01, "Fixed values", and R119, R120 for the confirm timers). -/

def railConfirm : Nat := 3000
def ebLiftConfirm : Nat := 2000
def ebSettle : Nat := 500
def torqueProve : Nat := 3000
def sbConfirm : Nat := 1000
def ebDropConfirm : Nat := 1000
def jogHold : Nat := 400
def samplePeriod : Nat := 10

/-! Free values. Nothing in the model evaluates them: a statement about one holds for every value. -/

/-- DESIGN CHOICE (log 22). What a two-byte field carries for a value above 65,535: R173 states no coding. -/
opaque unstatedWord : Nat → BitVec 16

/-- DESIGN CHOICE (log 22). What a one-byte field carries for a value above 255: R173 states no coding. -/
opaque unstatedByte : Nat → BitVec 8

/-- DESIGN CHOICE (log 22). What a four-byte field carries for a value outside 32 bits: R173 states no coding. -/
opaque unstatedLong : Int → BitVec 32

/-- DESIGN CHOICE (log 23). The position that a displacement scales to when the scale is 0, which R12 never accepts. -/
opaque unstatedScaling : Int → Int

/-- DESIGN CHOICE (log 23). ceil(v² / (2 × a_g)) of R78 when a_g is 0, which R12 never accepts for a_min. -/
opaque unstatedBraking : Nat → Int

/-- DESIGN CHOICE (log 24). The speed limit where no present zone holds P_sup: R89 needs a current zone. -/
opaque unstatedZoneLimit : Int → Nat

/-- DESIGN CHOICE (log 24). The deceleration percent where no zone is spanned: R85 needs a current zone. -/
opaque unstatedPercent : Int → Nat

/-- DESIGN CHOICE (log 11). Whether the write that the n-th interrupting reset ends had come to its last step, so that its new
check word stands in the storage: R17 and R19 leave the moment of the reset open. -/
opaque checkWordWritten : Nat → Bool

end Config

end Sys2Proof
end

