-- ==== Sys2Proof/Syntax.lean ====
section
/-! DEFINITION. The commands of the part: one constructor of `Instr` for each row of spec/opcode_table.json, with the operands
that the row's rule names. Operands that travel in a telegram are the bytes of its payload (10 R175, R177), so that values outside
a coding can be written too; gates and platforms named by an address are within the address ranges of R173. -/

namespace Sys2Proof

/-- The six ports (R160). -/
inductive PortId where
  | drv | cra | crb | sta1 | sta2 | con
  deriving DecidableEq, Repr

/-- The two station ports (R160). -/
inductive Sta where
  | sta1 | sta2
  deriving DecidableEq, Repr

/-- One read of a position sensor (R37): the data line's level before the first clock, the 26 bits taken most significant
first, and the data line's level after the last bit. -/
structure SensorRead where
  idleBefore : Bool
  bits : BitVec 26
  idleAfter : Bool
  deriving DecidableEq, Repr

/-- A console command as its telegram carries it (R177): the argument bytes. -/
inductive Command where
  | mode (m : Byte)
  | trip (stop : Byte)
  | cancel (stop : Byte)
  | hold
  | jog (dir : Byte)
  | stop
  | brakeReset
  | evacuate (car side : Byte)
  | evacuateEnd (car : Byte)
  | gateMask (gate : Byte)
  | gateUnmask (gate : Byte)
  | tallySet (car n : Byte)
  | configWrite (table index segment count : Byte) (bytes : List Byte)
  | configRead (table index segment : Byte)
  | configCommit
  | query (record n segment : Byte)
  | clear (item : Byte)
  | unknown (kind : Byte) (args : List Byte)
  deriving DecidableEq, Repr

/-- A valid telegram waiting in a receive queue (R163), by its kind (R175). The port is the queue's own. -/
inductive Request where
  | driveReport (state sb : Byte)
  | carReport (door token rail weighPresent : Byte) (weigh : BitVec 16) (fault : Byte)
  | validate (gate : Fin 16)
  | passage (gate : Fin 16)
  | call (platform : Fin 8)
  | gateReport (gate : Fin 16) (fault : Byte)
  | command (c : Command)
  deriving DecidableEq, Repr

/-- The commands of the part, one for each row of spec/opcode_table.json, in its order. -/
inductive Instr where
  | powerOnReset
  | externalReset
  /-- The levels that the part reads on ESTOP and EBL at the end of the load (R9, R106, R110). -/
  | imageLoadEnd (estopActive eblRisen : Bool)
  /-- What the storage reads back (R18): `none` is the contents as written. -/
  | commitCompletion (readBack : Option Tables)
  | sampleEvent (read1 read2 : SensorRead)
  | standstillTimerExpiry
  | escalationTimerExpiry
  | datumEvent (n : Fin 4)
  | estopFallingEdge
  | estopRisingEdge
  | estopQualifyExpiry
  | eblRise
  | eblFall
  | railConfirmExpiry
  | ebLiftConfirmExpiry
  | ebSettleExpiry
  | torqueProveExpiry
  | sbLiftConfirmExpiry
  | sbConfirmExpiry
  | stopEbDelayEnd
  | ebDropConfirmExpiry
  | dwellTimerExpiry
  | jogHoldExpiry
  | ackTimerExpiry (car : Car)
  | closeTimerExpiry (car : Car)
  | reservationTimerExpiry (gate : Fin 16)
  | exitQuietTimerExpiry (platform : Fin 8)
  /-- The bytes that the port's line brings: a whole frame, or any other run of bytes (log 2). -/
  | receiveFrame (port : PortId) (bytes : List Byte)
  | frameTimeout (port : PortId)
  | transmissionCompletion (port : PortId)
  | silenceTimerExpiry (port : PortId)
  | driveReport (state sb : Byte)
  | carReport (car : Car) (door token rail weighPresent : Byte) (weigh : BitVec 16) (fault : Byte)
  | validate (sta : Sta) (gate : Fin 16)
  | passage (sta : Sta) (gate : Fin 16)
  | call (sta : Sta) (platform : Fin 8)
  | gateReport (sta : Sta) (gate : Fin 16) (fault : Byte)
  | mode (m : Byte)
  | trip (stop : Byte)
  | cancel (stop : Byte)
  | hold
  | jog (dir : Byte)
  | stop
  | brakeReset
  | evacuate (car side : Byte)
  | evacuateEnd (car : Byte)
  | gateMask (gate : Byte)
  | gateUnmask (gate : Byte)
  | tallySet (car n : Byte)
  | configWrite (table index segment count : Byte) (bytes : List Byte)
  | configRead (table index segment : Byte)
  | configCommit
  | query (record n segment : Byte)
  | clear (item : Byte)
  | unknownCommand (kind : Byte) (args : List Byte)
  | byteFramingError (port : PortId)
  deriving DecidableEq, Repr

end Sys2Proof
end

