-- ==== Sys2Proof/Machine/State.lean ====
section
/-! DEFINITION. Every piece of state the spec gives the part, block by block, as plain data, and `State.reset`.
INVENTORY.md lists each field with the rule that names it. -/

namespace Sys2Proof.Machine

/-- A timer (00 section 3.7): `none` while it is not running, else its remaining time in milliseconds (log 5). -/
abbrev Timer := Option Nat

/-- A value for each of the two cars. -/
structure PerCar (α : Type) where
  a : α
  b : α
  deriving DecidableEq, Repr

def PerCar.get {α : Type} (p : PerCar α) : Car → α
  | .a => p.a
  | .b => p.b

def PerCar.set {α : Type} (p : PerCar α) (c : Car) (x : α) : PerCar α :=
  match c with
  | .a => { p with a := x }
  | .b => { p with b := x }

/-- A direction along the line (00 section 3.1). A direction that may be NONE or absent is an `Option Dir`. -/
inductive Dir where
  | up | down
  deriving DecidableEq, Repr

/-! ### Configuration Store (chapter 1) -/

/-- The six tables in table order (section 1.2). -/
inductive TableId where
  | line | stop | zone | platform | gate | datum
  deriving DecidableEq, Repr

/-- The last validation result (R13). -/
inductive ValResult where
  | pass
  | failed (table : TableId) (index : Nat)
  | checkWord
  deriving DecidableEq, Repr

inductive CommitState where
  | idle | writing
  deriving DecidableEq, Repr

/-- The result of the latest commit (R16). -/
inductive CommitResult where
  | none | ok | failed
  deriving DecidableEq, Repr

/-- The levels of brake demand, lowest first (chapter 6). -/
inductive Level where
  | none | caution | service | emergency | rail
  deriving DecidableEq, Repr

/-- The rank of a level in the order NONE, CAUTION, SERVICE, EMERGENCY, RAIL. -/
def Level.rank : Level → Nat
  | .none => 0
  | .caution => 1
  | .service => 2
  | .emergency => 3
  | .rail => 4

/-- The causes in the order of the table of R101, the LINK causes counted as three. -/
inductive Cause where
  | overspeed | overrun | speedDisagree | positionDisagree | datumMismatch | measurement | decelShort
  | linkDrv | linkCra | linkCrb | door | car | drive | estop | console | ebFault | reset
  deriving DecidableEq, Repr

/-- An entry of the cause set (R98). -/
structure CauseEntry where
  cause : Cause
  level : Level
  deriving DecidableEq, Repr

/-- The line modes (R22). -/
inductive LineMode where
  | locked | maintenance | standby | service | recovery
  deriving DecidableEq, Repr

/-- The reset cause record (R20). -/
structure ResetCause where
  present : Bool
  firstCause : Option Cause
  causes : List CauseEntry
  latched : Level
  mode : LineMode
  commitInterrupted : Bool
  count : Nat
  deriving DecidableEq, Repr

/-- The Configuration Store. A check word of `none` is the erased state (R8). -/
structure Cfs where
  tables : Tables
  stored : Tables
  checkWord : Option CheckWord
  storedValid : Bool
  uncommitted : Bool
  workingValid : Bool
  commit : CommitState
  lastValidation : ValResult
  lastCommit : CommitResult
  resetCause : ResetCause
  /-- The model's own: how many writes a reset has ended, which numbers the free values of log 11. -/
  interrupts : Nat
  deriving DecidableEq, Repr

/-! ### Measurement Unit (chapter 3) -/

inductive ChannelStatus where
  | empty | filling | good | failed
  deriving DecidableEq, Repr

/-- A datum outcome (R49): the correction or the difference in mm. -/
inductive DatumOutcome where
  | none
  | corrected (mm : Int)
  | mismatch (mm : Int)
  | skipped
  deriving DecidableEq, Repr

structure RingEntry where
  position : Int
  held : Bool
  deriving DecidableEq, Repr

/-- A measurement channel (the table of chapter 3). `inRange` is what R47 keeps of the channel's latest range test. -/
structure Channel where
  position : Option Int
  offset : Int
  ring : List RingEntry
  speed : Nat
  dir : Option Dir
  status : ChannelStatus
  badRun : Nat
  badTotal : Nat
  resynced : Bool
  lastDatum : DatumOutcome
  inRange : Bool
  deriving DecidableEq, Repr

structure DatumRecord where
  edges : Nat
  outcome1 : DatumOutcome
  outcome2 : DatumOutcome
  deriving DecidableEq, Repr

structure Msu where
  ch1 : Channel
  ch2 : Channel
  sampleTimer : Timer
  qualified : Bool
  vMeas : Nat
  motion : Option Dir
  pSup : Option Int
  positionDisagree : Bool
  speedDisagree : Nat
  outOfRange : Bool
  standstillTimer : Timer
  standstill : Bool
  datums : Vector DatumRecord 4
  deriving DecidableEq, Repr

/-! ### Run Coordinator (chapters 2 and 4) -/

inductive Origin where
  | con | sta1 | sta2
  deriving DecidableEq, Repr

/-- A trip request (R62). -/
structure Trip where
  target : Fin 6
  origin : Origin
  merged : Nat
  deriving DecidableEq, Repr

inductive ModeCause where
  | reset | console | abortLimit | brakeReset | resync
  deriving DecidableEq, Repr

/-- The mode change record (R22). -/
structure ModeChange where
  previous : LineMode
  new : LineMode
  cause : ModeCause
  cancelled : List Trip
  deriving DecidableEq, Repr

inductive RunState where
  | atStop | offStop | closing | departing | running | stopping | arrested
  deriving DecidableEq, Repr

inductive AuthState where
  | none | prove | granted | withdrawn
  deriving DecidableEq, Repr

/-- The authority record (R57). -/
structure Authority where
  state : AuthState
  targetStop : Option (Fin 6)
  targetPosition : Option Int
  dir : Option Dir
  ceiling : Nat
  withdrawalPoint : Option Int
  deriving DecidableEq, Repr

inductive DriveState where
  | idle | proving | torqueProved | running | fault
  deriving DecidableEq, Repr

inductive SbCondition where
  | applied | lifted
  deriving DecidableEq, Repr

structure DriveReport where
  state : DriveState
  sb : SbCondition
  deriving DecidableEq, Repr

/-- The readiness conditions in the order of R70. -/
inductive ReadyCond where
  | releases | doors | brakeLatch | estop | measurement | standstill | linkDrv | linkCra | linkCrb
  | drive | carFault | rail | overload
  deriving DecidableEq, Repr

structure Rco where
  mode : LineMode
  modeChange : ModeChange
  runState : RunState
  currentStop : Option (Fin 6)
  tripInHand : Option Trip
  /-- The direction fixed when the head was taken (R68, R71). -/
  tripDir : Dir
  jogRun : Bool
  brakesSet : Bool
  dwellTimer : Timer
  dwellElapsed : Bool
  abortCount : Nat
  jogTimer : Timer
  driveReport : Option DriveReport
  authority : Authority
  queue : List Trip
  droppedCount : Nat
  lastDropped : Option Trip
  firstFailing : Option ReadyCond
  deriving DecidableEq, Repr

/-! ### Speed Supervisor (chapter 5) -/

inductive SupMode where
  | curve | fixed | idle
  deriving DecidableEq, Repr

inductive LimitTerm where
  | target
  | zoneStart (zone : Fin 16)
  | zoneLimit
  | line
  | ceiling
  | none
  deriving DecidableEq, Repr

/-- The load snapshot (R84). -/
structure Snapshot where
  descending : Car
  tallyA : Nat
  tallyB : Nat
  weighA : Option Nat
  weighB : Option Nat
  massDescending : Nat
  massAscending : Nat
  deltaM : Nat
  loadUnits : Nat
  deriving DecidableEq, Repr

/-- The excursion record (R96). -/
structure Excursion where
  mode : SupMode
  vMeas : Nat
  pSup : Option Int
  motion : Option Dir
  authState : AuthState
  targetPosition : Option Int
  vPerm : Nat
  term : LimitTerm
  aG : Option Nat
  mSb : Nat
  mEb : Nat
  asked : Level
  greatestLevel : Level
  greatestV : Nat
  deriving DecidableEq, Repr

/-- The supervision record (R80). -/
structure Ssv where
  mode : SupMode
  zone : Option (Fin 16)
  snapshot : Option Snapshot
  percent : Option Nat
  aZone : Option Nat
  aG : Option Nat
  target : Option Nat
  zoneCandidates : List (Fin 16 × Nat)
  vPerm : Nat
  term : LimitTerm
  mSb : Nat
  mEb : Nat
  asked : Level
  overrunFlag : Bool
  excursion : Option Excursion
  deriving DecidableEq, Repr

/-! ### Brake Sequencer (chapter 6) -/

/-- The brake demand record (R98). -/
structure Demand where
  causes : List CauseEntry
  latched : Level
  first : Option Cause
  caution : Bool
  current : Level
  deriving DecidableEq, Repr

inductive EscStage where
  | none | sbCheck | ebCheck
  deriving DecidableEq, Repr

inductive EscOutcome where
  | none
  | passed (stage : EscStage)
  | failed (stage : EscStage)
  deriving DecidableEq, Repr

/-- The escalation record (R107). -/
structure Escalation where
  stage : EscStage
  vEntry : Nat
  checkSpeed : Nat
  timer : Timer
  last : EscOutcome
  deriving DecidableEq, Repr

/-- The ESTOP record (R110). -/
structure Estop where
  active : Bool
  timer : Timer
  qualified : Bool
  deriving DecidableEq, Repr

inductive DepStep where
  | d1 | d2 | d3 | d4
  deriving DecidableEq, Repr

inductive StopStep where
  | s1 | s2
  deriving DecidableEq, Repr

/-- The sequence slot (R112). -/
inductive Slot where
  | idle
  | departure (step : DepStep)
  | stop (step : StopStep)
  deriving DecidableEq, Repr

/-- Which timer runs for the step in progress (R112). -/
inductive StepTimer where
  | railConfirm | ebLift | ebSettle | torqueProve | sbLift | sbConfirm | stopEbDelay | ebDrop
  deriving DecidableEq, Repr

inductive AbortCause where
  | stepTimeout | latch | estop | door | releaseHeld
  deriving DecidableEq, Repr

inductive DepOutcome where
  | none
  | completed
  | aborted (cause : AbortCause) (step : DepStep)
  deriving DecidableEq, Repr

inductive StopFault where
  | sbUnconfirmed | ebUnconfirmed
  deriving DecidableEq, Repr

inductive StopOutcome where
  | none
  | completed
  | completedWithFault (faults : List StopFault)
  deriving DecidableEq, Repr

/-- The running step timer with its remaining milliseconds. -/
structure RunningStep where
  which : StepTimer
  remaining : Nat
  deriving DecidableEq, Repr

structure Bks where
  demand : Demand
  /-- SB-DMD asserted (R103). -/
  sbDmd : Bool
  sbConfirmed : Bool
  /-- EB-HOLD energized (R104). -/
  ebHold : Bool
  ebProved : Bool
  /-- The level of the EBL input: risen (00 section 3.4). -/
  eblRisen : Bool
  esc : Escalation
  estop : Estop
  slot : Slot
  stepTimer : Option RunningStep
  lastDeparture : DepOutcome
  lastStop : StopOutcome
  /-- The fault list of the stop sequence in progress (R119, R120). -/
  faults : List StopFault
  deriving DecidableEq, Repr

/-! ### Door Unit (chapter 7) -/

inductive DoorCond where
  | unknown | closedLocked | closedUnlocked | opened
  deriving DecidableEq, Repr

inductive ReleaseState where
  | none | ordered | held | withdrawing
  deriving DecidableEq, Repr

inductive ReleaseKind where
  | platform (stop : Fin 6) (platform : Fin 8)
  | evacuation
  deriving DecidableEq, Repr

inductive WithdrawalCause where
  | none | closing | standby | ackLate | standstillLost | prove | carDropped | stale | evacuateEnd
  deriving DecidableEq, Repr

/-- The reasons of R126, in the order of its table, after NONE. -/
inductive RefusedRelease where
  | none | noPlatform | standstill | sequence | authority | releaseState
  deriving DecidableEq, Repr

inductive RailOrder where
  | apply | lift
  deriving DecidableEq, Repr

inductive RailCond where
  | unknown | applied | lifted | fault
  deriving DecidableEq, Repr

/-- The door record of a car (R123). -/
structure DoorRecord where
  door : DoorCond
  heldToken : Fin 16
  release : ReleaseState
  kind : Option ReleaseKind
  counter : Fin 16
  token : Fin 16
  side : Side
  ackTimer : Timer
  closeTimer : Timer
  overdue : Bool
  lastWithdrawal : WithdrawalCause
  lastRefused : RefusedRelease
  railOrder : RailOrder
  rail : RailCond
  carFault : Bool
  stale : Nat
  deriving DecidableEq, Repr

/-! ### Admission Unit (chapter 8) -/

inductive GateState where
  | idle | waiting | reserved
  deriving DecidableEq, Repr

/-- A gate channel record (R140). -/
structure GateChannel where
  state : GateState
  masked : Bool
  fault : Bool
  admissions : Nat
  duplicates : Nat
  timer : Timer
  deriving DecidableEq, Repr

inductive CloseReason where
  | none | closing | latch | releaseLost | mode
  deriving DecidableEq, Repr

/-- A session record (R144); a served car of `none` is NONE. -/
structure Session where
  isOpen : Bool
  served : Option Car
  stop : Option (Fin 6)
  reservations : Nat
  quietTimer : Timer
  waiting : List (Fin 16)
  shared : Bool
  unreserved : Nat
  lastClose : CloseReason
  deriving DecidableEq, Repr

/-- A car load record (R155), with the TALLY_OVER condition of R156 as last evaluated. -/
structure LoadRecord where
  tally : Nat
  weigh : Option Nat
  overload : Bool
  tallyOver : Bool
  deriving DecidableEq, Repr

structure Adu where
  gates : Vector GateChannel 16
  sessions : Vector Session 8
  load : PerCar LoadRecord
  unattributed : Nat
  deriving DecidableEq, Repr

/-! ### Port Controllers (chapter 9) -/

/-- An entry of a transmit queue (R165): address, kind code and payload; the controller adds the framing (R160). -/
structure TxEntry where
  isNotice : Bool
  addr : Byte
  kind : Byte
  payload : List Byte
  deriving DecidableEq, Repr

/-- The answers of a GATE NOTICE (R175). -/
inductive NoticeAnswer where
  | admitted | cancelled | refused
  deriving DecidableEq, Repr

/-- The reasons of GATE ANSWER and GATE NOTICE (R175). -/
inductive Reason where
  | none | noGate | masked | fault | exitGate | noCar | closed | idle
  deriving DecidableEq, Repr

/-- A pending GATE NOTICE with the answer kept with its flag (R166). -/
structure PendingGate where
  gate : Fin 16
  answer : NoticeAnswer
  reason : Reason
  deriving DecidableEq, Repr

/-- A notice handed to a port controller (R166). -/
inductive Notice where
  | driveOrder
  | carOrder (car : Car)
  | gate (n : PendingGate)
  deriving DecidableEq, Repr

structure Port where
  /-- The bytes of the frame being assembled, from its SYNC byte; empty while the receiver hunts (R161). -/
  frame : List Byte
  rx : List Request
  tx : List TxEntry
  /-- The pending flag of the port's DRIVE ORDER or CAR ORDER key (R166). -/
  pendingOrder : Bool
  /-- The pending GATE NOTICE keys, by ascending gate number (R166). -/
  pendingGates : List PendingGate
  degraded : Bool
  badCrc : Nat
  oversize : Nat
  unknownKind : Nat
  overrun : Nat
  /-- The link is ALIVE (R167). -/
  alive : Bool
  silence : Timer
  aliveSince : Bool
  losses : Nat
  deriving DecidableEq, Repr

structure Ports where
  drv : Port
  cra : Port
  crb : Port
  sta1 : Port
  sta2 : Port
  con : Port
  deriving DecidableEq, Repr

def Ports.get (p : Ports) : PortId → Port
  | .drv => p.drv
  | .cra => p.cra
  | .crb => p.crb
  | .sta1 => p.sta1
  | .sta2 => p.sta2
  | .con => p.con

def Ports.set (p : Ports) (i : PortId) (x : Port) : Ports :=
  match i with
  | .drv => { p with drv := x }
  | .cra => { p with cra := x }
  | .crb => { p with crb := x }
  | .sta1 => { p with sta1 := x }
  | .sta2 => { p with sta2 := x }
  | .con => { p with con := x }

/-- The write buffer of PC5 (R179): the segments 0 to `segments` − 1 taken so far. -/
structure WriteBuffer where
  table : TableId
  index : Nat
  segments : Nat
  bytes : List Byte
  deriving DecidableEq, Repr

inductive ReadKind where
  | query | configRead
  deriving DecidableEq, Repr

/-- The snapshot of the read buffer of PC5 (R181). -/
structure ReadBuffer where
  kind : ReadKind
  record : Nat
  n : Nat
  bytes : List Byte
  deriving DecidableEq, Repr

structure Pc5 where
  write : Option WriteBuffer
  read : Option ReadBuffer
  deriving DecidableEq, Repr

/-- The 26 attention items in the order of the group table of section 9.9. -/
inductive Attention where
  | brakeLatched | brakeEscalated | estopActive | ebConfirm | sbConfirm | departureAborted
  | sensorFailed | channelDisagree | datumFault | positionRange
  | doorAckLate | doorCloseOverdue | doorUnreleased | doorStaleToken | railFault
  | gateUnreserved | gateFault | tallyOver | platformShared
  | linkLost | portDegraded | rxOverrun
  | configInvalid | configCommitFailed
  | abortLimit | tripDropped
  deriving DecidableEq, Repr

/-- The place of an item in the group table, counted from 0. -/
def Attention.index : Attention → Fin 26
  | .brakeLatched => 0
  | .brakeEscalated => 1
  | .estopActive => 2
  | .ebConfirm => 3
  | .sbConfirm => 4
  | .departureAborted => 5
  | .sensorFailed => 6
  | .channelDisagree => 7
  | .datumFault => 8
  | .positionRange => 9
  | .doorAckLate => 10
  | .doorCloseOverdue => 11
  | .doorUnreleased => 12
  | .doorStaleToken => 13
  | .railFault => 14
  | .gateUnreserved => 15
  | .gateFault => 16
  | .tallyOver => 17
  | .platformShared => 18
  | .linkLost => 19
  | .portDegraded => 20
  | .rxOverrun => 21
  | .configInvalid => 22
  | .configCommitFailed => 23
  | .abortLimit => 24
  | .tripDropped => 25

/-! ### The part -/

structure State where
  /-- The image load of a reset is in progress (R9). -/
  loading : Bool
  cfs : Cfs
  msu : Msu
  rco : Rco
  ssv : Ssv
  bks : Bks
  dou : PerCar DoorRecord
  adu : Adu
  ports : Ports
  pc5 : Pc5
  /-- The attention items, set or clear, at their `Attention.index`. -/
  att : Vector Bool 26
  /-- MODEL's own: the port whose request is being decided (R164); none between two steps. -/
  answering : Option PortId
  /-- MODEL's own: notices that wait for that request's reply (R164); empty between two steps. -/
  held : List Notice
  /-- MODEL's own: the port at steps 1 and 2 of a transmission completion, where no telegram of its queue is in transmission (R165);
  none between two steps. -/
  completing : Option PortId
  /-- MODEL's own: the commands that wait, first in first out. -/
  pending : List Instr
  deriving DecidableEq, Repr

/-- Why the part stops. No rule of the spec stops it, and no meaning of the model raises a fault: the type is here for the
host's interface. -/
inductive Fault where
  /-- Raised by nothing; safe. -/
  | noFault
  deriving DecidableEq, Repr

/-- Why a command has no meaning. -/
inductive Refusal where
  /-- Raised by an arm of `exec` whose command is not modelled; safe (the model claims nothing there). No arm raises it now. -/
  | notModelled (mnemonic : String)
  deriving DecidableEq, Repr

/-! ### Updates of one block each -/

def State.withLoading (s : State) (b : Bool) : State := { s with loading := b }
def State.withCfs (s : State) (x : Cfs) : State := { s with cfs := x }
def State.withMsu (s : State) (x : Msu) : State := { s with msu := x }
def State.withRco (s : State) (x : Rco) : State := { s with rco := x }
def State.withSsv (s : State) (x : Ssv) : State := { s with ssv := x }
def State.withBks (s : State) (x : Bks) : State := { s with bks := x }
def State.withDou (s : State) (x : PerCar DoorRecord) : State := { s with dou := x }
def State.withAdu (s : State) (x : Adu) : State := { s with adu := x }
def State.withPorts (s : State) (x : Ports) : State := { s with ports := x }
def State.withPc5 (s : State) (x : Pc5) : State := { s with pc5 := x }
def State.withAtt (s : State) (x : Vector Bool 26) : State := { s with att := x }
def State.withAnswering (s : State) (x : Option PortId) : State := { s with answering := x }
def State.withHeld (s : State) (x : List Notice) : State := { s with held := x }
def State.withCompleting (s : State) (x : Option PortId) : State := { s with completing := x }
def State.withPending (s : State) (x : List Instr) : State := { s with pending := x }

/-! ### Values after reset -/

def Channel.reset : Channel where
  position := none
  offset := 0
  ring := []
  speed := 0
  dir := none
  status := .empty
  badRun := 0
  badTotal := 0
  resynced := false
  lastDatum := .none
  inRange := true

/-- R55. -/
def Msu.reset : Msu where
  ch1 := Channel.reset
  ch2 := Channel.reset
  sampleTimer := none
  qualified := false
  vMeas := 0
  motion := none
  pSup := none
  positionDisagree := false
  speedDisagree := 0
  outOfRange := false
  standstillTimer := none
  standstill := false
  datums := Vector.replicate 4 { edges := 0, outcome1 := .none, outcome2 := .none }

def Authority.reset : Authority where
  state := .none
  targetStop := none
  targetPosition := none
  dir := none
  ceiling := 0
  withdrawalPoint := none

/-- R22, R56, R57, R62, R66: the values after a reset in which `previous` was the mode in force. -/
def Rco.reset (previous : LineMode) : Rco where
  mode := .locked
  modeChange := { previous := previous, new := .locked, cause := .reset, cancelled := [] }
  runState := .arrested
  currentStop := none
  tripInHand := none
  tripDir := .up
  jogRun := false
  brakesSet := true
  dwellTimer := none
  dwellElapsed := false
  abortCount := 0
  jogTimer := none
  driveReport := none
  authority := Authority.reset
  queue := []
  droppedCount := 0
  lastDropped := none
  firstFailing := none

/-- R80. -/
def Ssv.reset : Ssv where
  mode := .idle
  zone := none
  snapshot := none
  percent := none
  aZone := none
  aG := none
  target := none
  zoneCandidates := []
  vPerm := 0
  term := .none
  mSb := 200
  mEb := 400
  asked := .none
  overrunFlag := false
  excursion := none

/-- R98. -/
def Demand.reset : Demand where
  causes := [{ cause := .reset, level := .emergency }]
  latched := .emergency
  first := some .reset
  caution := false
  current := .emergency

/-- R107. -/
def Escalation.reset : Escalation where
  stage := .none
  vEntry := 0
  checkSpeed := 0
  timer := none
  last := .none

/-- R98, R103, R104, R106, R107, R110, R112; the two pins keep their levels (log 8). -/
def Bks.reset (estopActive eblRisen : Bool) : Bks where
  demand := Demand.reset
  sbDmd := true
  sbConfirmed := false
  ebHold := false
  ebProved := false
  eblRisen := eblRisen
  esc := Escalation.reset
  estop := { active := estopActive, timer := none, qualified := false }
  slot := .idle
  stepTimer := none
  lastDeparture := .none
  lastStop := .none
  faults := []

/-- R123. -/
def DoorRecord.reset : DoorRecord where
  door := .unknown
  heldToken := 0
  release := .none
  kind := none
  counter := 0
  token := 0
  side := .left
  ackTimer := none
  closeTimer := none
  overdue := false
  lastWithdrawal := .none
  lastRefused := .none
  railOrder := .apply
  rail := .unknown
  carFault := false
  stale := 0

def GateChannel.reset : GateChannel where
  state := .idle
  masked := false
  fault := false
  admissions := 0
  duplicates := 0
  timer := none

def Session.reset : Session where
  isOpen := false
  served := none
  stop := none
  reservations := 0
  quietTimer := none
  waiting := []
  shared := false
  unreserved := 0
  lastClose := .none

/-- R157: the tallies are those given. -/
def Adu.reset (tallyA tallyB : Nat) : Adu where
  gates := Vector.replicate 16 GateChannel.reset
  sessions := Vector.replicate 8 Session.reset
  load :=
    { a := { tally := tallyA, weigh := none, overload := false, tallyOver := false }
      b := { tally := tallyB, weigh := none, overload := false, tallyOver := false } }
  unattributed := 0

/-- R161 to R167. -/
def Port.reset : Port where
  frame := []
  rx := []
  tx := []
  pendingOrder := false
  pendingGates := []
  degraded := false
  badCrc := 0
  oversize := 0
  unknownKind := 0
  overrun := 0
  alive := false
  silence := none
  aliveSince := false
  losses := 0

def Ports.reset : Ports where
  drv := Port.reset
  cra := Port.reset
  crb := Port.reset
  sta1 := Port.reset
  sta2 := Port.reset
  con := Port.reset

/-- The reset cause record after a power-on reset (R20). -/
def ResetCause.cleared : ResetCause where
  present := false
  firstCause := none
  causes := []
  latched := .none
  mode := .locked
  commitInterrupted := false
  count := 0

/-- The Configuration Store after a load that failed on an erased check word (R9). -/
def Cfs.blank : Cfs where
  tables := Tables.empty
  stored := Tables.empty
  checkWord := none
  storedValid := false
  uncommitted := false
  workingValid := false
  commit := .idle
  lastValidation := .checkWord
  lastCommit := .none
  resetCause := ResetCause.cleared
  interrupts := 0

/-- The part right after a power-on reset, its image load begun (R9, R20), with a storage that nothing has been committed to
(DESIGN CHOICE, log 7) and both pins at rest (DESIGN CHOICE, log 8). -/
def State.reset : State where
  loading := true
  cfs := Cfs.blank
  msu := Msu.reset
  rco := Rco.reset .locked
  ssv := Ssv.reset
  bks := Bks.reset false false
  dou := { a := DoorRecord.reset, b := DoorRecord.reset }
  adu := Adu.reset 0 0
  ports := Ports.reset
  pc5 := { write := none, read := none }
  att := (Vector.replicate 26 false).set Attention.configInvalid.index.val true
  answering := none
  held := []
  completing := none
  pending := []

end Sys2Proof.Machine
end

