-- ==== Sys2Proof/Machine/Ops.lean ====
section
/-! DEFINITION. The named operations over State that every block shares: updates of one record, attention items, timers and
the passing of time, access to the working tables, and the integer arithmetic of 00 section 3.2. -/

namespace Sys2Proof

/-- The platform field of a stop for a car (R2). -/
def StopEntry.platform (e : StopEntry) : Car → Option (Fin 8)
  | .a => e.platformA
  | .b => e.platformB

/-- The door side of a stop for a car (R2). -/
def StopEntry.side (e : StopEntry) : Car → Side
  | .a => e.sideA
  | .b => e.sideB

/-- P lies inside the window of the stop (R2). -/
def StopEntry.inWindow (e : StopEntry) (p : Int) : Bool := e.position - e.halfWidth ≤ p && p ≤ e.position + e.halfWidth

/-- The port of a car (R160). -/
def Car.port : Car → PortId
  | .a => .cra
  | .b => .crb

def Sta.port : Sta → PortId
  | .sta1 => .sta1
  | .sta2 => .sta2

def Sta.origin : Sta → Machine.Origin
  | .sta1 => .sta1
  | .sta2 => .sta2

end Sys2Proof

namespace Sys2Proof.Machine

/-! ### Arithmetic (00 section 3.2) -/

/-- A count increased by 1 that stops at `cap`. -/
def satInc (cap n : Nat) : Nat := if n < cap then n + 1 else n

/-- A quotient rounded toward plus infinity. -/
def ceilDiv (n d : Nat) : Nat := (n + (d - 1)) / d

/-- |x|. -/
def mag (x : Int) : Nat := x.natAbs

/-- clamp(x, lo, hi). -/
def clamp (x lo hi : Int) : Int := if x < lo then lo else if hi < x then hi else x

/-- The binary digits of the root from `2 ^ k` down, added to `r` while the square does not exceed `n`. -/
def isqrtFrom (n : Nat) : Nat → Nat → Nat
  | 0, r => if (r + 1) * (r + 1) ≤ n then r + 1 else r
  | k + 1, r => isqrtFrom n k (if (r + 2 ^ (k + 1)) * (r + 2 ^ (k + 1)) ≤ n then r + 2 ^ (k + 1) else r)

/-- isqrt(x): the largest integer whose square does not exceed x. -/
def isqrt (n : Nat) : Nat := isqrtFrom n (n.log2 / 2) 0

/-- A map over a table, entry by entry. -/
def mapVec {α β : Type} {n : Nat} (f : α → β) (v : Vector α n) : Vector β n := ⟨⟨v.toList.map f⟩, by simp⟩

/-- The indices of a table in order. -/
def allStops : List (Fin 6) := [0, 1, 2, 3, 4, 5]
def allPlatforms : List (Fin 8) := [0, 1, 2, 3, 4, 5, 6, 7]
def allIndices : List (Fin 16) := [0, 1, 2, 3, 4, 5, 6, 7, 8, 9, 10, 11, 12, 13, 14, 15]
def allDatums : List (Fin 4) := [0, 1, 2, 3]

/-! ### Timers -/

/-- A timer started afresh with a period in milliseconds. -/
def startMs (period : Nat) : Timer := some period

/-- A timer started afresh with a period in seconds. -/
def startSec (period : Nat) : Timer := some (1000 * period)

/-- A timer after one millisecond more; it stops at 0 until its expiry is taken (log 5). -/
def Timer.tick (t : Timer) : Timer := t.map (· - 1)

/-! ### The working tables (R1 to R7: each block reads them at the moment it uses them) -/

def State.line (s : State) : LineConsts := s.cfs.tables.line
def State.stopEntry (s : State) (k : Fin 6) : StopEntry := s.cfs.tables.stops.get k
def State.zoneEntry (s : State) (z : Fin 16) : ZoneEntry := s.cfs.tables.zones.get z
def State.platformEntry (s : State) (p : Fin 8) : PlatformEntry := s.cfs.tables.platforms.get p
def State.gateEntry (s : State) (g : Fin 16) : GateEntry := s.cfs.tables.gates.get g
def State.datumEntry (s : State) (n : Fin 4) : DatumEntry := s.cfs.tables.datums.get n

/-! ### Records -/

def State.port (s : State) (i : PortId) : Port := s.ports.get i
def State.withPort (s : State) (i : PortId) (p : Port) : State := s.withPorts (s.ports.set i p)
def State.door (s : State) (c : Car) : DoorRecord := s.dou.get c
def State.withDoor (s : State) (c : Car) (d : DoorRecord) : State := s.withDou (s.dou.set c d)
def State.load (s : State) (c : Car) : LoadRecord := s.adu.load.get c
def State.withLoad (s : State) (c : Car) (l : LoadRecord) : State := s.withAdu { s.adu with load := s.adu.load.set c l }
def State.gate (s : State) (g : Fin 16) : GateChannel := s.adu.gates.get g
def State.withGate (s : State) (g : Fin 16) (x : GateChannel) : State :=
  s.withAdu { s.adu with gates := s.adu.gates.set g.val x g.isLt }
def State.session (s : State) (p : Fin 8) : Session := s.adu.sessions.get p
def State.withSession (s : State) (p : Fin 8) (x : Session) : State :=
  s.withAdu { s.adu with sessions := s.adu.sessions.set p.val x p.isLt }
def State.withDemand (s : State) (d : Demand) : State := s.withBks { s.bks with demand := d }

/-- The attention item is set. -/
def State.attention (s : State) (i : Attention) : Bool := s.att.get i.index
def State.setAttention (s : State) (i : Attention) : State := s.withAtt (s.att.set i.index.val true i.index.isLt)
def State.clearAttention (s : State) (i : Attention) : State := s.withAtt (s.att.set i.index.val false i.index.isLt)

/-- The part is out of reset with its image loaded, so that its blocks operate (R9). -/
def State.operating (s : State) : Bool := !s.loading

/-- An event that only an operating block takes: nothing happens during the image load (R9, log 3). -/
def whileOperating (s : State) (f : State → State) : State := if s.operating then f s else s

/-! ### The cars, the ports and the gates -/

/-- The station port on which a gate's telegrams travel (R5). -/
def gateSta (g : Fin 16) : Sta := if g.val < 8 then .sta1 else .sta2

def allCars : List Car := [.a, .b]

/-- The order in which P lies beyond Q when travelling in a direction: P further along than Q. -/
def Dir.beyond : Dir → Int → Int → Bool
  | .up, p, q => q < p
  | .down, p, q => p < q

def Dir.opposite : Dir → Dir
  | .up => .down
  | .down => .up

/-- The distance from P to Q in a direction of travel (R87). -/
def Dir.distance : Dir → Int → Int → Int
  | .up, p, q => q - p
  | .down, p, q => p - q

/-- The car that descends when the line travels in the direction (R1). -/
def Dir.descending : Dir → Car
  | .up => .b
  | .down => .a

/-! ### The passing of time (log 5) -/

def DoorRecord.tick (d : DoorRecord) : DoorRecord := { d with ackTimer := d.ackTimer.tick, closeTimer := d.closeTimer.tick }
def GateChannel.tick (g : GateChannel) : GateChannel := { g with timer := g.timer.tick }
def Session.tick (x : Session) : Session := { x with quietTimer := x.quietTimer.tick }
def Port.tick (p : Port) : Port := { p with silence := p.silence.tick }

/-- One millisecond passes: each running timer has one millisecond less to run. No timer expires by it. -/
def State.elapse (s : State) : State :=
  { s with
    msu := { s.msu with sampleTimer := s.msu.sampleTimer.tick, standstillTimer := s.msu.standstillTimer.tick }
    rco := { s.rco with dwellTimer := s.rco.dwellTimer.tick, jogTimer := s.rco.jogTimer.tick }
    bks :=
      { s.bks with
        esc := { s.bks.esc with timer := s.bks.esc.timer.tick }
        estop := { s.bks.estop with timer := s.bks.estop.timer.tick }
        stepTimer := s.bks.stepTimer.map fun t => { t with remaining := t.remaining - 1 } }
    dou := { a := s.dou.a.tick, b := s.dou.b.tick }
    adu := { s.adu with gates := mapVec GateChannel.tick s.adu.gates, sessions := mapVec Session.tick s.adu.sessions }
    ports :=
      { drv := s.ports.drv.tick, cra := s.ports.cra.tick, crb := s.ports.crb.tick,
        sta1 := s.ports.sta1.tick, sta2 := s.ports.sta2.tick, con := s.ports.con.tick } }

end Sys2Proof.Machine
end

