-- ==== Sys2Proof/Machine/Operands.lean ====
section
/-! DEFINITION. The codings of chapter 10: bytes and multi-byte values, the check word, the frame, the fields of every telegram
kind in both directions, and the values that a field outside its coding is taken as (R173 to R177, R179). -/

namespace Sys2Proof

def Car.code : Car → Byte
  | .a => 0
  | .b => 1

def Car.ofCode (b : Byte) : Option Car :=
  match b.toNat with
  | 0 => some .a
  | 1 => some .b
  | _ => none

def Side.code : Side → Byte
  | .left => 0
  | .right => 1
  | .both => 2

def Side.ofCode (b : Byte) : Option Side :=
  match b.toNat with
  | 0 => some .left
  | 1 => some .right
  | 2 => some .both
  | _ => none

/-- The command kind codes of R177. -/
def Command.kind : Command → Byte
  | .mode _ => 1
  | .trip _ => 2
  | .cancel _ => 3
  | .hold => 4
  | .jog _ => 5
  | .stop => 6
  | .brakeReset => 7
  | .evacuate _ _ => 8
  | .evacuateEnd _ => 9
  | .gateMask _ => 10
  | .gateUnmask _ => 11
  | .tallySet _ _ => 12
  | .configWrite _ _ _ _ _ => 13
  | .configRead _ _ _ => 14
  | .configCommit => 15
  | .query _ _ _ => 16
  | .clear _ => 17
  | .unknown k _ => k

end Sys2Proof

namespace Sys2Proof.Machine

/-! ### Values and bytes (R173): multi-byte values are sent high byte first -/

def byte (n : Nat) : Byte := BitVec.ofNat 8 n

/-- A 16-bit value, high byte first. -/
def bytes16 (w : BitVec 16) : List Byte := [(w >>> 8).setWidth 8, w.setWidth 8]

/-- A 32-bit value, high byte first. -/
def bytes32 (w : BitVec 32) : List Byte :=
  [(w >>> 24).setWidth 8, (w >>> 16).setWidth 8, (w >>> 8).setWidth 8, w.setWidth 8]

/-- A flag: 0 false, 1 true. -/
def encFlag (b : Bool) : List Byte := [if b then 1 else 0]

/-- The absent code of a one-byte field (R173; log 26). -/
def absent8 : List Byte := [0xFF]

/-- A one-byte count, percent, number of persons or token (log 22 for a value that does not fit). -/
def encCount (n : Nat) : List Byte := [if n < 256 then byte n else Config.unstatedByte n]

/-- A two-byte speed, deceleration, mass, time or count (log 22 for a value that does not fit). -/
def encWord (n : Nat) : List Byte := bytes16 (if n < 65536 then BitVec.ofNat 16 n else Config.unstatedWord n)

/-- A two-byte value that may be absent. -/
def encWord? : Option Nat → List Byte
  | some n => encWord n
  | none => [0xFF, 0xFF]

/-- A one-byte value that may be absent. -/
def encCount? : Option Nat → List Byte
  | some n => encCount n
  | none => absent8

/-- A position, distance or difference: 32-bit two's complement (log 22 for a value that does not fit). -/
def encPos (x : Int) : List Byte :=
  bytes32 (if -2147483648 ≤ x ∧ x < 2147483648 then BitVec.ofInt 32 x else Config.unstatedLong x)

/-- A position that may be absent: 0x80000000. -/
def encPos? : Option Int → List Byte
  | some x => encPos x
  | none => [0x80, 0, 0, 0]

/-- An index that may be NONE or absent: 0xFF. -/
def encIndex? {n : Nat} : Option (Fin n) → List Byte
  | some i => [byte i.val]
  | none => absent8

/-- A timer with a period in milliseconds: the running flag and the remaining time (R181). -/
def encTimerMs : Timer → List Byte
  | some r => encFlag true ++ encWord r
  | none => encFlag false ++ encWord 0

/-- A timer with a period in seconds: the running flag and the remaining time rounded up (R181). -/
def encTimerSec : Timer → List Byte
  | some r => encFlag true ++ encWord (ceilDiv r 1000)
  | none => encFlag false ++ encWord 0

/-- The number of entries in one byte, then the entries (R181). -/
def encList {α : Type} (enc : α → List Byte) (l : List α) : List Byte := encCount l.length ++ l.flatMap enc

/-! ### The codes of the enumerations, in the order of their value lists (R173) -/

def LineMode.code : LineMode → Byte
  | .locked => 0
  | .maintenance => 1
  | .standby => 2
  | .service => 3
  | .recovery => 4

/-- The mode a byte names (R177); none beyond its list. -/
def LineMode.ofCode (b : Byte) : Option LineMode :=
  match b.toNat with
  | 0 => some .locked
  | 1 => some .maintenance
  | 2 => some .standby
  | 3 => some .service
  | 4 => some .recovery
  | _ => none

def Dir.code : Dir → Byte
  | .up => 0
  | .down => 1

def Dir.ofCode (b : Byte) : Option Dir :=
  match b.toNat with
  | 0 => some .up
  | 1 => some .down
  | _ => none

def stopOfCode (b : Byte) : Option (Fin 6) := if h : b.toNat < 6 then some ⟨b.toNat, h⟩ else none
def gateOfCode (b : Byte) : Option (Fin 16) := if h : b.toNat < 16 then some ⟨b.toNat, h⟩ else none
def platformOfCode (b : Byte) : Option (Fin 8) := if h : b.toNat < 8 then some ⟨b.toNat, h⟩ else none

def TableId.code : TableId → Byte
  | .line => 0
  | .stop => 1
  | .zone => 2
  | .platform => 3
  | .gate => 4
  | .datum => 5

def TableId.ofCode (b : Byte) : Option TableId :=
  match b.toNat with
  | 0 => some .line
  | 1 => some .stop
  | 2 => some .zone
  | 3 => some .platform
  | 4 => some .gate
  | 5 => some .datum
  | _ => none

def AuthState.code : AuthState → Byte
  | .none => 0
  | .prove => 1
  | .granted => 2
  | .withdrawn => 3

def Level.code : Level → Byte
  | .none => 0
  | .caution => 1
  | .service => 2
  | .emergency => 3
  | .rail => 4

/-- The code of a level where the value list is NONE, SERVICE, EMERGENCY or RAIL (R20, R98). -/
def Level.latchCode : Level → Byte
  | .none => 0
  | .caution => 0
  | .service => 1
  | .emergency => 2
  | .rail => 3

/-- The code of a cause's level, whose value list is SERVICE, EMERGENCY or RAIL (R98). -/
def Level.causeCode : Level → Byte
  | .emergency => 1
  | .rail => 2
  | _ => 0

/-- The position of a cause in the table of R101, counted from 1 (R180). -/
def Cause.position : Cause → Nat
  | .overspeed => 1
  | .overrun => 2
  | .speedDisagree => 3
  | .positionDisagree => 4
  | .datumMismatch => 5
  | .measurement => 6
  | .decelShort => 7
  | .linkDrv => 8
  | .linkCra => 9
  | .linkCrb => 10
  | .door => 11
  | .car => 12
  | .drive => 13
  | .estop => 14
  | .console => 15
  | .ebFault => 16
  | .reset => 17

/-- The order of a readiness condition in R70, counted from 1 (R180). -/
def ReadyCond.order : ReadyCond → Nat
  | .releases => 1
  | .doors => 2
  | .brakeLatch => 3
  | .estop => 4
  | .measurement => 5
  | .standstill => 6
  | .linkDrv => 7
  | .linkCra => 8
  | .linkCrb => 9
  | .drive => 10
  | .carFault => 11
  | .rail => 12
  | .overload => 13

def Origin.code : Origin → Byte
  | .con => 0
  | .sta1 => 1
  | .sta2 => 2

def RailOrder.code : RailOrder → Byte
  | .apply => 0
  | .lift => 1

def Reason.code : Reason → Byte
  | .none => 0
  | .noGate => 1
  | .masked => 2
  | .fault => 3
  | .exitGate => 4
  | .noCar => 5
  | .closed => 6
  | .idle => 7

def NoticeAnswer.code : NoticeAnswer → Byte
  | .admitted => 0
  | .cancelled => 1
  | .refused => 2

/-- The answers of a GATE ANSWER (R175). -/
inductive GateAnswer where
  | admitted | wait | refused
  deriving DecidableEq, Repr

def GateAnswer.code : GateAnswer → Byte
  | .admitted => 0
  | .wait => 1
  | .refused => 2

/-- The results of a PASSAGE ANSWER (R175). -/
inductive PassageResult where
  | counted | unreserved | unattributed | noGate
  deriving DecidableEq, Repr

def PassageResult.code : PassageResult → Byte
  | .counted => 0
  | .unreserved => 1
  | .unattributed => 2
  | .noGate => 3

/-- The console result codes in the order of the table of R170. -/
inductive ResultCode where
  | accepted | merged | retargeted | refusedMode | refusedState | refusedRange | queueFull | busy
  deriving DecidableEq, Repr

def ResultCode.code : ResultCode → Byte
  | .accepted => 0
  | .merged => 1
  | .retargeted => 2
  | .refusedMode => 3
  | .refusedState => 4
  | .refusedRange => 5
  | .queueFull => 6
  | .busy => 7

/-- The item numbered n of CLEAR: 1 to 26 in the order of the group table (R177). -/
def Attention.ofCode (b : Byte) : Option Attention :=
  match b.toNat with
  | 1 => some .brakeLatched
  | 2 => some .brakeEscalated
  | 3 => some .estopActive
  | 4 => some .ebConfirm
  | 5 => some .sbConfirm
  | 6 => some .departureAborted
  | 7 => some .sensorFailed
  | 8 => some .channelDisagree
  | 9 => some .datumFault
  | 10 => some .positionRange
  | 11 => some .doorAckLate
  | 12 => some .doorCloseOverdue
  | 13 => some .doorUnreleased
  | 14 => some .doorStaleToken
  | 15 => some .railFault
  | 16 => some .gateUnreserved
  | 17 => some .gateFault
  | 18 => some .tallyOver
  | 19 => some .platformShared
  | 20 => some .linkLost
  | 21 => some .portDegraded
  | 22 => some .rxOverrun
  | 23 => some .configInvalid
  | 24 => some .configCommitFailed
  | 25 => some .abortLimit
  | 26 => some .tripDropped
  | _ => none

/-! ### Fields outside their coding (R176) -/

/-- Drive state: above 4 is taken as FAULT. -/
def DriveState.ofByte (b : Byte) : DriveState :=
  match b.toNat with
  | 0 => .idle
  | 1 => .proving
  | 2 => .torqueProved
  | 3 => .running
  | _ => .fault

/-- SB condition: above 1 is taken as LIFTED. -/
def SbCondition.ofByte (b : Byte) : SbCondition := if b.toNat = 0 then .applied else .lifted

/-- Door condition: 0 and above 3 are taken as OPEN. -/
def DoorCond.ofByte (b : Byte) : DoorCond :=
  match b.toNat with
  | 1 => .closedLocked
  | 2 => .closedUnlocked
  | _ => .opened

/-- Held token: above 15 is a token that matches none (`none`). -/
def tokenOfByte (b : Byte) : Option (Fin 16) := if h : b.toNat < 16 then some ⟨b.toNat, h⟩ else none

/-- Rail condition: above 2 is taken as FAULT. -/
def RailCond.ofByte (b : Byte) : RailCond :=
  match b.toNat with
  | 0 => .applied
  | 1 => .lifted
  | _ => .fault

/-- Weigh present, car fault, gate fault: any value other than 0 is true. -/
def flagOfByte (b : Byte) : Bool := b != 0

/-! ### The check word (R174) -/

/-- One message bit enters the register. -/
def crcBit (r : CheckWord) (bit : Bool) : CheckWord :=
  if r.msb != bit then (r <<< 1) ^^^ 0x1021 else r <<< 1

/-- One byte, most significant bit first. -/
def crcByte (r : CheckWord) (b : Byte) : CheckWord :=
  [7, 6, 5, 4, 3, 2, 1, 0].foldl (fun r i => crcBit r (b.getLsbD i)) r

/-- The CRC-16 of R174 over the bytes in the order sent. -/
def crc16 (bytes : List Byte) : CheckWord := bytes.foldl crcByte 0xFFFF

/-! ### The frame (R173) -/

/-- The SYNC value. -/
def sync : Byte := 0x7E

/-- The frame of a telegram as the transmitter sends it. -/
def TxEntry.frame (e : TxEntry) : List Byte :=
  let body := e.addr :: e.kind :: byte e.payload.length :: e.payload
  sync :: body ++ bytes16 (crc16 body)

/-- The record bytes of each table (R178). -/
def TableId.recordBytes : TableId → Nat
  | .line => 55
  | .stop => 11
  | .zone => 8
  | .platform => 2
  | .gate => 3
  | .datum => 5

/-- The segments of a record: three for LINE and one for every other table (R178, R179). -/
def TableId.segments : TableId → Nat
  | .line => 3
  | _ => 1

/-- The record bytes of a segment: 19, 19 and 17 for LINE (R178); none where the number names no segment. -/
def TableId.segmentBytes (t : TableId) (segment : Nat) : Option Nat :=
  match t with
  | .line => if segment = 0 ∨ segment = 1 then some 19 else if segment = 2 then some 17 else none
  | _ => if segment = 0 then some t.recordBytes else none

/-- The indices of a table (section 1.2). -/
def TableId.size : TableId → Nat
  | .line => 1
  | .stop => 6
  | .zone => 16
  | .platform => 8
  | .gate => 16
  | .datum => 4

/-- What the receiver makes of a frame with a good check word (R161, point 3). -/
inductive Verdict where
  | valid (r : Request)
  | unknownKind
  | badLength
  deriving DecidableEq, Repr

/-- The payload of a COMMAND (R177, R179): its LEN is at least 1 and, for a known kind, that of the table. -/
def parseCommand (payload : List Byte) : Option Command :=
  match payload with
  | [] => none
  | k :: args =>
    match k.toNat, args with
    | 1, [m] => some (.mode m)
    | 2, [x] => some (.trip x)
    | 3, [x] => some (.cancel x)
    | 4, [] => some .hold
    | 5, [d] => some (.jog d)
    | 6, [] => some .stop
    | 7, [] => some .brakeReset
    | 8, [c, d] => some (.evacuate c d)
    | 9, [c] => some (.evacuateEnd c)
    | 10, [g] => some (.gateMask g)
    | 11, [g] => some (.gateUnmask g)
    | 12, [c, n] => some (.tallySet c n)
    | 13, t :: i :: sg :: cnt :: rest =>
      match (TableId.ofCode t).bind (·.segmentBytes sg.toNat) with
      | some n => if rest.length = n then some (.configWrite t i sg cnt rest) else none
      | none => some (.configWrite t i sg cnt rest)
    | 14, [t, i, sg] => some (.configRead t i sg)
    | 15, [] => some .configCommit
    | 16, [r, n, sg] => some (.query r n sg)
    | 17, [i] => some (.clear i)
    | n, args => if 1 ≤ n ∧ n ≤ 17 then none else some (.unknown k args)

/-- A frame with a good check word on a port: the kind and the address are judged first, then LEN (R160, R161, R173). -/
def judge (port : PortId) (addr kind : Byte) (payload : List Byte) : Verdict :=
  match port, kind.toNat with
  | .drv, 0x11 =>
    if addr = 0 then
      match payload with
      | [a, b] => .valid (.driveReport a b)
      | _ => .badLength
    else .unknownKind
  | .cra, 0x21 | .crb, 0x21 =>
    if addr = 0 then
      match payload with
      | [a, b, c, d, e, f, g] => .valid (.carReport a b c d (e ++ f) g)
      | _ => .badLength
    else .unknownKind
  | .con, 0x51 =>
    if addr = 0 then
      match parseCommand payload with
      | some c => .valid (.command c)
      | none => .badLength
    else .unknownKind
  | .sta1, 0x31 | .sta2, 0x31 =>
    match gateOfCode addr with
    | some g => if payload = [] then .valid (.validate g) else .badLength
    | none => .unknownKind
  | .sta1, 0x32 | .sta2, 0x32 =>
    match gateOfCode addr with
    | some g => if payload = [] then .valid (.passage g) else .badLength
    | none => .unknownKind
  | .sta1, 0x33 | .sta2, 0x33 =>
    if h : 0x80 ≤ addr.toNat ∧ addr.toNat < 0x88 then
      if payload = [] then .valid (.call ⟨addr.toNat - 0x80, by omega⟩) else .badLength
    else .unknownKind
  | .sta1, 0x34 | .sta2, 0x34 =>
    match gateOfCode addr with
    | some g =>
      match payload with
      | [f] => .valid (.gateReport g f)
      | _ => .badLength
    | none => .unknownKind
  | _, _ => .unknownKind

/-! ### Telegrams that the part sends (R175, R176) -/

/-- The form field: REPLY when the telegram answers a report, NOTICE otherwise. -/
def formCode (isNotice : Bool) : List Byte := [if isNotice then 1 else 0]

/-- A DRIVE ORDER with the record as it stands (R57). -/
def driveOrderTelegram (s : State) (isNotice : Bool) : TxEntry where
  isNotice := isNotice
  addr := 0
  kind := 0x91
  payload :=
    formCode isNotice ++ [s.rco.authority.state.code] ++ encPos? s.rco.authority.targetPosition ++
      (match s.rco.authority.dir with | some d => [d.code] | none => absent8) ++
      encWord s.rco.authority.ceiling ++ [s.bks.demand.current.code]

/-- A CAR ORDER with the car's record as it stands (R124). -/
def carOrderTelegram (s : State) (c : Car) (isNotice : Bool) : TxEntry where
  isNotice := isNotice
  addr := 0
  kind := 0xA1
  payload :=
    formCode isNotice ++ [byte (s.door c).token.val, (s.door c).side.code, (s.door c).railOrder.code] ++
      encFlag (s.load c).overload

/-- A GATE NOTICE; its address is the gate's (R173). -/
def gateNotice (n : PendingGate) : TxEntry where
  isNotice := true
  addr := byte n.gate.val
  kind := 0xB4
  payload := [n.answer.code, n.reason.code]

/-- A GATE ANSWER; each reply carries the address of its request (R173). -/
def gateAnswer (g : Fin 16) (a : GateAnswer) (r : Reason) : TxEntry where
  isNotice := false
  addr := byte g.val
  kind := 0xB1
  payload := [a.code, r.code]

def passageAnswer (g : Fin 16) (r : PassageResult) : TxEntry where
  isNotice := false
  addr := byte g.val
  kind := 0xB2
  payload := [r.code]

def callAnswer (p : Fin 8) (r : ResultCode) : TxEntry where
  isNotice := false
  addr := byte (0x80 + p.val)
  kind := 0xB3
  payload := [r.code]

/-- A RESULT (R180): result code, attention summary, command kind, detail. -/
def resultTelegram (code : ResultCode) (summary kind : Byte) (detail : List Byte) : TxEntry where
  isNotice := false
  addr := 0
  kind := 0xD1
  payload := code.code :: summary :: kind :: detail

end Sys2Proof.Machine
end

