-- ==== Sys2Proof/Machine/Flags.lean ====
section
/-! DEFINITION. Every condition and flag that a rule computes from State: the window test, the line being live, the readiness
conditions, the conditions of the brake causes, the load flags, the admission policy's index, and the attention summary. -/

namespace Sys2Proof.Machine

/-! ### The slot and the authority -/

def Slot.isDeparture : Slot → Bool
  | .departure _ => true
  | _ => false

/-- The authority state is GRANTED or WITHDRAWN. -/
def AuthState.running : AuthState → Bool
  | .granted => true
  | .withdrawn => true
  | _ => false

/-- The line is live (R102). -/
def State.live (s : State) : Bool := !s.msu.standstill || s.bks.slot.isDeparture || s.rco.authority.state.running

/-! ### Measurement -/

/-- Both channel positions lie inside the window of stop k; a channel with no good read since reset contains no position (R44). -/
def State.insideWindow (s : State) (k : Fin 6) : Bool :=
  match s.msu.ch1.position, s.msu.ch2.position with
  | some p1, some p2 => (s.stopEntry k).inWindow p1 && (s.stopEntry k).inWindow p2
  | _, _ => false

/-- The window test (R44): the present stop of lowest index whose window contains both latest channel positions. -/
def State.windowTest (s : State) : Option (Fin 6) := allStops.find? fun k => (s.stopEntry k).present && s.insideWindow k

/-- Supervised values exist: both channels have had a good read since reset (R43). -/
def Msu.supervised (m : Msu) : Bool := m.ch1.position.isSome && m.ch2.position.isSome

/-- The greatest difference between the channel speeds that agrees (R46). -/
def speedLimit (v1 v2 : Nat) : Nat := max 150 (max v1 v2 / 16)

/-- The channels disagree in speed (R46). -/
def speedsDisagree (v1 v2 : Nat) : Bool := speedLimit v1 v2 < max v1 v2 - min v1 v2

/-- A position lies in the measurable range (R47). -/
def measurable (l : LineConsts) (p : Int) : Bool := -l.overrun ≤ p && p ≤ l.length + l.overrun

/-! ### Departure readiness (R70) -/

def State.linkAlive (s : State) (i : PortId) : Bool := (s.port i).alive

/-- Both cars have release state NONE. -/
def State.releasesNone (s : State) : Bool := s.dou.a.release == .none && s.dou.b.release == .none

/-- Both cars report door condition CLOSED_LOCKED. -/
def State.doorsLocked (s : State) : Bool := s.dou.a.door == .closedLocked && s.dou.b.door == .closedLocked

/-- A readiness condition holds. -/
def State.readyHolds (s : State) : ReadyCond → Bool
  | .releases => s.releasesNone
  | .doors => s.doorsLocked
  | .brakeLatch => s.bks.demand.latched == .none
  | .estop => !s.bks.estop.qualified
  | .measurement => s.msu.qualified
  | .standstill => s.msu.standstill
  | .linkDrv => s.linkAlive .drv
  | .linkCra => s.linkAlive .cra
  | .linkCrb => s.linkAlive .crb
  | .drive => s.rco.driveReport == some { state := .idle, sb := .applied }
  | .carFault => !s.dou.a.carFault && !s.dou.b.carFault
  | .rail => s.dou.a.rail != .fault && s.dou.b.rail != .fault
  | .overload => !s.adu.load.a.overload && !s.adu.load.b.overload

/-- The readiness conditions in the order of the table of R70. -/
def readyConds : List ReadyCond :=
  [.releases, .doors, .brakeLatch, .estop, .measurement, .standstill, .linkDrv, .linkCra, .linkCrb, .drive, .carFault, .rail,
    .overload]

/-- The first failing condition of the readiness test; none when the test holds (R70). -/
def State.readiness (s : State) : Option ReadyCond := readyConds.find? fun c => !s.readyHolds c

/-! ### Brake demand -/

def Level.max (a b : Level) : Level := if a.rank < b.rank then b else a

/-- The level is SERVICE or higher. -/
def Level.brakes (l : Level) : Bool := 2 ≤ l.rank

/-- The highest level among the entries of the cause set, or NONE (R99). -/
def highest (l : List CauseEntry) : Level := l.foldl (fun a e => a.max e.level) .none

def holdsCause (l : List CauseEntry) (c : Cause) : Bool := l.any fun e => e.cause == c

/-- The current level: the higher of the latched level and, when caution is asked, CAUTION (R99). -/
def currentLevel (latched : Level) (caution : Bool) : Level := if caution then Level.max latched .caution else latched

/-- EBL disagrees with EB-HOLD: the condition of EB_FAULT (R101). -/
def Bks.ebDisagrees (b : Bks) : Bool := b.eblRisen != b.ebHold

/-- A cause's condition is still present (R101). DESIGN CHOICE (log 53): a car with no CAR REPORT since reset, its door condition UNKNOWN,
counts for DOOR as one that reports a condition other than CLOSED_LOCKED. -/
def State.causePresent (s : State) : Cause → Bool
  | .overspeed => s.ssv.asked.brakes
  | .overrun => !s.msu.standstill
  | .speedDisagree => s.msu.speedDisagree != 0
  | .positionDisagree => !s.msu.standstill
  | .datumMismatch => !s.msu.standstill
  | .measurement => s.msu.ch1.status == .failed || s.msu.ch2.status == .failed
  | .decelShort => !s.msu.standstill
  | .linkDrv => !s.linkAlive .drv
  | .linkCra => !s.linkAlive .cra
  | .linkCrb => !s.linkAlive .crb
  | .door =>
    (s.dou.a.door != .closedLocked && s.dou.a.release == .none) || (s.dou.b.door != .closedLocked && s.dou.b.release == .none)
  | .car => s.dou.a.carFault || s.dou.b.carFault
  | .drive =>
    match s.rco.driveReport with
    | some r => r.state == .fault
    | none => false
  | .estop => s.bks.estop.active
  | .console => !s.msu.standstill
  | .ebFault => s.bks.ebDisagrees
  | .reset => !s.msu.standstill

/-- The causes in the order of the table of R101. -/
def causeOrder : List Cause :=
  [.overspeed, .overrun, .speedDisagree, .positionDisagree, .datumMismatch, .measurement, .decelShort, .linkDrv, .linkCra,
    .linkCrb, .door, .car, .drive, .estop, .console, .ebFault, .reset]

/-- The first cause of the set whose condition is still present, in the order of R101 (R111, test 3). -/
def State.firstPresent (s : State) : Option Cause :=
  causeOrder.find? fun c => holdsCause s.bks.demand.causes c && s.causePresent c

/-! ### Doors -/

/-- An unreleased opening (R132): CLOSED_UNLOCKED or OPEN while the release state is NONE. -/
def DoorRecord.unreleased (d : DoorRecord) : Bool :=
  (d.door == .closedUnlocked || d.door == .opened) && d.release == .none

/-- The release state is ORDERED or HELD. -/
def DoorRecord.given (d : DoorRecord) : Bool := d.release == .ordered || d.release == .held

def DoorRecord.isPlatform (d : DoorRecord) : Bool :=
  match d.kind with
  | some (.platform _ _) => true
  | _ => false

/-! ### Load and admission -/

/-- OVERLOAD (R156). -/
def LoadRecord.overloaded (l : LoadRecord) (k : LineConsts) : Bool :=
  match l.weigh with
  | some w => k.ratedLoad < w
  | none => k.carCapacity < l.tally

/-- The TALLY_OVER condition (R156). -/
def LoadRecord.tallyCondition (l : LoadRecord) (k : LineConsts) : Bool :=
  match l.weigh with
  | some w => w ≤ k.ratedLoad && k.carCapacity < l.tally
  | none => false

/-- Condition (b) of R148: the served car's tally plus the open reservations is less than the capacity. -/
def State.placesLeft (s : State) (p : Fin 8) : Bool :=
  match (s.session p).served with
  | some c => (s.load c).tally + (s.session p).reservations < s.line.carCapacity
  | none => false

/-- The index into a platform's policy (R4, R148). -/
def State.policyIndex (s : State) (p : Fin 8) : Nat :=
  4 * (s.session p).isOpen.toNat + 2 * (s.placesLeft p).toNat + (s.session p).quietTimer.isNone.toNat

/-- The answer of a policy at an index (R4, R173). -/
def policyAnswer (policy : Byte) (index : Nat) : Bool := policy.getLsbD index

/-- The platform's policy allows admission (R148). -/
def State.policyAllows (s : State) (p : Fin 8) : Bool := policyAnswer (s.platformEntry p).policy (s.policyIndex p)

/-- The gate belongs to the station port (R141). -/
def State.belongs (s : State) (sta : Sta) (g : Fin 16) : Bool := (s.gateEntry g).present && gateSta g == sta

/-! ### Attention summary (R171, R173) -/

def brakeItems : List Attention := [.brakeLatched, .brakeEscalated, .estopActive, .ebConfirm, .sbConfirm, .departureAborted]
def measureItems : List Attention := [.sensorFailed, .channelDisagree, .datumFault, .positionRange]
def doorItems : List Attention := [.doorAckLate, .doorCloseOverdue, .doorUnreleased, .doorStaleToken, .railFault]
def gateItems : List Attention := [.gateUnreserved, .gateFault, .tallyOver, .platformShared]
def portItems : List Attention := [.linkLost, .portDegraded, .rxOverrun]
def configItems : List Attention := [.configInvalid, .configCommitFailed]
def runItems : List Attention := [.abortLimit, .tripDropped]

/-- A group's flag: set while any item of the group is set. -/
def State.groupSet (s : State) (items : List Attention) : Bool := items.any s.attention

/-- One flag per group: bit 0 BRAKE to bit 6 RUN; bit 7 is 0. -/
def State.attentionSummary (s : State) : Byte :=
  byte ((s.groupSet brakeItems).toNat + 2 * (s.groupSet measureItems).toNat + 4 * (s.groupSet doorItems).toNat +
    8 * (s.groupSet gateItems).toNat + 16 * (s.groupSet portItems).toNat + 32 * (s.groupSet configItems).toNat +
    64 * (s.groupSet runItems).toNat)

/-- The item's condition holds, as tested at a CLEAR (R21, R29, R54, R66, R122, R138, R158, R171). -/
def State.attentionCondition (s : State) : Attention → Bool
  | .brakeLatched => s.bks.demand.latched != .none
  | .brakeEscalated => holdsCause s.bks.demand.causes .decelShort
  | .estopActive => s.bks.estop.qualified
  | .ebConfirm => s.bks.ebDisagrees
  | .sbConfirm => false
  | .departureAborted => false
  | .sensorFailed => s.msu.ch1.status == .failed || s.msu.ch2.status == .failed
  | .channelDisagree => s.msu.positionDisagree || s.msu.speedDisagree != 0
  | .datumFault =>
    (match s.msu.ch1.lastDatum with | .mismatch _ => true | _ => false) ||
      (match s.msu.ch2.lastDatum with | .mismatch _ => true | _ => false)
  | .positionRange => s.msu.outOfRange
  | .doorAckLate => false
  | .doorCloseOverdue => s.dou.a.overdue || s.dou.b.overdue
  | .doorUnreleased => s.dou.a.unreleased || s.dou.b.unreleased
  | .doorStaleToken => false
  | .railFault => s.dou.a.rail == .fault || s.dou.b.rail == .fault
  | .gateUnreserved => false
  | .gateFault => allIndices.any fun g => (s.gateEntry g).present && (s.gate g).fault
  | .tallyOver => s.adu.load.a.tallyOver || s.adu.load.b.tallyOver
  | .platformShared => false
  | .linkLost =>
    [PortId.drv, .cra, .crb, .sta1, .sta2, .con].any fun i => !(s.port i).alive && (s.port i).aliveSince
  | .portDegraded => false
  | .rxOverrun => false
  | .configInvalid => !s.cfs.storedValid && s.cfs.commit == .idle
  | .configCommitFailed => s.cfs.lastCommit == .failed
  | .abortLimit => s.rco.mode == .standby && s.rco.modeChange.cause == .abortLimit
  | .tripDropped => false

end Sys2Proof.Machine
end

