-- ==== Sys2Proof/Machine/Notices.lean ====
section
/-! DEFINITION. Notices (R166): how a notice that an owning block hands is queued, replaces a queued one, sets its pending flag
or is discarded, and how pending notices are placed. The oldest entry of a transmit queue is in
transmission but at steps 1 and 2 of a transmission completion (R165; log 12). -/

namespace Sys2Proof.Machine

/-- The most telegrams a transmit queue holds (R165). -/
def txCapacity : Nat := 6

/-- The most telegrams a receive queue holds (R163). -/
def rxCapacity : Nat := 4

/-- The port on which a notice travels (R160). -/
def Notice.port : Notice → PortId
  | .driveOrder => .drv
  | .carOrder c => c.port
  | .gate n => (gateSta n.gate).port

/-- The notice as a telegram, an owner's record as it stands (R166). -/
def Notice.entry (s : State) : Notice → TxEntry
  | .driveOrder => driveOrderTelegram s true
  | .carOrder c => carOrderTelegram s c true
  | .gate n => gateNotice n

/-- A notice with this notice's key: the kind together with the address (R166). -/
def sameKey (e x : TxEntry) : Bool := x.isNotice && x.kind == e.kind && x.addr == e.addr

/-- The newest entry that `p` picks, replaced where it stands (log 13); none where there is none. -/
def replaceLast (p : TxEntry → Bool) (e : TxEntry) : List TxEntry → Option (List TxEntry)
  | [] => none
  | x :: rest =>
    match replaceLast p e rest with
    | some rest' => some (x :: rest')
    | none => if p x then some (e :: rest) else none

/-- A queued notice of the key that is not in transmission, replaced where it stands. `sending` says that the oldest entry is in
transmission (R165, R166; log 12). -/
def replaceQueued (sending : Bool) (e : TxEntry) (l : List TxEntry) : Option (List TxEntry) :=
  match sending, l with
  | true, [] => none
  | true, inTransmission :: rest => (replaceLast (sameKey e) e rest).map (inTransmission :: ·)
  | false, l => replaceLast (sameKey e) e l

/-- The pending flag of a gate's key set, by ascending gate number, with the answer kept (R166, case 3). -/
def insertPending (n : PendingGate) : List PendingGate → List PendingGate
  | [] => [n]
  | x :: rest =>
    if n.gate < x.gate then n :: x :: rest
    else if n.gate = x.gate then n :: rest
    else x :: insertPending n rest

/-- The key's pending flag is set. -/
def Port.isPending (p : Port) : Notice → Bool
  | .gate n => p.pendingGates.any fun x => x.gate == n.gate
  | _ => p.pendingOrder

def Port.setPending (p : Port) : Notice → Port
  | .gate n => { p with pendingGates := insertPending n p.pendingGates }
  | _ => { p with pendingOrder := true }

/-- Some pending flag of the port is set. -/
def Port.somePending (p : Port) : Bool := p.pendingOrder || !p.pendingGates.isEmpty

/-- The transmit queue has a free place. -/
def Port.freePlace (p : Port) : Bool := p.tx.length < txCapacity

/-- What a port controller makes of a notice (R166): the table's first case that applies. -/
def Port.offer (p : Port) (sending : Bool) (n : Notice) (e : TxEntry) : Port :=
  if !p.alive then p
  else if p.freePlace && !p.isPending n then { p with tx := p.tx ++ [e] }
  else
    match replaceQueued sending e p.tx with
    | some tx => { p with tx := tx }
    | none => p.setPending n

/-- A telegram of the port's queue is in transmission: always but at steps 1 and 2 of the port's completion (R165). -/
def State.sending (s : State) (i : PortId) : Bool := s.completing != some i

/-- A notice is offered to its port (R166). -/
def offerNotice (s : State) (n : Notice) : State :=
  s.withPort n.port ((s.port n.port).offer (s.sending n.port) n (n.entry s))

/-- A block hands a notice to its port controller. While the port's own request is being decided the notice waits until the
reply has been placed (R164). -/
def handNotice (s : State) (n : Notice) : State :=
  if s.answering = some n.port then s.withHeld (s.held ++ [n]) else offerNotice s n

def handNotices (s : State) (l : List Notice) : State := l.foldl handNotice s

/-- The DRIVE ORDER and CAR ORDER key of a port. -/
def orderNotice : PortId → Option Notice
  | .drv => some .driveOrder
  | .cra => some (.carOrder .a)
  | .crb => some (.carOrder .b)
  | _ => none

/-- The pending DRIVE ORDER or CAR ORDER is placed when a place is free, with the record as it stands (R166). -/
def placeOrder (i : PortId) (s : State) : State :=
  let p := s.port i
  match orderNotice i with
  | some n =>
    if p.pendingOrder && p.freePlace then s.withPort i { p with pendingOrder := false, tx := p.tx ++ [n.entry s] } else s
  | none => s

/-- Pending GATE NOTICEs are placed by ascending gate number for as long as places remain (R166). -/
def Port.placeGates (p : Port) : List PendingGate → Port
  | [] => { p with pendingGates := [] }
  | n :: rest =>
    if p.freePlace then Port.placeGates { p with tx := p.tx ++ [gateNotice n] } rest
    else { p with pendingGates := n :: rest }

/-- The pending notices of a port are placed in key order (R166). -/
def placePending (i : PortId) (s : State) : State :=
  let s1 := placeOrder i s
  s1.withPort i ((s1.port i).placeGates (s1.port i).pendingGates)

/-- A lost link's queue: the entry in transmission and the replies stay, every pending flag is cleared (R166). -/
def Port.trim (p : Port) : Port :=
  { p with
    pendingOrder := false
    pendingGates := []
    tx := match p.tx with
      | [] => []
      | inTransmission :: rest => inTransmission :: rest.filter fun e => !e.isNotice }

end Sys2Proof.Machine
end

