-- ==== Sys2Proof/Machine/Admission.lean ====
section
/-! DEFINITION. The Admission Unit (chapter 8): sessions, the policy and the grant, reservations, load flags, the decisions of the
gate telegrams, and its timer events. -/

namespace Sys2Proof.Machine

/-- The ADU hands a GATE NOTICE to the gate's port. -/
def noticeGate (g : Fin 16) (a : NoticeAnswer) (r : Reason) (s : State) : State :=
  handNotice s (.gate { gate := g, answer := a, reason := r })

/-- The gate becomes IDLE with its reservation timer not running (R140). -/
def idleGate (g : Fin 16) (s : State) : State := s.withGate g { s.gate g with state := .idle, timer := none }

/-! ### Closing sessions (R146) -/

/-- Step 1 of the close, for one waiting gate. -/
def closeWaiting (s : State) (g : Fin 16) : State := noticeGate g .refused .closed (idleGate g s)

/-- The gate is a RESERVED gate of the platform. -/
def State.reservedAt (s : State) (p : Fin 8) (g : Fin 16) : Bool :=
  (s.gateEntry g).present && (s.gateEntry g).platform == p && (s.gate g).state == .reserved

/-- Step 2 of the close, for one gate. -/
def closeReserved (p : Fin 8) (s : State) (g : Fin 16) : State :=
  if s.reservedAt p g then noticeGate g .cancelled .none (idleGate g s) else s

/-- A session closes (R146); nothing changes at a platform already closed. -/
def closeSession (reason : CloseReason) (s : State) (p : Fin 8) : State :=
  if (s.session p).isOpen then
    let s2 := allIndices.foldl (closeReserved p) ((s.session p).waiting.foldl closeWaiting s)
    s2.withSession p
      { s2.session p with waiting := [], reservations := 0, quietTimer := none, isOpen := false, lastClose := reason }
  else s

/-- Every open session closes. DESIGN CHOICE (log 42): by ascending platform index, since R27 and R146 order only the steps inside
one session. -/
def closeAll (reason : CloseReason) (s : State) : State := allPlatforms.foldl (closeSession reason) s

/-- The DOU reports the loss of a car's platform release (R137, R146); its sessions close by ascending platform index (log 42). -/
def releaseLost (c : Car) (s : State) : State :=
  allPlatforms.foldl (fun s p => if (s.session p).served = some c then closeSession .releaseLost s p else s) s

/-! ### The policy and the grant (R148, R150) -/

/-- A reservation is made for a gate (R150). -/
def reserve (p : Fin 8) (g : Fin 16) (s : State) : State :=
  let s1 := s.withSession p { s.session p with reservations := (s.session p).reservations + 1 }
  s1.withGate g
    { s1.gate g with
      state := .reserved
      admissions := satInc 255 (s1.gate g).admissions
      timer := startSec s.line.reservationTimeout }

/-- The choice of R150 between two gates: the fewest admissions, then the lowest number. -/
def State.prefer (s : State) (g h : Fin 16) : Fin 16 :=
  if (s.gate g).admissions < (s.gate h).admissions then g
  else if (s.gate h).admissions < (s.gate g).admissions then h
  else if g ≤ h then g else h

/-- The gate of the waiting list that a grant chooses (R150). -/
def State.chosen (s : State) : List (Fin 16) → Option (Fin 16)
  | [] => none
  | g :: rest => some (rest.foldl s.prefer g)

/-- A grant to a gate of the list (R150). -/
def grant (p : Fin 8) (g : Fin 16) (s : State) : State :=
  let s1 := s.withSession p { s.session p with waiting := (s.session p).waiting.erase g }
  noticeGate g .admitted .none (reserve p g s1)

/-- Grants one at a time until the policy no longer allows or the list is empty (R150); a list of n gates takes n grants. -/
def grantWaiting (p : Fin 8) : Nat → State → State
  | 0, s => s
  | n + 1, s =>
    if s.policyAllows p then
      match s.chosen (s.session p).waiting with
      | some g => grantWaiting p n (grant p g s)
      | none => s
    else s

/-- The ADU evaluates the policy of a platform (R148). -/
def evaluatePolicy (s : State) (p : Fin 8) : State := grantWaiting p (s.session p).waiting.length s

/-! ### Load flags (R156) -/

/-- The ADU evaluates a car's load flags, sets TALLY_OVER at its onset and tells the DOU of a change of OVERLOAD (R124). -/
def evaluateLoad (s : State) (c : Car) : State :=
  let l := s.load c
  let l' := { l with overload := l.overloaded s.line, tallyOver := l.tallyCondition s.line }
  let s1 := s.withLoad c l'
  let s2 := if l'.tallyOver && !l.tallyOver then s1.setAttention .tallyOver else s1
  if l'.overload != l.overload then handNotice s2 (.carOrder c) else s2

/-- A car's tally has changed: its load flags, and the policy of each platform that serves it (R148, R155; log 32). -/
def afterTally (c : Car) (s : State) : State :=
  allPlatforms.foldl (fun s p => if (s.session p).served = some c then evaluatePolicy s p else s) (evaluateLoad s c)

def setTally (c : Car) (n : Nat) (s : State) : State := s.withLoad c { s.load c with tally := n }

/-- A car's weigh becomes the value given, at most 40,000 kg, or absent, and its load flags are evaluated (R156). -/
def takeWeigh (c : Car) (w : Option Nat) (s : State) : State :=
  evaluateLoad (s.withLoad c { s.load c with weigh := w.map (min 40000) }) c

/-! ### Opening sessions (R145) and the served car (R147) -/

/-- The exit quiet timer as started: with a period of 0 it expires at once (R145). -/
def State.quietStart (s : State) : Timer := if s.line.exitQuiet = 0 then none else startSec s.line.exitQuiet

/-- Admissions this session becomes 0 for a gate of the platform. -/
def clearAdmissions (p : Fin 8) (s : State) (g : Fin 16) : State :=
  if (s.gateEntry g).present && (s.gateEntry g).platform == p then s.withGate g { s.gate g with admissions := 0 } else s

/-- The DOU reports that a car holds a platform release (R145). -/
def releaseHeld (c : Car) (stop : Fin 6) (p : Fin 8) (s : State) : State :=
  if s.bks.demand.latched != .none then s
  else if !(s.session p).isOpen then
    let s1 := s.withSession p
      { s.session p with
        isOpen := true, served := some c, stop := some stop, shared := false, lastClose := .none, quietTimer := s.quietStart }
    evaluatePolicy (allIndices.foldl (clearAdmissions p) s1) p
  else if (s.session p).served != some c then
    (s.withSession p { s.session p with shared := true }).setAttention .platformShared
  else s

/-- At the grant of authority the served car of every platform becomes NONE and the stop absent (R147). -/
def clearServed (s : State) : State :=
  s.withAdu { s.adu with sessions := mapVec (fun x => { x with served := none, stop := none }) s.adu.sessions }

/-! ### Gates taken out of the session (R142, R143, R154) -/

/-- A gate leaves its platform's waiting list and becomes IDLE. -/
def leaveList (g : Fin 16) (s : State) : State :=
  let p := (s.gateEntry g).platform
  idleGate g (s.withSession p { s.session p with waiting := (s.session p).waiting.erase g })

/-- A gate gives up its reservation: the timer is cancelled, the open reservation count falls by 1, the gate is IDLE. -/
def giveUp (g : Fin 16) (s : State) : State :=
  let p := (s.gateEntry g).platform
  idleGate g (s.withSession p { s.session p with reservations := (s.session p).reservations - 1 })

/-- A gate is taken out of the session, with the reason of a refusal (R142, R143), and the policy is evaluated. -/
def takeOut (g : Fin 16) (reason : Reason) (s : State) : State :=
  match (s.gate g).state with
  | .waiting => evaluatePolicy (noticeGate g .refused reason (leaveList g s)) (s.gateEntry g).platform
  | .reserved => evaluatePolicy (noticeGate g .cancelled .none (giveUp g s)) (s.gateEntry g).platform
  | .idle => s

/-- The platforms in whose lists a gate of the station port waits. -/
def State.waitingAt (s : State) (sta : Sta) : List (Fin 8) :=
  allPlatforms.filter fun p => allIndices.any fun g =>
    gateSta g == sta && (s.gate g).state == .waiting && (s.gateEntry g).platform == p

/-- A station link is lost: its WAITING gates leave their lists without notice (R154). -/
def stationLost (sta : Sta) (s : State) : State :=
  let s1 := allIndices.foldl
    (fun s g => if gateSta g = sta ∧ (s.gate g).state = .waiting then leaveList g s else s) s
  (s.waitingAt sta).foldl evaluatePolicy s1

/-! ### Gate telegrams -/

/-- VALIDATE (R149): the first row of the table that holds. -/
def decideValidate (sta : Sta) (g : Fin 16) (s : State) : State × TxEntry :=
  let p := (s.gateEntry g).platform
  if !s.belongs sta g then (s, gateAnswer g .refused .noGate)
  else if (s.gateEntry g).dir = .exit then (s, gateAnswer g .refused .exitGate)
  else if (s.gate g).masked then (s, gateAnswer g .refused .masked)
  else if (s.gate g).fault then (s, gateAnswer g .refused .fault)
  else if (s.gate g).state = .reserved then
    (s.withGate g { s.gate g with duplicates := satInc 255 (s.gate g).duplicates }, gateAnswer g .admitted .none)
  else if (s.gate g).state = .waiting then (s, gateAnswer g .wait .none)
  else if !(s.session p).isOpen then (s, gateAnswer g .refused .noCar)
  else if s.policyAllows p then (evaluatePolicy (reserve p g s) p, gateAnswer g .admitted .none)
  else
    let s1 := s.withSession p { s.session p with waiting := (s.session p).waiting ++ [g] }
    (s1.withGate g { s1.gate g with state := .waiting }, gateAnswer g .wait .none)

/-- An unattributed passage is counted, stopping at 65,535 (R152, R153). -/
def countUnattributed (s : State) : State := s.withAdu { s.adu with unattributed := satInc 65535 s.adu.unattributed }

/-- An UNRESERVED passage: the platform's count, and GATE_UNRESERVED (R152). -/
def countUnreserved (p : Fin 8) (s : State) : State :=
  (s.withSession p { s.session p with unreserved := satInc 255 (s.session p).unreserved }).setAttention .gateUnreserved

/-- What an entry passage does to its gate, and the answer (R152). -/
def passGate (g : Fin 16) (s : State) : State × PassageResult :=
  match (s.gate g).state with
  | .reserved => (giveUp g s, .counted)
  | .waiting => (countUnreserved (s.gateEntry g).platform (leaveList g s), .unreserved)
  | .idle => (countUnreserved (s.gateEntry g).platform s, .unreserved)

/-- PASSAGE (R152 at an entry gate, R153 at an exit gate). -/
def decidePassage (sta : Sta) (g : Fin 16) (s : State) : State × TxEntry :=
  let p := (s.gateEntry g).platform
  if !s.belongs sta g then (s, passageAnswer g .noGate)
  else
    match (s.session p).served, (s.gateEntry g).dir with
    | none, _ => (evaluatePolicy (countUnattributed s) p, passageAnswer g .unattributed)
    | some c, .entry =>
      let r := passGate g (setTally c (satInc 255 (s.load c).tally) s)
      (afterTally c r.1, passageAnswer g r.2)
    | some c, .exit =>
      let s1 := setTally c ((s.load c).tally - 1) s
      let s2 := if (s.session p).isOpen then s1.withSession p { s1.session p with quietTimer := s.quietStart } else s1
      (afterTally c s2, passageAnswer g .counted)

/-- The standing of a gate, as a GATE REPORT is answered (R142). -/
def gateStanding (g : Fin 16) (s : State) : TxEntry :=
  if (s.gate g).masked then gateAnswer g .refused .masked
  else if (s.gate g).fault then gateAnswer g .refused .fault
  else
    match (s.gate g).state with
    | .reserved => gateAnswer g .admitted .none
    | .waiting => gateAnswer g .wait .none
    | .idle => gateAnswer g .refused .idle

/-- GATE REPORT (R142). -/
def decideGateReport (sta : Sta) (g : Fin 16) (fault : Byte) (s : State) : State × TxEntry :=
  if !s.belongs sta g then (s, gateAnswer g .refused .noGate)
  else
    let s1 := s.withGate g { s.gate g with fault := flagOfByte fault }
    let s2 := if flagOfByte fault && !(s.gate g).fault then (takeOut g .fault s1).setAttention .gateFault else s1
    (s2, gateStanding g s2)

/-! ### Timer events -/

/-- RESERVATION_TIMER_EXPIRY (R151). -/
def reservationExpiry (g : Fin 16) (s : State) : State :=
  if (s.gate g).timer.isSome then
    evaluatePolicy (noticeGate g .cancelled .none (giveUp g s)) (s.gateEntry g).platform
  else s

/-- EXIT_QUIET_TIMER_EXPIRY (R153). -/
def exitQuietExpiry (p : Fin 8) (s : State) : State :=
  if (s.session p).quietTimer.isSome then
    evaluatePolicy (s.withSession p { s.session p with quietTimer := none }) p
  else s

end Sys2Proof.Machine
end

