-- ==== Sys2Proof/Machine/Doors.lean ====
section
/-! DEFINITION. The Door Unit (chapter 7): the door record and its CAR ORDER notices, giving and taking releases, the tokens a
car reports, the rail order, and the door timers. The steps of a CAR REPORT that reach the authority and the brakes stand in
Requests.lean. -/

namespace Sys2Proof.Machine

/-- The four fields of CAR ORDER that the DOU holds are the same in two door records (R124). -/
def sameOrder (d e : DoorRecord) : Bool := d.token == e.token && d.side == e.side && d.railOrder == e.railOrder

/-- A door record is replaced, and a CAR ORDER notice handed where the token, the side or the rail order changes (R124). -/
def setDoor (c : Car) (d : DoorRecord) (s : State) : State :=
  if sameOrder d (s.door c) then s.withDoor c d else handNotice (s.withDoor c d) (.carOrder c)

/-! ### Giving a release (R126, R134) -/

/-- The token after a token: increased by 1, from 15 back to 1 (R126). -/
def nextToken (t : Fin 16) : Fin 16 := if h : t.val < 15 then ⟨t.val + 1, by omega⟩ else 1

/-- A release is ordered (R126). -/
def orderRelease (c : Car) (side : Side) (kind : ReleaseKind) (s : State) : State :=
  let d := s.door c
  setDoor c
    { d with
      counter := nextToken d.counter
      token := nextToken d.counter
      side := side
      kind := some kind
      release := .ordered
      ackTimer := startMs s.line.ackTime
      lastRefused := .none }
    s

/-- The conditions of R126 for a car, in turn: the reason of the first that fails, or the stop and the platform (log 49 for a current
stop whose entry has been made absent). -/
def releaseTest (c : Car) (s : State) : RefusedRelease ⊕ (Fin 6 × Fin 8) :=
  match s.rco.runState, s.rco.currentStop with
  | .atStop, some k =>
    match (s.stopEntry k).platform c with
    | some p =>
      if !s.msu.standstill then .inl .standstill
      else if s.bks.slot != .idle then .inl .sequence
      else if s.rco.authority.state != .none then .inl .authority
      else if (s.door c).release != .none then .inl .releaseState
      else .inr (k, p)
    | none => .inl .noPlatform
  | _, _ => .inl .noPlatform

/-- The RCO asks for a platform release for a car (R126). -/
def askRelease (s : State) (c : Car) : State :=
  match releaseTest c s with
  | .inl reason => s.withDoor c { s.door c with lastRefused := reason }
  | .inr (k, p) => orderRelease c ((s.stopEntry k).side c) (.platform k p) s

/-! ### Taking a release away (R127 to R131, R135) -/

/-- A release becomes WITHDRAWING with a cause: token 0, ack timer cancelled, close timer started, close overdue false; the
ADU is told of the loss of a PLATFORM release (R137). -/
def withdraw (c : Car) (cause : WithdrawalCause) (s : State) : State :=
  let d := s.door c
  let s1 := setDoor c
    { d with
      token := 0
      release := .withdrawing
      ackTimer := none
      closeTimer := startSec s.line.closeTimeout
      overdue := false
      lastWithdrawal := cause }
    s
  if d.isPlatform then releaseLost c s1 else s1

/-- The RCO asks for each car's platform release to be withdrawn, in CLOSING or on entry into STANDBY (R129). -/
def withdrawPlatform (cause : WithdrawalCause) (s : State) (c : Car) : State :=
  if (s.door c).given && (s.door c).isPlatform then withdraw c cause s else s

/-- The DOU withdraws a release of its own, of either kind (R131). -/
def withdrawGiven (cause : WithdrawalCause) (s : State) (c : Car) : State :=
  if (s.door c).given then withdraw c cause s else s

/-! ### Tokens reported by the car (R128, R130) -/

/-- A stale token is counted and DOOR_STALE_TOKEN set. -/
def countStale (c : Car) (s : State) : State :=
  (s.withDoor c { s.door c with stale := satInc 255 (s.door c).stale }).setAttention .doorStaleToken

/-- The release becomes HELD, and the ADU is told of a PLATFORM release (R127, R137). -/
def takeUp (c : Car) (s : State) : State :=
  let d := s.door c
  let s1 := s.withDoor c { d with release := .held, ackTimer := none }
  match d.kind with
  | some (.platform k p) => releaseHeld c k p s1
  | _ => s1

/-- Completion of a withdrawal when the car reports token 0 with its doors CLOSED_LOCKED (R130). -/
def completeWithdrawal (c : Car) (s : State) : State :=
  let d := s.door c
  if d.door = .closedLocked then
    s.withDoor c { d with release := .none, kind := none, closeTimer := none, overdue := false }
  else s

/-- The reported token, `none` where it matches no token (R176), is judged against the release state (R128). -/
def judgeToken (c : Car) (token : Option (Fin 16)) (s : State) : State :=
  let d := s.door c
  match d.release with
  | .none => if token = some 0 then s else withdraw c .stale (countStale c s)
  | .ordered =>
    if token = some d.token then takeUp c s
    else if token = some 0 then s
    else countStale c s
  | .held =>
    if token = some d.token then s
    else if token = some 0 then completeWithdrawal c (withdraw c .carDropped s)
    else countStale c s
  | .withdrawing =>
    if token = some 0 then completeWithdrawal c s
    else if token = some d.counter then s
    else countStale c s

/-! ### The rail order (R136) -/

/-- The rail order of both cars is set; each car whose order changes is sent a CAR ORDER notice. -/
def setRailOrder (o : RailOrder) (s : State) : State :=
  allCars.foldl (fun s c => setDoor c { s.door c with railOrder := o } s) s

/-! ### Door timers -/

/-- ACK_TIMER_EXPIRY (R127). -/
def ackExpiry (c : Car) (s : State) : State :=
  if (s.door c).ackTimer.isSome then (withdraw c .ackLate s).setAttention .doorAckLate else s

/-- CLOSE_TIMER_EXPIRY (R130). -/
def closeExpiry (c : Car) (s : State) : State :=
  if (s.door c).closeTimer.isSome then
    (s.withDoor c { s.door c with closeTimer := none, overdue := true }).setAttention .doorCloseOverdue
  else s

end Sys2Proof.Machine
end

