-- ==== Sys2Proof/Machine/Supervision.lean ====
section
/-! DEFINITION. The Speed Supervisor (chapter 5): zones, the load snapshot, the guaranteed deceleration, the curve candidates, the
permitted speed, the thresholds, the target overrun test and the excursion record. Naturals and integers do not wrap, so that every
intermediate is at least as wide as R95 asks. -/

namespace Sys2Proof.Machine

/-! ### Zones (R3, R82, R85) -/

def State.presentZones (s : State) : List (Fin 16) := allIndices.filter fun z => (s.zoneEntry z).present

/-- The last present zone: the present zone of highest index. -/
def State.lastZone (s : State) : Option (Fin 16) := s.presentZones.getLast?

def nextZone (z : Fin 16) : Option (Fin 16) := if h : z.val + 1 < 16 then some ⟨z.val + 1, h⟩ else none

def previousZone (z : Fin 16) : Option (Fin 16) := if 0 < z.val then some ⟨z.val - 1, by omega⟩ else none

/-- The end of a zone: the start of the next, or L for the last present zone (R3). -/
def State.zoneEnd (s : State) (z : Fin 16) : Int :=
  if s.lastZone = some z then s.line.length
  else
    match nextZone z with
    | some n => (s.zoneEntry n).start
    | none => s.line.length

/-- P lies in zone z (R3, with its two edge cases). DESIGN CHOICE (log 43): in tables with an absent entry between two present ones,
which no validation passes, the entry's start is read as it stands, and the pointer may rest on it. -/
def State.inZone (s : State) (z : Fin 16) (p : Int) : Bool :=
  ((s.zoneEntry z).start ≤ p && p < s.zoneEnd z) || (p < 0 && z == 0) || (s.line.length ≤ p && s.lastZone == some z)

/-- The search of R82: the present zone of highest index whose start is at most P, or zone 0 below 0. -/
def State.searchZone (s : State) (p : Int) : Option (Fin 16) :=
  if p < 0 then (if (s.zoneEntry 0).present then some 0 else none)
  else (s.presentZones.filter fun z => (s.zoneEntry z).start ≤ p).getLast?

/-- The UP loop of the walk (R82). -/
def State.walkUp (s : State) (p : Int) : Nat → Fin 16 → Fin 16
  | 0, z => z
  | n + 1, z =>
    if s.zoneEnd z ≤ p ∧ s.lastZone ≠ some z then
      match nextZone z with
      | some z' => s.walkUp p n z'
      | none => z
    else z

/-- The DOWN loop of the walk (R82). -/
def State.walkDown (s : State) (p : Int) : Nat → Fin 16 → Fin 16
  | 0, z => z
  | n + 1, z =>
    if p < (s.zoneEntry z).start then
      match previousZone z with
      | some z' => s.walkDown p n z'
      | none => z
    else z

/-- The walk by the direction of motion; at rest the UP loop and then the DOWN loop (R82, step 2). -/
def State.walkZone (s : State) (p : Int) (motion : Option Dir) (z : Fin 16) : Fin 16 :=
  match motion with
  | some .up => s.walkUp p 16 z
  | some .down => s.walkDown p 16 z
  | none => s.walkDown p 16 (s.walkUp p 16 z)

/-- The zone pointer at a sample event at which measurement is qualified (R82). -/
def State.settleZone (s : State) : Option (Fin 16) :=
  match s.msu.pSup with
  | none => s.ssv.zone
  | some p =>
    if !s.msu.qualified then s.ssv.zone
    else
      match s.ssv.zone with
      | none => s.searchZone p
      | some z =>
        let z' := s.walkZone p s.msu.motion z
        if s.inZone z' p then some z' else s.searchZone p

/-- The target position lies behind P in the direction of travel. -/
def behind (dir : Dir) (p target : Int) : Bool := dir.beyond p target

/-- The spanned zones, the current zone among them, in index order (R85). -/
def State.spannedZones (s : State) (dir : Dir) (p target : Int) (current : Fin 16) : List (Fin 16) :=
  if behind dir p target then [current]
  else
    match s.searchZone target with
    | none => [current]
    | some last =>
      allIndices.filter fun z =>
        z == current ||
          ((s.zoneEntry z).present &&
            match dir with
            | .up => current ≤ z && z ≤ last
            | .down => last ≤ z && z ≤ current)

/-- The spanned percent: the smallest among the spanned zones (R85; log 24 where no zone is current). -/
def State.spannedPercent (s : State) (dir : Dir) (p target : Int) : Option (Fin 16) → Nat
  | none => Config.unstatedPercent p
  | some c => (s.spannedZones dir p target c).foldl (fun m z => min m (s.zoneEntry z).percent) (s.zoneEntry c).percent

/-! ### The load snapshot (R83, R84) -/

/-- A car's estimated mass (R83, step 3). -/
def LoadRecord.estimated (l : LoadRecord) (personMass : Nat) (descends : Bool) : Nat :=
  match l.weigh with
  | some w => if descends then max (l.tally * personMass) w else min (l.tally * personMass) w
  | none => l.tally * personMass

/-- The load snapshot for a run in a direction (R83, R84). -/
def State.snapshotFor (s : State) (dir : Dir) : Snapshot :=
  let d := dir.descending
  let massD := (s.load d).estimated s.line.personMass true
  let massA := (s.load (match d with | .a => .b | .b => .a)).estimated s.line.personMass false
  { descending := d
    tallyA := s.adu.load.a.tally
    tallyB := s.adu.load.b.tally
    weighA := s.adu.load.a.weigh
    weighB := s.adu.load.b.weigh
    massDescending := massD
    massAscending := massA
    deltaM := massD - massA
    loadUnits := ceilDiv (massD - massA) 100 }

/-- At the start of step D1 the SSV takes the snapshot and makes a_g and the spanned percent absent (R83). -/
def takeSnapshot (s : State) : State :=
  s.withSsv
    { s.ssv with
      snapshot := some (s.snapshotFor (s.rco.authority.dir.getD .up))
      aG := none
      percent := none }

/-! ### Guaranteed deceleration and the curve candidates (R86 to R88, R94) -/

/-- a_g = clamp(a_zone − c_load × load units, a_min, a_base) (R86). -/
def guaranteed (l : LineConsts) (aZone loadUnits : Nat) : Nat :=
  (clamp ((aZone : Int) - (l.cLoad * loadUnits : Nat)) l.aMin l.aBase).toNat

/-- The target candidate for a distance to go (R87). -/
def targetCandidate (l : LineConsts) (aG : Nat) (toGo : Int) : Nat :=
  if toGo - l.mStop ≤ 0 then 0 else isqrt (2 * aG * (toGo - l.mStop).toNat)

/-- The curve value to a stop position (R94). -/
def State.curveValue (s : State) (position : Int) : Nat :=
  targetCandidate s.line (s.ssv.aG.getD s.line.aMin)
    ((s.rco.authority.dir.getD .up).distance (s.msu.pSup.getD 0) position)

/-- A zone candidate: isqrt(limit² + 2 × a_g × d_z) (R88). -/
def zoneCandidate (limit aG : Nat) (distance : Int) : Nat := isqrt (limit * limit + 2 * aG * distance.toNat)

/-- The zone candidates, nearest first, each with the zone entered (R88). -/
def State.zoneCandidatesFor (s : State) (dir : Dir) (p target : Int) (aG : Nat) : Option (Fin 16) → List (Fin 16 × Nat)
  | none => []
  | some c =>
    match dir with
    | .up =>
      (s.spannedZones dir p target c).filterMap fun z =>
        let start := (s.zoneEntry z).start
        if z ≠ c ∧ p < start ∧ start < target then some (z, zoneCandidate (s.zoneEntry z).limit aG (start - p)) else none
    | .down =>
      (s.spannedZones dir p target c).reverse.filterMap fun z =>
        let start := (s.zoneEntry z).start
        if target < start ∧ start ≤ p then
          (previousZone z).map fun e => (e, zoneCandidate (s.zoneEntry e).limit aG (p - start))
        else none

/-! ### The permitted speed (R34, R89) -/

/-- The mode ceiling of R34; none in LOCKED and STANDBY. -/
def State.modeCeiling (s : State) : Option Nat :=
  match s.rco.mode with
  | .service => some s.line.vLineMax
  | .recovery => some s.line.creep
  | .maintenance => some s.line.creep
  | .locked => none
  | .standby => none

/-- The least of the terms, and the first in the order of the table that equals it (R89). DESIGN CHOICE (log 50): of two zone candidates
that are equally the least the nearer one is recorded. -/
def leastTerm : LimitTerm × Nat → List (LimitTerm × Nat) → LimitTerm × Nat
  | best, [] => best
  | best, t :: rest => leastTerm (if t.2 < best.2 then t else best) rest

/-- The speed limit of the current zone (log 24 where no zone is current). -/
def State.currentLimit (s : State) (p : Int) : Option (Fin 16) → Nat
  | some z => (s.zoneEntry z).limit
  | none => Config.unstatedZoneLimit p

/-! ### Thresholds (R90, R91) -/

/-- The level asked by overspeed: the first row of the table of R90 that holds. -/
def askedLevel (vMeas vPerm mSb mEb vLineMax : Nat) : Level :=
  if vPerm + 2 * mEb < vMeas ∨ vLineMax * 9 / 8 < vMeas then .rail
  else if vPerm + mEb < vMeas then .emergency
  else if vPerm + mSb < vMeas then .service
  else if vPerm < vMeas then .caution
  else .none

/-- The supervision mode at a sample event: the first row of the table of R81 that fits. -/
def State.supervisionMode (s : State) : SupMode :=
  if !s.msu.supervised then .idle
  else if s.rco.authority.state.running then
    if !s.msu.qualified then .idle
    else if 20 < s.msu.vMeas && s.msu.motion.map Dir.opposite == s.rco.authority.dir && s.msu.motion.isSome then .fixed
    else .curve
  else if 20 < s.msu.vMeas then .fixed
  else .idle

/-- The line has overrun its target (R92). -/
def State.targetOverrun (s : State) (dir : Dir) (p target : Int) : Bool :=
  match dir with
  | .up => target + s.line.overrun < p
  | .down => p < target - s.line.overrun

/-- The supervision record after a computation in CURVE mode, less the excursion record (R85 to R90, R92). -/
def State.curveRecord (s : State) (zone : Option (Fin 16)) : Ssv :=
  let p := s.msu.pSup.getD 0
  let dir := s.rco.authority.dir.getD .up
  let target := s.rco.authority.targetPosition.getD p
  let percent := s.spannedPercent dir p target zone
  let aZone := s.line.aBase * percent / 100
  let aG := guaranteed s.line aZone ((s.ssv.snapshot.map (·.loadUnits)).getD 0)
  let t := targetCandidate s.line aG (dir.distance p target)
  let cands := s.zoneCandidatesFor dir p target aG zone
  let best := leastTerm (.target, t)
    (cands.map (fun c => (LimitTerm.zoneStart c.1, c.2)) ++
      [(.zoneLimit, s.currentLimit p zone), (.line, s.line.vLineMax)] ++
      (match s.modeCeiling with | some c => [(LimitTerm.ceiling, c)] | none => []))
  let mSb := max 200 (best.2 / 16)
  let mEb := max 400 (best.2 / 8)
  { s.ssv with
    mode := .curve
    zone := zone
    percent := some percent
    aZone := some aZone
    aG := some aG
    target := some t
    zoneCandidates := cands
    vPerm := best.2
    term := best.1
    mSb := mSb
    mEb := mEb
    asked := askedLevel s.msu.vMeas best.2 mSb mEb s.line.vLineMax
    overrunFlag := s.targetOverrun dir p target }

/-- The supervision record at a sample event, less the excursion record (R81). -/
def State.supervisionRecord (s : State) : Ssv :=
  let zone := s.settleZone
  match s.supervisionMode with
  | .curve => s.curveRecord zone
  | .fixed =>
    { s.ssv with
      mode := .fixed, zone := zone, vPerm := 0, term := .none, mSb := 200, mEb := 400
      asked := askedLevel s.msu.vMeas 0 200 400 s.line.vLineMax
      overrunFlag := false }
  | .idle =>
    { s.ssv with
      mode := .idle, zone := zone, vPerm := 0, term := .none, mSb := 200, mEb := 400, asked := .none, overrunFlag := false }

/-- The excursion record after a sample event at which the level asked was `before` and the record is `r` (R96). -/
def State.excursionAfter (s : State) (before : Level) (r : Ssv) : Option Excursion :=
  if r.asked.brakes then
    if before.brakes then
      r.excursion.map fun e =>
        { e with greatestLevel := e.greatestLevel.max r.asked, greatestV := max e.greatestV s.msu.vMeas }
    else
      some
        { mode := r.mode, vMeas := s.msu.vMeas, pSup := s.msu.pSup, motion := s.msu.motion
          authState := s.rco.authority.state, targetPosition := s.rco.authority.targetPosition
          vPerm := r.vPerm, term := r.term, aG := r.aG, mSb := r.mSb, mEb := r.mEb, asked := r.asked
          greatestLevel := r.asked, greatestV := s.msu.vMeas }
  else r.excursion

/-- The whole supervision record at a sample event (R81, R96). -/
def State.supervised (s : State) : Ssv :=
  let r := s.supervisionRecord
  { r with excursion := s.excursionAfter s.ssv.asked r }

end Sys2Proof.Machine
end

