-- ==== Sys2Proof/Machine/Coordinator.lean ====
section
/-! DEFINITION. The Run Coordinator (chapters 2 and 4): the authority record, the run state, the trip queue, dwell, taking the
head, settling and the changes of line mode. What starts or aborts a brake sequence stands in Brakes.lean. -/

namespace Sys2Proof.Machine

/-! ### The authority record (R57, R58) -/

/-- The change of an authority record that sends a DRIVE ORDER notice (R57): the state, the target stop or the target position. -/
def sameAuthority (a b : Authority) : Bool :=
  a.state == b.state && a.targetStop == b.targetStop && a.targetPosition == b.targetPosition

/-- The authority record is replaced, and a DRIVE ORDER notice handed where R57 asks for one. -/
def setAuthority (a : Authority) (s : State) : State :=
  let s1 := s.withRco { s.rco with authority := a }
  if sameAuthority a s.rco.authority then s1 else handNotice s1 .driveOrder

/-- The authority becomes NONE with its other fields absent (R58, R73): the record of a reset. -/
def clearAuthority (s : State) : State := setAuthority Authority.reset s

/-- A GRANTED authority becomes WITHDRAWN (R58). -/
def withdrawAuthority (s : State) : State :=
  if s.rco.authority.state = .granted then setAuthority { s.rco.authority with state := .withdrawn } s else s

/-! ### The run state and the dwell (R67) -/

/-- The run state is set; leaving AT_STOP cancels the dwell timer, with dwell elapsed false (R67). -/
def setRunState (r : RunState) (s : State) : State :=
  if r = .atStop then s.withRco { s.rco with runState := r }
  else s.withRco { s.rco with runState := r, dwellTimer := none, dwellElapsed := false }

/-- The dwell timer is started afresh (R67). -/
def startDwell (s : State) : State :=
  s.withRco { s.rco with dwellTimer := startSec s.line.dwellMin, dwellElapsed := false }

/-- The DOU is asked for a release for each car that has a platform at the current stop (R28, R61). DESIGN CHOICE (log 49): a current
stop whose entry a CONFIG WRITE has made absent is read by the fields that the entry keeps. -/
def askReleases (s : State) : State :=
  match s.rco.currentStop with
  | some k => allCars.foldl (fun s c => if ((s.stopEntry k).platform c).isSome then askRelease s c else s) s
  | none => s

/-! ### The trip queue (R62, R66) -/

/-- The most requests the trip queue holds (R62). -/
def queueCapacity : Nat := 4

/-- The trip in hand is returned to the queue: it joins at the head, or is dropped when the queue is full (R66). -/
def returnTrip (s : State) : State :=
  match s.rco.tripInHand with
  | none => s
  | some t =>
    if s.rco.queue.length < queueCapacity then s.withRco { s.rco with tripInHand := none, queue := t :: s.rco.queue }
    else
      (s.withRco
        { s.rco with
          tripInHand := none
          droppedCount := satInc 255 s.rco.droppedCount
          lastDropped := some t }).setAttention .tripDropped

/-! ### Closing and taking the head (R68, R69) -/

/-- CLOSING begins: the run state, the sessions, and each car's platform release (R69, R129, R146; log 19). -/
def beginClosing (s : State) : State :=
  allCars.foldl (withdrawPlatform .closing) (closeAll .closing (setRunState .closing s))

/-- The head may be taken, the queue apart (R68). -/
def State.mayTake (s : State) : Bool :=
  match s.rco.mode, s.rco.runState with
  | .service, .atStop => s.rco.dwellElapsed
  | .recovery, .atStop => s.rco.dwellElapsed
  | .recovery, .offStop => true
  | _, _ => false

/-- The reference from which a direction is judged: the current stop's position, or P_sup off every stop (R68, R77). -/
def State.reference (s : State) : Int :=
  match s.rco.currentStop with
  | some k => (s.stopEntry k).position
  | none => s.msu.pSup.getD 0

/-- The direction from a reference to a target, UP when the two are equal (R68). -/
def directionTo (reference target : Int) : Dir := if target < reference then .down else .up

/-- A request becomes the trip in hand and CLOSING begins (R68, R69). -/
def takeTrip (t : Trip) (rest : List Trip) (s : State) : State :=
  beginClosing
    (s.withRco
      { s.rco with
        queue := rest
        tripInHand := some t
        tripDir := directionTo s.reference (s.stopEntry t.target).position
        dwellTimer := none
        dwellElapsed := false })

/-- The head is taken from the given queue; heads equal to the current stop are removed first (R68). -/
def takeFrom : List Trip → State → State
  | [], s => s.withRco { s.rco with queue := [] }
  | t :: rest, s => if s.rco.currentStop = some t.target then takeFrom rest s else takeTrip t rest s

/-- The RCO tests whether the head may be taken, and takes it (R68). -/
def takeHead (s : State) : State := if s.mayTake then takeFrom s.rco.queue s else s

/-! ### Changes of line mode (R22, R27 to R29) -/

/-- The line mode changes, and the whole mode change record with it (R22). -/
def changeMode (m : LineMode) (cause : ModeCause) (cancelled : List Trip) (s : State) : State :=
  s.withRco
    { s.rco with
      mode := m
      modeChange := { previous := s.rco.mode, new := m, cause := cause, cancelled := cancelled } }

/-- Entry into STANDBY (R27, R146; log 19). -/
def enterStandby (cause : ModeCause) (s : State) : State :=
  let s1 := changeMode .standby cause s.rco.queue s
  let s2 := s1.withRco { s1.rco with queue := [], dwellTimer := none, dwellElapsed := false, abortCount := 0 }
  allCars.foldl (withdrawPlatform .standby) (closeAll .mode s2)

/-- Entry into SERVICE from STANDBY (R28). -/
def enterService (s : State) : State := askReleases (startDwell (changeMode .service .console [] s))

/-- Entry into MAINTENANCE (R26). -/
def enterMaintenance (s : State) : State := changeMode .maintenance .console [] s

/-! ### Settling (R61) -/

/-- Step 1 after a stop sequence or without one: the authority (R58), and both brakes are set. -/
def settleAuthority (afterStop : Bool) (s : State) : State :=
  let s1 := if afterStop then clearAuthority s else s
  s1.withRco { s1.rco with brakesSet := true }

/-- Step 2: AT_STOP or OFF_STOP by the window test. -/
def settleWindow (s : State) : State :=
  match s.windowTest with
  | some k => setRunState .atStop (s.withRco { s.rco with currentStop := some k })
  | none => setRunState .offStop (s.withRco { s.rco with currentStop := none })

/-- Step 3: the trip in hand is complete or is returned, and the jog run ends. -/
def settleTrip (s : State) : State :=
  let s1 : State :=
    match s.rco.tripInHand with
    | none => s
    | some t =>
      if s.rco.runState = .atStop ∧ s.rco.currentStop = some t.target then s.withRco { s.rco with tripInHand := none }
      else returnTrip s
  s1.withRco { s1.rco with jogRun := false }

/-- The three tests of R31. -/
def State.resyncHolds (s : State) : Bool :=
  s.msu.qualified && s.msu.ch1.resynced && s.msu.ch2.resynced &&
    match s.msu.ch1.position, s.msu.ch2.position with
    | some p1, some p2 => (mag (p1 - p2) : Int) ≤ s.line.positionTolerance
    | _, _ => false

/-- Step 4: the recovery test (R31). -/
def settleRecovery (afterStop : Bool) (s : State) : State :=
  if afterStop ∧ s.rco.runState = .atStop ∧ s.rco.mode = .recovery ∧ s.resyncHolds then changeMode .service .resync [] s else s

/-- Trips and releases belong to the line mode: SERVICE or RECOVERY. -/
def LineMode.isPublic : LineMode → Bool
  | .service => true
  | .recovery => true
  | _ => false

/-- Step 5: the dwell and the releases, or the head taken off every stop. -/
def settleEffects (s : State) : State :=
  if s.rco.runState = .atStop ∧ s.rco.mode.isPublic then askReleases (startDwell s)
  else if s.rco.runState = .offStop ∧ s.rco.mode = .recovery then takeHead s
  else s

/-- The RCO settles the line (R61). -/
def settle (afterStop : Bool) (s : State) : State :=
  settleEffects (settleRecovery afterStop (settleTrip (settleWindow (settleAuthority afterStop s))))

/-! ### Requests for a stop (R63 to R66, R75) -/

/-- A merge: the merged count rises by 1, stopping at 255 (R63). -/
def Trip.merge (t : Trip) : Trip := { t with merged := satInc 255 t.merged }

/-- A queued request has this target. -/
def queuedFor (k : Fin 6) (q : List Trip) : Option Trip := q.find? fun t => t.target == k

/-- The request with this target merged where it stands. -/
def mergeQueue (k : Fin 6) (q : List Trip) : List Trip := q.map fun t => if t.target = k then t.merge else t

/-- The queue without the request for this target. -/
def withoutTarget (k : Fin 6) (q : List Trip) : List Trip := q.filter fun t => t.target != k

/-- A stop lies ahead of the run: strictly between P_sup and the target position in the direction of travel (section 4.8). -/
def State.liesAhead (s : State) (k : Fin 6) : Bool :=
  match s.msu.pSup, s.rco.authority.targetPosition, s.rco.authority.dir with
  | some p, some t, some d =>
    (s.stopEntry k).present && d.beyond (s.stopEntry k).position p && d.beyond t (s.stopEntry k).position
  | _, _, _ => false

/-- The run may be retargeted, the stop apart (R75, R76). -/
def State.mayRetarget (s : State) : Bool :=
  s.rco.runState == .running && s.rco.authority.state == .granted && !s.rco.jogRun

/-- The line can still stop at the stop: measurement is qualified and the curve value is at least v_meas (R75, R76). -/
def State.reachable (s : State) (k : Fin 6) : Bool :=
  s.msu.qualified && s.msu.vMeas ≤ s.curveValue (s.stopEntry k).position

/-- The run is retargeted to a request (R75, steps 1 to 3). -/
def retarget (t : Trip) (s : State) : State :=
  let s1 := returnTrip (s.withRco { s.rco with queue := withoutTarget t.target s.rco.queue })
  let s2 := s1.withRco { s1.rco with tripInHand := some t }
  setAuthority
    { s2.rco.authority with targetStop := some t.target, targetPosition := some (s2.stopEntry t.target).position } s2

/-- Step 6 of R63: the request is inserted, the retarget test made, and the head taken where it may be. -/
def insertTrip (k : Fin 6) (origin : Origin) (s : State) : State × ResultCode :=
  let t : Trip := { target := k, origin := origin, merged := 1 }
  let s1 := s.withRco { s.rco with queue := s.rco.queue ++ [t] }
  if s1.mayRetarget && s1.liesAhead k && s1.reachable k then (takeHead (retarget t s1), .retargeted)
  else (takeHead s1, .accepted)

/-- Steps 3 to 6 of R63, for a present stop. -/
def joinTrip (k : Fin 6) (origin : Origin) (s : State) : State × ResultCode :=
  if s.rco.tripInHand.any (fun t => t.target == k) then
    (s.withRco { s.rco with tripInHand := s.rco.tripInHand.map Trip.merge }, .merged)
  else if (queuedFor k s.rco.queue).isSome then
    (s.withRco { s.rco with queue := mergeQueue k s.rco.queue }, .merged)
  else if queueCapacity ≤ s.rco.queue.length then (s, .queueFull)
  else insertTrip k origin s

/-- A request for a target stop (R63). -/
def requestStop (k : Fin 6) (origin : Origin) (s : State) : State × ResultCode :=
  if !s.rco.mode.isPublic then (s, .refusedMode)
  else if !(s.stopEntry k).present then (s, .refusedRange)
  else joinTrip k origin s

/-- The candidate stops of a platform (R64). -/
def State.callCandidates (s : State) (p : Fin 8) : List (Fin 6) :=
  allStops.filter fun k =>
    (s.stopEntry k).present && ((s.stopEntry k).platformA == some p || (s.stopEntry k).platformB == some p)

/-- The nearer of two candidate stops, the first where they lie equally near (R64). -/
def State.nearer (s : State) (at_ : Int) (j k : Fin 6) : Fin 6 :=
  if mag ((s.stopEntry k).position - at_) < mag ((s.stopEntry j).position - at_) then k else j

/-- A CALL, mapped to a stop and decided (R64). -/
def requestCall (p : Fin 8) (origin : Origin) (s : State) : State × ResultCode :=
  if !s.rco.mode.isPublic then (s, .refusedMode)
  else if !(s.platformEntry p).present then (s, .refusedRange)
  else
    match s.callCandidates p, s.msu.pSup with
    | [], _ => (s, .refusedRange)
    | _ :: _, none => (s, .refusedState)
    | k :: rest, some at_ => requestStop (rest.foldl (s.nearer at_) k) origin s

/-- The stops that lie ahead, nearest to P_sup first (R76). -/
def State.stopsAhead (s : State) : List (Fin 6) :=
  let ahead := allStops.filter s.liesAhead
  let at_ := s.msu.pSup.getD 0
  let near := fun k => mag ((s.stopEntry k).position - at_)
  ahead.foldl (fun sorted k => sorted.takeWhile (fun j => near j ≤ near k) ++ k :: sorted.dropWhile (fun j => near j ≤ near k)) []

/-- HOLD in RUNNING (R76). -/
def holdRunning (s : State) : State × ResultCode :=
  match s.stopsAhead.find? s.reachable with
  | none => (s, .refusedState)
  | some k =>
    match queuedFor k s.rco.queue with
    | some t => (retarget t s, .retargeted)
    | none =>
      if s.rco.queue.length < queueCapacity then (retarget { target := k, origin := .con, merged := 1 } s, .retargeted)
      else (s, .queueFull)

/-- HOLD in CLOSING (R76). -/
def holdClosing (s : State) : State :=
  let s1 := returnTrip s
  let s2 := if s1.rco.currentStop.isSome then startDwell (setRunState .atStop s1) else setRunState .offStop s1
  takeHead s2

/-! ### Dwell (R67) -/

/-- DWELL_TIMER_EXPIRY. -/
def dwellExpiry (s : State) : State :=
  if s.rco.dwellTimer.isSome then takeHead (s.withRco { s.rco with dwellTimer := none, dwellElapsed := true }) else s

end Sys2Proof.Machine
end

