-- ==== Sys2Proof/Machine/Brakes.lean ====
section
/-! DEFINITION. The Brake Sequencer (chapter 6): the outputs, the stop sequence, the departure abort, the taking of a cause with
every effect of a rise of the latched level, escalation, the departure sequence, and the readiness test that starts it. -/

namespace Sys2Proof.Machine

/-! ### The brake outputs (R103, R104) -/

/-- SB-DMD is asserted; when it was released SB confirmed becomes false (R103). -/
def assertSb (s : State) : State := if s.bks.sbDmd then s else s.withBks { s.bks with sbDmd := true, sbConfirmed := false }

/-- SB-DMD is released, and SB confirmed becomes false (R103). -/
def releaseSb (s : State) : State := s.withBks { s.bks with sbDmd := false, sbConfirmed := false }

/-- The step timer of the sequence in progress. -/
def setStepTimer (t : Option RunningStep) (s : State) : State := s.withBks { s.bks with stepTimer := t }

/-- A step timer started with its period. -/
def startStep (which : StepTimer) (period : Nat) (s : State) : State :=
  setStepTimer (some { which := which, remaining := period }) s

def setSlot (x : Slot) (s : State) : State := s.withBks { s.bks with slot := x }

/-- The step timer that runs is this one. -/
def State.stepTimerIs (s : State) (which : StepTimer) : Bool :=
  match s.bks.stepTimer with
  | some t => t.which == which
  | none => false

/-! ### The stop sequence (R119, R120) -/

/-- The outcome of a stop sequence with its fault list (R120). -/
def stopOutcome (faults : List StopFault) : StopOutcome :=
  match faults with
  | [] => .completed
  | f :: rest => .completedWithFault (f :: rest)

/-- Step S2 completes: the outcome is recorded, the slot becomes IDLE, and the RCO settles the line (R120). -/
def completeStop (s : State) : State :=
  settle true
    (s.withBks { s.bks with lastStop := stopOutcome s.bks.faults, faults := [], slot := .idle, stepTimer := none })

/-- EB-HOLD is de-energized in step S2: S2 completes where EBL reads fallen, else its fall is awaited (R120). -/
def awaitDrop (s : State) : State :=
  if s.bks.eblRisen then startStep .ebDrop Config.ebDropConfirm s else completeStop s

/-- EB-HOLD is de-energized and EB lifted proved becomes false (R104, R106). -/
def dropEbHold (s : State) : State := s.withBks { s.bks with ebHold := false, ebProved := false }

/-- EB-HOLD is de-energized; in the delay of step S2 this ends the delay (R120). -/
def deenergizeEb (s : State) : State :=
  if s.bks.ebHold then
    if s.bks.slot = .stop .s2 then awaitDrop (setStepTimer none (dropEbHold s)) else dropEbHold s
  else dropEbHold s

/-- Step S2 begins (R120). -/
def startS2 (s : State) : State :=
  let s1 := setStepTimer none (setSlot (.stop .s2) s)
  if s1.bks.ebHold then
    if s1.line.stopEbDelay = 0 then deenergizeEb s1 else startStep .stopEbDelay s1.line.stopEbDelay s1
  else awaitDrop s1

/-- The RCO asks for a stop sequence: step S1 (R119). -/
def startStop (s : State) : State :=
  let s1 := assertSb (s.withBks { s.bks with slot := .stop .s1, faults := [], stepTimer := none })
  if s1.bks.sbConfirmed then startS2 s1 else startStep .sbConfirm Config.sbConfirm s1

/-- The run state becomes STOPPING and the stop sequence is asked for; a running jog hold timer is cancelled (R59, R60, R74). -/
def beginStop (s : State) : State :=
  let s1 := setRunState .stopping s
  startStop (s1.withRco { s1.rco with jogTimer := none })

/-! ### The departure abort (R73, R118) -/

/-- Step 3 of R73: the abort is counted; the third takes the line to STANDBY (R29). -/
def countAbort (s : State) : State :=
  let n := s.rco.abortCount + 1
  if 3 ≤ n then (enterStandby .abortLimit (s.withRco { s.rco with abortCount := 3 })).setAttention .abortLimit
  else s.withRco { s.rco with abortCount := n }

/-- What the RCO does at a departure abort, in the order of R73. DESIGN CHOICE (log 52): the third abort enters STANDBY before the line is
settled, as steps 3 and 4 of R73 stand, although R29 says that the abort has already settled the run state when the mode changes. -/
def abortAtRco (s : State) : State :=
  let s1 := clearAuthority s
  let s2 := returnTrip (s1.withRco { s1.rco with brakesSet := true })
  let s3 := countAbort (s2.withRco { s2.rco with jogRun := false })
  if s3.msu.standstill then settle false s3 else setRunState .arrested s3

/-- A departure sequence in progress is aborted (R117, R118); nothing happens when the slot holds none. -/
def abortDeparture (cause : AbortCause) (s : State) : State :=
  match s.bks.slot with
  | .departure step =>
    let s1 := dropEbHold (assertSb (setStepTimer none s))
    let s2 := s1.withBks { s1.bks with lastDeparture := .aborted cause step, slot := .idle }
    abortAtRco (s2.setAttention .departureAborted)
  | _ => s

/-! ### Escalation (R107) -/

/-- The check speed of a check (R107). -/
def checkSpeed (vEntry aMin period : Nat) : Nat := vEntry - aMin * period / 2000

/-- A check starts with v_entry the latest v_meas (R107). -/
def startCheck (stage : EscStage) (period : Nat) (s : State) : State :=
  s.withBks
    { s.bks with
      esc :=
        { s.bks.esc with
          stage := stage
          vEntry := s.msu.vMeas
          checkSpeed := checkSpeed s.msu.vMeas s.line.aMin period
          timer := startMs period } }

/-- A check in progress is cancelled, the last outcome unchanged (R107, R109). -/
def cancelCheck (s : State) : State :=
  s.withBks { s.bks with esc := { s.bks.esc with stage := .none, timer := none } }

/-- The check of a latched level starts (R107, R109). -/
def startCheckFor (l : Level) (s : State) : State :=
  match l with
  | .service => startCheck .sbCheck s.line.tSb s
  | .emergency => startCheck .ebCheck s.line.tEb s
  | _ => s

/-- What a rise of the latched level to `l` does to the escalation (R107). -/
def escalateTo (l : Level) (s : State) : State :=
  if l = .rail then cancelCheck s else if s.msu.standstill then s else startCheckFor l s

/-! ### Taking a cause (R99, R100) -/

/-- The cause set after a block hands a cause (R99). -/
def addCause (c : Cause) (l : Level) : List CauseEntry → List CauseEntry
  | [] => [{ cause := c, level := l }]
  | e :: rest =>
    if e.cause = c then { e with level := e.level.max l } :: rest else e :: addCause c l rest

/-- The demand record is replaced, and a DRIVE ORDER notice handed where the current level changes (R100). -/
def setDemand (d : Demand) (s : State) : State :=
  if d.current = s.bks.demand.current then s.withDemand d else handNotice (s.withDemand d) .driveOrder

/-- The brake demand record after a cause is handed (R99). -/
def Demand.add (d : Demand) (c : Cause) (l : Level) : Demand :=
  let causes := addCause c l d.causes
  { d with
    causes := causes
    latched := highest causes
    first := if d.latched = .none ∧ (highest causes).brakes then some c else d.first
    current := currentLevel (highest causes) d.caution }

/-- The RCO at a latch that reaches SERVICE (R59), the departure abort apart. -/
def arrest (s : State) : State :=
  match s.rco.runState with
  | .running =>
    if s.msu.standstill then beginStop s
    else
      let s1 := setRunState .arrested s
      s1.withRco { s1.rco with jogTimer := none }
  | .atStop => if s.msu.standstill then s else setRunState .arrested s
  | .offStop => if s.msu.standstill then s else setRunState .arrested s
  | .closing => if s.msu.standstill then s else returnTrip (setRunState .arrested s)
  | .departing => s
  | .stopping => s
  | .arrested => s

/-- The latched level reaches SERVICE or higher from NONE: the first row of R100, in the order of its text (log 18). -/
def reachService (abortAs : AbortCause) (s : State) : State :=
  let s1 := arrest (withdrawAuthority (assertSb s))
  (abortDeparture abortAs (closeAll .latch s1)).setAttention .brakeLatched

/-- The effects of a rise of the latched level from `before` (R100, R107). -/
def latchRise (before : Level) (abortAs : AbortCause) (s : State) : State :=
  let l := s.bks.demand.latched
  if l.rank ≤ before.rank then s
  else
    let s1 := if before.rank < 2 ∧ 2 ≤ l.rank then reachService abortAs s else s
    let s2 := if before.rank < 3 ∧ 3 ≤ l.rank then deenergizeEb s1 else s1
    let s3 := if before.rank < 4 ∧ 4 ≤ l.rank then setRailOrder .apply s2 else s2
    escalateTo l s3

/-- The BKS takes a cause at a level; `abortAs` is the abort cause of a departure that the latch aborts (R99, R100, R117). DESIGN
CHOICE (log 45): the DRIVE ORDER notice of a changed level is handed before the effects of the rise, and so before that of the authority
that the rise withdraws (R57). -/
def raiseAs (abortAs : AbortCause) (c : Cause) (l : Level) (s : State) : State :=
  latchRise s.bks.demand.latched abortAs (setDemand (s.bks.demand.add c l) s)

def raise (c : Cause) (l : Level) (s : State) : State := raiseAs .latch c l s

/-- EB_FAULT at EMERGENCY with the attention item EB_CONFIRM (R106, R114, R120). -/
def raiseEbFault (s : State) : State := raise .ebFault .emergency (s.setAttention .ebConfirm)

/-- The level that overspeed asks is taken: caution asked, and OVERSPEED at SERVICE or higher (R93, R99). -/
def takeAsked (asked : Level) (s : State) : State :=
  let d := { s.bks.demand with caution := asked == .caution }
  if asked.brakes then raise .overspeed asked { s with bks := { s.bks with demand := d } }
  else setDemand { d with current := currentLevel d.latched d.caution } s

/-! ### The departure sequence (R113 to R116) -/

/-- Step D3 begins (R115); the DOU withdraws every release that is given (R131), car A before car B (log 46). -/
def startD3 (s : State) : State :=
  let s1 := setSlot (.departure .d3) s
  let s2 := setAuthority { s1.rco.authority with state := .prove } s1
  startStep .torqueProve Config.torqueProve (allCars.foldl (withdrawGiven .prove) s2)

/-- Step D2 begins (R114). -/
def startD2 (s : State) : State :=
  let s1 := setStepTimer none (setSlot (.departure .d2) s)
  if s1.bks.eblRisen then raiseEbFault s1
  else startStep .ebLift Config.ebLiftConfirm (s1.withBks { s1.bks with ebHold := true })

/-- Step D1 completes when both cars show LIFTED (R113). -/
def testD1 (s : State) : State :=
  if s.bks.slot = .departure .d1 ∧ s.dou.a.rail = .lifted ∧ s.dou.b.rail = .lifted then startD2 s else s

/-- The RCO asks for a departure sequence: step D1 (R113). -/
def startD1 (s : State) : State :=
  let s1 := setRailOrder .lift (takeSnapshot (setSlot (.departure .d1) s))
  testD1 (startStep .railConfirm Config.railConfirm s1)

/-- Step D4 begins (R116). -/
def startD4 (s : State) : State := startStep .sbLift Config.sbConfirm (releaseSb (setSlot (.departure .d4) s))

/-- The authority law at the completion of D4 (R58, R72). -/
def State.lawHolds (s : State) : Bool := s.releasesNone && s.doorsLocked

/-- The departure completes with the grant (R72, R116, R147). -/
def grantAuthority (s : State) : State :=
  let s1 := s.withBks { s.bks with slot := .idle, stepTimer := none, lastDeparture := .completed }
  let s2 := setRunState .running (setAuthority { s1.rco.authority with state := .granted } s1)
  clearServed
    (s2.withRco
      { s2.rco with
        abortCount := 0
        jogTimer := if s2.rco.jogRun then startMs Config.jogHold else s2.rco.jogTimer })

/-- Step D4 completes (R72, R116). -/
def completeD4 (s : State) : State :=
  if s.lawHolds then grantAuthority s else abortDeparture .releaseHeld s

/-- A departure starts toward a stop (R71, R77). -/
def startDeparture (k : Fin 6) (dir : Dir) (s : State) : State :=
  let s1 := setAuthority
    { s.rco.authority with
      targetStop := some k, targetPosition := some (s.stopEntry k).position, dir := some dir } s
  let s2 := setRunState .departing s1
  startD1 (s2.withRco { s2.rco with brakesSet := false })

/-! ### The readiness stage (R69 to R71) -/

/-- The readiness test of CLOSING at the end of an event, and the departure it starts (R69 to R71; log 14). A departure that is
aborted in the same event may begin CLOSING afresh, where the test is made again: `n` bounds the tests. -/
def readinessStage : Nat → State → State
  | 0, s => s
  | n + 1, s =>
    if s.rco.runState = .closing then
      match s.readiness, s.rco.tripInHand with
      | none, some t =>
        readinessStage n (startDeparture t.target s.rco.tripDir (s.withRco { s.rco with firstFailing := none }))
      | r, _ => s.withRco { s.rco with firstFailing := r }
    else s.withRco { s.rco with firstFailing := none }

/-- Every event ends with the readiness test where CLOSING waits for it. -/
def endEvent (s : State) : State := readinessStage 2 s

/-! ### Standstill (R60, R109, R131) -/

/-- The RCO at the confirmation of standstill (R60, R74). -/
def standstillAtRco (s : State) : State :=
  match s.rco.runState with
  | .arrested => if s.rco.brakesSet then settle false s else beginStop s
  | .running =>
    match s.rco.authority.state, s.rco.authority.targetStop with
    | .withdrawn, _ => if s.rco.jogRun then beginStop s else s
    | .granted, some k => if s.insideWindow k then beginStop s else s
    | _, _ => s
  | _ => s

/-- Standstill is confirmed, and the RCO and the BKS are told (R48, R60, R109). -/
def confirmStandstill (s : State) : State :=
  cancelCheck (standstillAtRco (s.withMsu { s.msu with standstill := true, standstillTimer := none }))

/-- The RCO at the loss of standstill (R60). -/
def lossAtRco (s : State) : State :=
  if s.bks.demand.latched.brakes then
    match s.rco.runState with
    | .atStop => setRunState .arrested s
    | .offStop => setRunState .arrested s
    | .closing => returnTrip (setRunState .arrested s)
    | _ => s
  else s

/-- The BKS at the loss of standstill (R109). -/
def lossAtBks (s : State) : State :=
  if s.bks.esc.stage = .none then startCheckFor s.bks.demand.latched s else s

/-- Standstill confirmation ends: the RCO, the BKS and the DOU are told (R48, R60, R109, R131). DESIGN CHOICE (log 46): where both
releases are withdrawn, car A comes before car B. -/
def loseStandstill (s : State) : State :=
  allCars.foldl (withdrawGiven .standstillLost)
    (lossAtBks (lossAtRco (s.withMsu { s.msu with standstill := false })))

/-! ### Arrival at a later sample event (R74) -/

/-- The window test against the target stop, made again at a sample event (R74). -/
def retestArrival (s : State) : State :=
  if s.rco.runState = .running ∧ s.rco.authority.state = .granted ∧ s.msu.standstill then
    match s.rco.authority.targetStop with
    | some k => if s.insideWindow k then beginStop s else s
    | none => s
  else s

/-! ### The jog hold timer (R78) -/

/-- ceil(v² / (2 × a_g)) (R78; log 23 for an a_g of 0). -/
def brakingDistance (v aG : Nat) : Int :=
  if aG = 0 then Config.unstatedBraking v else ceilDiv (v * v) (2 * aG)

/-- The withdrawal point (R78). -/
def State.withdrawalPoint (s : State) (dir : Dir) : Int :=
  let d := brakingDistance s.msu.vMeas (s.ssv.aG.getD s.line.aMin) + s.line.mStop
  match dir with
  | .up => s.msu.pSup.getD 0 + d
  | .down => s.msu.pSup.getD 0 - d

/-- The target position after the withdrawal: the point where it lies short of the target stop (R78). -/
def State.withdrawnTarget (s : State) (dir : Dir) (point : Int) : Option Int :=
  match s.rco.authority.targetStop with
  | some k => if dir.beyond (s.stopEntry k).position point then some point else some (s.stopEntry k).position
  | none => s.rco.authority.targetPosition

/-- JOG_HOLD_EXPIRY (R58, R78). -/
def jogExpiry (s : State) : State :=
  if s.rco.jogTimer.isSome then
    let s1 := s.withRco { s.rco with jogTimer := none }
    match s.rco.authority.state, s.rco.authority.dir with
    | .granted, some dir =>
      let point := s.withdrawalPoint dir
      let s2 := setAuthority
        { s.rco.authority with
          state := .withdrawn, withdrawalPoint := some point, targetPosition := s.withdrawnTarget dir point } s1
      if s2.msu.standstill then beginStop s2 else s2
    | _, _ => s1
  else s

/-! ### ESTOP and EBL (R106, R110) -/

/-- ESTOP_FALLING_EDGE of an operating part (R110). -/
def estopFall (s : State) : State :=
  s.withBks
    { s.bks with
      estop :=
        { s.bks.estop with
          active := true
          timer := if s.bks.estop.timer.isSome then s.bks.estop.timer else startMs s.line.estopQualify } }

/-- ESTOP_RISING_EDGE of an operating part (R110). -/
def estopRise (s : State) : State :=
  s.withBks { s.bks with estop := { active := false, timer := none, qualified := false } }

/-- ESTOP_QUALIFY_EXPIRY (R110, R117). -/
def estopQualify (s : State) : State :=
  if s.bks.estop.timer.isSome then
    let s1 := s.withBks { s.bks with estop := { s.bks.estop with timer := none, qualified := true } }
    abortDeparture .estop (raiseAs .estop .estop .emergency (s1.setAttention .estopActive))
  else s

/-- EBL_RISE of an operating part (R106, R114). -/
def eblRises (s : State) : State :=
  let s1 := s.withBks { s.bks with eblRisen := true }
  if !s.bks.ebHold then raiseEbFault s1
  else if s.bks.slot = .departure .d2 ∧ s.stepTimerIs .ebLift then
    startStep .ebSettle Config.ebSettle (s1.withBks { s1.bks with ebProved := true })
  else s1

/-- EBL_FALL of an operating part (R106, R120). -/
def eblFalls (s : State) : State :=
  let s1 := s.withBks { s.bks with eblRisen := false }
  if s.bks.ebHold then if s.bks.ebProved then raiseEbFault s1 else s1
  else if s.bks.slot = .stop .s2 ∧ s.stepTimerIs .ebDrop then completeStop s1
  else s1

/-! ### The step timers (R113 to R116, R119, R120) -/

/-- RAIL_CONFIRM_EXPIRY, EB_LIFT_CONFIRM_EXPIRY, TORQUE_PROVE_EXPIRY and SB_LIFT_CONFIRM_EXPIRY: the step's timer aborts the
departure with STEP_TIMEOUT (R117). -/
def stepTimeout (which : StepTimer) (s : State) : State :=
  if s.stepTimerIs which then abortDeparture .stepTimeout (setStepTimer none s) else s

/-- EB_SETTLE_EXPIRY (R114). -/
def ebSettleEnd (s : State) : State := if s.stepTimerIs .ebSettle then startD3 (setStepTimer none s) else s

/-- SB_CONFIRM_EXPIRY in step S1 (R119). -/
def sbConfirmEnd (s : State) : State :=
  if s.stepTimerIs .sbConfirm then
    let s1 := s.withBks { s.bks with stepTimer := none, faults := s.bks.faults ++ [.sbUnconfirmed] }
    startS2 (raise .ebFault .emergency (s1.setAttention .sbConfirm))
  else s

/-- STOP_EB_DELAY_END (R120). -/
def stopDelayEnd (s : State) : State := if s.stepTimerIs .stopEbDelay then deenergizeEb (setStepTimer none s) else s

/-- EB_DROP_CONFIRM_EXPIRY (R120). -/
def ebDropEnd (s : State) : State :=
  if s.stepTimerIs .ebDrop then
    let s1 := raiseEbFault (setStepTimer none s)
    completeStop (s1.withBks { s1.bks with faults := s1.bks.faults ++ [.ebUnconfirmed] })
  else s

/-- ESCALATION_TIMER_EXPIRY (R108). -/
def escalationExpiry (s : State) : State :=
  if s.bks.esc.timer.isSome then
    let stage := s.bks.esc.stage
    let failed := s.bks.esc.checkSpeed < s.msu.vMeas
    let s1 := s.withBks
      { s.bks with
        esc :=
          { s.bks.esc with
            stage := .none, timer := none, last := if failed then .failed stage else .passed stage } }
    if failed then
      raise .decelShort (if stage = .ebCheck then .rail else .emergency) (s1.setAttention .brakeEscalated)
    else s1
  else s

/-! ### A DRIVE REPORT at the brakes (R102, R103, R115, R116, R119) -/

/-- SB confirmed follows the reported SB condition while SB-DMD is asserted (R103). -/
def followSb (sb : SbCondition) (s : State) : State :=
  if s.bks.sbDmd then s.withBks { s.bks with sbConfirmed := sb == .applied } else s

/-- What the report does to the step in progress. -/
def driveStep (r : DriveReport) (s : State) : State :=
  match s.bks.slot with
  | .departure .d3 => if r.state = .torqueProved then startD4 (setStepTimer none s) else s
  | .departure .d4 => if r.sb = .lifted ∧ r.state ≠ .fault then completeD4 (setStepTimer none s) else s
  | .stop .s1 => if s.bks.sbConfirmed then startS2 s else s
  | _ => s

/-- The RCO and the BKS take a DRIVE REPORT (R56, R102, R103, R115, R116, R119; log 21). -/
def takeDriveReport (r : DriveReport) (s : State) : State :=
  let s1 := driveStep r (followSb r.sb (s.withRco { s.rco with driveReport := some r }))
  if r.state = .fault ∧ s.live then raise .drive .service s1 else s1

/-! ### BRAKE RESET (R30, R111) -/

/-- The demand record of a taken BRAKE RESET (R111). -/
def Demand.cleared (d : Demand) : Demand :=
  { causes := [], latched := .none, first := none, caution := d.caution, current := currentLevel .none d.caution }

/-- The two conditions of R30, on the cause set as it stood. -/
def State.toRecovery (s : State) : Bool :=
  s.rco.mode == .service && (s.rco.runState == .atStop || s.rco.runState == .offStop) &&
    (s.windowTest.isNone || holdsCause s.bks.demand.causes .positionDisagree || holdsCause s.bks.demand.causes .datumMismatch)

/-- A BRAKE RESET is taken (R111, then R30 and R68; log 35). -/
def takeBrakeReset (s : State) : State :=
  let s1 := setDemand s.bks.demand.cleared (s.withBks { s.bks with esc := Escalation.reset })
  if s.toRecovery then takeHead (changeMode .recovery .brakeReset [] s1) else s1

end Sys2Proof.Machine
end

