-- ==== Sys2Proof/Machine/Measurement.lean ====
section
/-! DEFINITION. The Measurement Unit (chapter 3): sensor reads, channel positions, rings and speeds, the supervised values, the
range check and the disagreement tests, standstill, datum events and calibration changes, and the whole sample event with the
Speed Supervisor's computation (R36, R81, R93). -/

namespace Sys2Proof.Machine

/-! ### Sensor reads (R37, R38) -/

/-- The number of ones among the lowest n bits is odd. -/
def oddOnes (w : BitVec 26) : Nat → Bool
  | 0 => false
  | n + 1 => w.getLsbD n != oddOnes w n

/-- The count: the first 24 of the 26 bits (R37). -/
def countOf (r : SensorRead) : Nat := r.bits.toNat / 4

/-- The sensor's fault indication, the 25th bit (R37). -/
def faultOf (r : SensorRead) : Bool := r.bits.getLsbD 1

/-- A good read: the line idle before and after, an even number of ones, no fault (R37). -/
def goodRead (r : SensorRead) : Bool := r.idleBefore && r.idleAfter && !oddOnes r.bits 26 && !faultOf r

/-- The displacement, with the wrap band below the zero count (R38, step 1). -/
def displacement (zeroCount count : Nat) : Int :=
  let d := ((count : Int) - zeroCount) % 16777216
  if 16515072 ≤ d then d - 16777216 else d

/-- A displacement in millimetres, rounded toward minus infinity (R38, step 2; log 23 for a scale of 0). -/
def scaled (scale : Nat) (d : Int) : Int := if scale = 0 then Config.unstatedScaling d else d * 1000 / scale

/-- The channel position of a count (R38). -/
def convert (zeroCount scale : Nat) (offset : Int) (count : Nat) : Int := scaled scale (displacement zeroCount count) + offset

/-! ### The ring (R39, R40) -/

/-- The entries of a full ring (R39). -/
def ringCapacity : Nat := 9

/-- An entry joins the ring, and the oldest leaves a full one. -/
def pushRing (e : RingEntry) (ring : List RingEntry) : List RingEntry :=
  if ring.length < ringCapacity then ring ++ [e] else ring.drop 1 ++ [e]

/-- The status that follows a ring after a push (R39). -/
def ringStatus (ring : List RingEntry) : ChannelStatus := if ring.length = ringCapacity then .good else .filling

/-- A channel at a good read (R39). -/
def Channel.takeGood (c : Channel) (p : Int) : Channel :=
  let ring := pushRing { position := p, held := false } c.ring
  { c with position := some p, badRun := 0, ring := ring, status := ringStatus ring }

/-- A held entry joins a ring that holds one already (R40, first row). -/
def Channel.hold (c : Channel) : Channel :=
  match c.ring, c.position with
  | [], _ => c
  | _ :: _, none => c
  | _ :: _, some p =>
    let ring := pushRing { position := p, held := true } c.ring
    { c with ring := ring, status := ringStatus ring }

/-- A channel at a bad read (R40; log 28). -/
def Channel.takeBad (c : Channel) : Channel :=
  let c1 := { c with badRun := satInc 3 c.badRun, badTotal := satInc 65535 c.badTotal }
  if c.status = .failed then c1
  else if c1.badRun = 3 then { c1 with status := .failed, ring := [] }
  else c1.hold

/-- A channel after the read of a sample event. -/
def Channel.takeRead (c : Channel) (zeroCount scale : Nat) (r : SensorRead) : Channel :=
  if goodRead r then c.takeGood (convert zeroCount scale c.offset (countOf r)) else c.takeBad

/-! ### Speeds (R41) -/

/-- The speed and direction are recomputed: the ring is full and both its ends are read entries (R41). -/
def Channel.spans (c : Channel) : Option (Int × Int) :=
  match c.ring.head?, c.ring.getLast? with
  | some o, some n =>
    if c.ring.length = ringCapacity ∧ !o.held ∧ !n.held then some (o.position, n.position) else none
  | _, _ => none

/-- UP, DOWN or NONE by the newest against the oldest entry (R41). -/
def spanDir (oldest newest : Int) : Option Dir :=
  if oldest < newest then some .up else if newest < oldest then some .down else none

/-- The speed over the 80 ms between the ring's ends (R41). -/
def spanSpeed (oldest newest : Int) : Nat := mag (newest - oldest) * 25 / 2

/-- A channel with its speed and direction settled (R41). -/
def Channel.settleSpeed (c : Channel) : Channel :=
  match c.spans with
  | some (o, n) => { c with speed := spanSpeed o n, dir := spanDir o n }
  | none => c

/-! ### Qualification and the supervised values (R42, R43) -/

/-- Both channels are GOOD (R42). -/
def Msu.bothGood (m : Msu) : Bool := m.ch1.status == .good && m.ch2.status == .good

/-- The direction of motion (R43). -/
def motionOf (m : Msu) : Option Dir := if m.ch1.speed < m.ch2.speed then m.ch2.dir else m.ch1.dir

/-- P_sup by the direction that chooses it (R43). -/
def chosenPosition (p1 p2 : Int) : Option Dir → Int
  | some .up => max p1 p2
  | some .down => min p1 p2
  | none => (p1 + p2) / 2

/-- The direction that chooses P_sup: of motion, or at NONE that of the authority while it is PROVE, GRANTED or WITHDRAWN (R43). -/
def choosing (motion : Option Dir) (a : Authority) : Option Dir :=
  match motion with
  | some d => some d
  | none => if a.state = .none then none else a.dir

/-- The supervised values, once both channels have had a good read (R43). -/
def Msu.supervise (m : Msu) (a : Authority) : Msu :=
  match m.ch1.position, m.ch2.position with
  | some p1, some p2 =>
    { m with
      vMeas := max m.ch1.speed m.ch2.speed
      motion := motionOf m
      pSup := some (chosenPosition p1 p2 (choosing (motionOf m) a)) }
  | _, _ => m

/-! ### The checks (R45 to R47) -/

/-- A channel after the range test, made at a good read (R47). -/
def Channel.testRange (c : Channel) (l : LineConsts) (good : Bool) : Channel :=
  match good, c.position with
  | true, some p => { c with inRange := measurable l p }
  | _, _ => c

/-- The out-of-range flag after the tests of a sample event (R47). -/
def rangeFlag (before good1 good2 in1 in2 : Bool) : Bool :=
  if (good1 && !in1) || (good2 && !in2) then true
  else if (good1 || good2) && in1 && in2 then false
  else before

/-- The range check (R47). -/
def checkRange (good1 good2 : Bool) (s : State) : State :=
  let c1 := s.msu.ch1.testRange s.line good1
  let c2 := s.msu.ch2.testRange s.line good2
  let flag := rangeFlag s.msu.outOfRange good1 good2 c1.inRange c2.inRange
  let s1 := s.withMsu { s.msu with ch1 := c1, ch2 := c2, outOfRange := flag }
  if flag && !s.msu.outOfRange then raise .overrun .emergency (s1.setAttention .positionRange) else s1

/-- The channels disagree in position (R45). -/
def State.positionsApart (s : State) : Bool :=
  match s.msu.ch1.position, s.msu.ch2.position with
  | some p1, some p2 => s.line.positionTolerance < (mag (p1 - p2) : Int)
  | _, _ => false

/-- The position disagreement test (R45). -/
def checkPositions (s : State) : State :=
  if s.msu.qualified then
    let s1 := s.withMsu { s.msu with positionDisagree := s.positionsApart }
    if s.positionsApart && !s.msu.positionDisagree then
      raise .positionDisagree .service (s1.setAttention .channelDisagree)
    else s1
  else s

/-- The speed disagreement test, made when both speeds were recomputed (R46). -/
def checkSpeeds (recomputed : Bool) (s : State) : State :=
  if s.msu.qualified && recomputed then
    if speedsDisagree s.msu.ch1.speed s.msu.ch2.speed then
      let n := satInc 3 s.msu.speedDisagree
      let s1 := s.withMsu { s.msu with speedDisagree := n }
      if n = 3 then raise .speedDisagree .emergency (s1.setAttention .channelDisagree) else s1
    else s.withMsu { s.msu with speedDisagree := 0 }
  else s

/-! ### Standstill (R48) -/

/-- Both channel speeds are at most 20 mm/s and measurement is qualified (R48). -/
def Msu.still (m : Msu) : Bool := m.qualified && m.ch1.speed ≤ 20 && m.ch2.speed ≤ 20

/-- The standstill timer at a sample event (R48). -/
def settleStandstill (s : State) : State :=
  if s.msu.still then
    if !s.msu.standstill && s.msu.standstillTimer.isNone then
      s.withMsu { s.msu with standstillTimer := startMs s.line.standstillTime }
    else s
  else
    let s1 := s.withMsu { s.msu with standstillTimer := none }
    if s.msu.standstill then loseStandstill s1 else s1

/-- STANDSTILL_TIMER_EXPIRY (R48). -/
def standstillExpiry (s : State) : State := if s.msu.standstillTimer.isSome then confirmStandstill s else s

/-! ### The sample event (R36, R81, R93) -/

/-- Steps 1 and 2: both reads are taken, and a channel that has just failed adds MEASUREMENT (R40; log 16). -/
def takeReads (r1 r2 : SensorRead) (s : State) : State :=
  let c1 := s.msu.ch1.takeRead s.line.zero1 s.line.scale1 r1
  let c2 := s.msu.ch2.takeRead s.line.zero2 s.line.scale2 r2
  let s1 := s.withMsu { s.msu with ch1 := c1, ch2 := c2 }
  if (c1.status = .failed ∧ s.msu.ch1.status ≠ .failed) ∨ (c2.status = .failed ∧ s.msu.ch2.status ≠ .failed) then
    raise .measurement .emergency (s1.setAttention .sensorFailed)
  else s1

/-- Steps 3 and 4: speeds, qualification and the supervised values (R41 to R43). -/
def settleValues (s : State) : State :=
  let m := { s.msu with ch1 := s.msu.ch1.settleSpeed, ch2 := s.msu.ch2.settleSpeed }
  s.withMsu ({ m with qualified := m.bothGood }.supervise s.rco.authority)

/-- Step 5: the range check and the disagreement tests (R45 to R47; log 16). -/
def checkChannels (good1 good2 : Bool) (s : State) : State :=
  checkSpeeds (s.msu.ch1.spans.isSome && s.msu.ch2.spans.isSome) (checkPositions (checkRange good1 good2 s))

/-- The MSU's six steps (R36). -/
def measure (r1 r2 : SensorRead) (s : State) : State :=
  settleStandstill (checkChannels (goodRead r1) (goodRead r2) (settleValues (takeReads r1 r2 s)))

/-- The ceiling of the authority record takes v_perm while the state is GRANTED or WITHDRAWN (R57, R93). -/
def takeCeiling (s : State) : State :=
  if s.rco.authority.state.running then
    s.withRco { s.rco with authority := { s.rco.authority with ceiling := s.ssv.vPerm } }
  else s

/-- The SSV's computation, and what it hands on (R81, R92, R93; log 40). -/
def superviseLine (s : State) : State :=
  let s1 := takeCeiling (s.withSsv s.supervised)
  let s2 := takeAsked s1.ssv.asked s1
  if s1.ssv.overrunFlag && !s.ssv.overrunFlag then raise .overrun .emergency s2 else s2

/-- SAMPLE_EVENT (R36): the MSU, the arrival test of R74 (log 17), and the SSV. -/
def sampleEvent (r1 r2 : SensorRead) (s : State) : State :=
  if s.msu.sampleTimer.isSome then
    superviseLine
      (retestArrival (measure r1 r2 (s.withMsu { s.msu with sampleTimer := startMs Config.samplePeriod })))
  else s

/-! ### Datum events (R49, R50) -/

/-- A channel judged against a datum position, with its outcome (R49). -/
def Channel.judgeDatum (c : Channel) (datum tolerance : Int) : Channel × DatumOutcome :=
  match c.position with
  | none => ({ c with lastDatum := .skipped }, .skipped)
  | some p =>
    if c.status = .failed ∨ c.ring = [] then ({ c with lastDatum := .skipped }, .skipped)
    else if (mag (datum - p) : Int) ≤ tolerance then
      let x := datum - p
      ({ c with
          offset := c.offset + x
          position := some (p + x)
          ring := c.ring.map fun e => { e with position := e.position + x }
          resynced := true
          lastDatum := .corrected x }, .corrected x)
    else ({ c with resynced := false, lastDatum := .mismatch (datum - p) }, .mismatch (datum - p))

def DatumOutcome.isMismatch : DatumOutcome → Bool
  | .mismatch _ => true
  | _ => false

/-- DATUM_EVENT (R6, R49, R50). -/
def datumEvent (n : Fin 4) (s : State) : State :=
  if (s.datumEntry n).present then
    let x1 := s.msu.ch1.judgeDatum (s.datumEntry n).position s.line.datumTolerance
    let x2 := s.msu.ch2.judgeDatum (s.datumEntry n).position s.line.datumTolerance
    let record : DatumRecord :=
      { edges := satInc 255 (s.msu.datums.get n).edges, outcome1 := x1.2, outcome2 := x2.2 }
    let s1 := s.withMsu { s.msu with ch1 := x1.1, ch2 := x2.1, datums := s.msu.datums.set n.val record n.isLt }
    if x1.2.isMismatch || x2.2.isMismatch then raise .datumMismatch .service (s1.setAttention .datumFault) else s1
  else s

/-! ### Calibration changes (R51) -/

/-- A channel whose calibration has changed (R51). -/
def Channel.recalibrate (c : Channel) : Channel :=
  { c with
    ring := []
    offset := 0
    badRun := 0
    resynced := false
    lastDatum := .none
    status := if c.status = .failed then .failed else .empty }

/-- The MSU is told of a change of calibration (R51; log 29). -/
def calibrationChange (first second : Bool) (s : State) : State :=
  if first || second then
    let s1 := s.withMsu
      { s.msu with
        ch1 := if first then s.msu.ch1.recalibrate else s.msu.ch1
        ch2 := if second then s.msu.ch2.recalibrate else s.msu.ch2
        qualified := false
        standstillTimer := none }
    if s.msu.standstill then loseStandstill s1 else s1
  else s

end Sys2Proof.Machine
end

