-- ==== Sys2Proof/Machine/Configuration.lean ====
section
/-! DEFINITION. The Configuration Store (chapter 1, with R178): the record encodings, the per-record check, global validation, the
stored image with its load and commit, and the effects of an accepted CONFIG WRITE. -/

namespace Sys2Proof.Machine

/-! ### Record encodings (R178) -/

/-- A distance in two bytes, signed (R178; log 22 for a value that does not fit). -/
def encShort (x : Int) : List Byte :=
  bytes16 (if -32768 ≤ x ∧ x < 32768 then BitVec.ofInt 16 x else Config.unstatedWord x.toNat)

/-- A zero count in four bytes, unsigned (R173; log 22 for a value that does not fit). -/
def encLong (n : Nat) : List Byte := bytes32 (if n < 4294967296 then BitVec.ofNat 32 n else Config.unstatedLong n)

def encGateDir : GateDir → List Byte
  | .entry => [0]
  | .exit => [1]

def encLine (l : LineConsts) : List Byte :=
  encPos l.length ++ encWord l.aBase ++ encWord l.aMin ++ encCount l.cLoad ++ encCount l.personMass ++
    encCount l.carCapacity ++ encWord l.ratedLoad ++ encShort l.mStop ++ encShort l.overrun ++ encWord l.vLineMax ++
    encWord l.creep ++ encWord l.standstillTime ++ encWord l.dwellMin ++ encWord l.ackTime ++ encCount l.closeTimeout ++
    encCount l.exitQuiet ++ encCount l.reservationTimeout ++ encWord l.tSb ++ encWord l.tEb ++ encWord l.stopEbDelay ++
    encWord l.silenceLimit ++ encCount l.estopQualify ++ encShort l.positionTolerance ++ encShort l.datumTolerance ++
    encLong l.zero1 ++ encWord l.scale1 ++ encLong l.zero2 ++ encWord l.scale2

def encStop (e : StopEntry) : List Byte :=
  encFlag e.present ++ encPos e.position ++ encShort e.halfWidth ++ encIndex? e.platformA ++ [e.sideA.code] ++
    encIndex? e.platformB ++ [e.sideB.code]

def encZone (e : ZoneEntry) : List Byte := encFlag e.present ++ encPos e.start ++ encWord e.limit ++ encCount e.percent

def encPlatform (e : PlatformEntry) : List Byte := encFlag e.present ++ [e.policy]

def encGate (e : GateEntry) : List Byte := encFlag e.present ++ [byte e.platform.val] ++ encGateDir e.dir

def encDatum (e : DatumEntry) : List Byte := encFlag e.present ++ encPos e.position

/-- The image as a stream of record encodings, table by table and entry by entry (R8, R174). -/
def imageBytes (t : Tables) : List Byte :=
  encLine t.line ++ t.stops.toList.flatMap encStop ++ t.zones.toList.flatMap encZone ++
    t.platforms.toList.flatMap encPlatform ++ t.gates.toList.flatMap encGate ++ t.datums.toList.flatMap encDatum

/-- The check word of an image (R8). -/
def imageCrc (t : Tables) : CheckWord := crc16 (imageBytes t)

/-- The record of a table at an index; empty where the index names none. -/
def recordBytes (t : Tables) (id : TableId) (index : Nat) : List Byte :=
  match id with
  | .line => encLine t.line
  | .stop => (t.stops.toList.drop index).take 1 |>.flatMap encStop
  | .zone => (t.zones.toList.drop index).take 1 |>.flatMap encZone
  | .platform => (t.platforms.toList.drop index).take 1 |>.flatMap encPlatform
  | .gate => (t.gates.toList.drop index).take 1 |>.flatMap encGate
  | .datum => (t.datums.toList.drop index).take 1 |>.flatMap encDatum

/-! ### Record decoding and the per-record check (R12, R178, R179) -/

/-- A field of a record: its width in bytes, whether its coding is signed, and what R12 accepts. -/
structure Field where
  width : Nat
  signed : Bool
  accepts : Int → Bool

/-- A value of a range, both ends included. -/
def within (lo hi : Int) (x : Int) : Bool := lo ≤ x && x ≤ hi

def unsignedField (width : Nat) (lo hi : Int) : Field := { width := width, signed := false, accepts := within lo hi }
def signedField (width : Nat) (lo hi : Int) : Field := { width := width, signed := true, accepts := within lo hi }

/-- A present flag: any value other than 0 is true (R179). -/
def presentField : Field := unsignedField 1 0 255

/-- A platform field of a stop: 0 to 7, or NONE (R12, R179). -/
def stopPlatformField : Field := { width := 1, signed := false, accepts := fun x => within 0 7 x || x == 255 }

/-- The fields of each table's record in the order of its field table, with their ranges (R2 to R7, R12). -/
def TableId.fields : TableId → List Field
  | .line =>
    [signedField 4 200000 4000000, unsignedField 2 400 2000, unsignedField 2 200 2000, unsignedField 1 0 20,
      unsignedField 1 50 120, unsignedField 1 10 250, unsignedField 2 1000 25000, signedField 2 0 5000,
      signedField 2 100 3000, unsignedField 2 1000 15000, unsignedField 2 200 1000, unsignedField 2 200 2000,
      unsignedField 2 10 300, unsignedField 2 200 2000] ++
    [unsignedField 1 5 60, unsignedField 1 0 30, unsignedField 1 3 30, unsignedField 2 500 3000, unsignedField 2 500 3000,
      unsignedField 2 0 5000, unsignedField 2 200 2000, unsignedField 1 5 50, signedField 2 100 2000, signedField 2 50 1000,
      unsignedField 4 0 16777215, unsignedField 2 100 4000, unsignedField 4 0 16777215, unsignedField 2 100 4000]
  | .stop =>
    [presentField, signedField 4 0 4000000, signedField 2 50 500, stopPlatformField, unsignedField 1 0 2,
      stopPlatformField, unsignedField 1 0 2]
  | .zone => [presentField, signedField 4 0 4000000, unsignedField 2 500 15000, unsignedField 1 50 100]
  | .platform => [presentField, unsignedField 1 0 255]
  | .gate => [presentField, unsignedField 1 0 7, unsignedField 1 0 1]
  | .datum => [presentField, signedField 4 0 4000000]

/-- The unsigned value of bytes, high byte first (R173). -/
def natOfBytes (l : List Byte) : Nat := l.foldl (fun n b => 256 * n + b.toNat) 0

/-- The value of a field's bytes. -/
def Field.value (f : Field) (l : List Byte) : Int :=
  let n := natOfBytes l
  if f.signed && 2 * n ≥ 256 ^ f.width then (n : Int) - (256 ^ f.width : Nat) else n

/-- The values of a record's fields in order. -/
def fieldValues : List Field → List Byte → List Int
  | [], _ => []
  | f :: rest, l => f.value (l.take f.width) :: fieldValues rest (l.drop f.width)

/-- The position of the first field out of range, counted from 1 (R12, R180). -/
def firstBad : Nat → List Field → List Int → Option Nat
  | n, f :: fs, x :: xs => if f.accepts x then firstBad (n + 1) fs xs else some n
  | _, _, _ => none

/-- The field out of range of a record's bytes. -/
def badField (id : TableId) (bytes : List Byte) : Option Nat := firstBad 1 id.fields (fieldValues id.fields bytes)

/-- A field's value by its place in the record, counted from 0. -/
def fieldAt (l : List Int) (n : Nat) : Int := (l.drop n).headD 0

def natAt (l : List Int) (n : Nat) : Nat := (fieldAt l n).toNat

def platformAt (l : List Int) (n : Nat) : Option (Fin 8) :=
  if h : natAt l n < 8 then some ⟨natAt l n, h⟩ else none

def sideAt (l : List Int) (n : Nat) : Side :=
  match natAt l n with
  | 0 => .left
  | 1 => .right
  | _ => .both

def lineOf (l : List Int) : LineConsts where
  length := fieldAt l 0
  aBase := natAt l 1
  aMin := natAt l 2
  cLoad := natAt l 3
  personMass := natAt l 4
  carCapacity := natAt l 5
  ratedLoad := natAt l 6
  mStop := fieldAt l 7
  overrun := fieldAt l 8
  vLineMax := natAt l 9
  creep := natAt l 10
  standstillTime := natAt l 11
  dwellMin := natAt l 12
  ackTime := natAt l 13
  closeTimeout := natAt l 14
  exitQuiet := natAt l 15
  reservationTimeout := natAt l 16
  tSb := natAt l 17
  tEb := natAt l 18
  stopEbDelay := natAt l 19
  silenceLimit := natAt l 20
  estopQualify := natAt l 21
  positionTolerance := fieldAt l 22
  datumTolerance := fieldAt l 23
  zero1 := natAt l 24
  scale1 := natAt l 25
  zero2 := natAt l 26
  scale2 := natAt l 27

def stopOf (l : List Int) : StopEntry where
  present := natAt l 0 != 0
  position := fieldAt l 1
  halfWidth := fieldAt l 2
  platformA := platformAt l 3
  sideA := sideAt l 4
  platformB := platformAt l 5
  sideB := sideAt l 6

def zoneOf (l : List Int) : ZoneEntry where
  present := natAt l 0 != 0
  start := fieldAt l 1
  limit := natAt l 2
  percent := natAt l 3

def platformOf (l : List Int) : PlatformEntry where
  present := natAt l 0 != 0
  policy := byte (natAt l 1)

def gateOf (l : List Int) : GateEntry where
  present := natAt l 0 != 0
  platform := (platformAt l 1).getD 0
  dir := if natAt l 2 = 0 then .entry else .exit

def datumOf (l : List Int) : DatumEntry where
  present := natAt l 0 != 0
  position := fieldAt l 1

/-- The working tables with the entry at an index replaced by a record (R11). -/
def putRecord (t : Tables) (id : TableId) (index : Nat) (bytes : List Byte) : Tables :=
  let l := fieldValues id.fields bytes
  match id with
  | .line => { t with line := lineOf l }
  | .stop => if h : index < 6 then { t with stops := t.stops.set index (stopOf l) h } else t
  | .zone => if h : index < 16 then { t with zones := t.zones.set index (zoneOf l) h } else t
  | .platform => if h : index < 8 then { t with platforms := t.platforms.set index (platformOf l) h } else t
  | .gate => if h : index < 16 then { t with gates := t.gates.set index (gateOf l) h } else t
  | .datum => if h : index < 4 then { t with datums := t.datums.set index (datumOf l) h } else t

/-! ### Global validation (R13, R14) -/

/-- The first index of a list that fails a test. -/
def firstFail {α : Type} (ok : Nat → α → Bool) : Nat → List α → Option Nat
  | _, [] => none
  | n, x :: rest => if ok n x then firstFail ok (n + 1) rest else some n

/-- The first index at which a table's present entries stop forming a run that holds at least `least` entries. -/
def runFail (least : Nat) (present : List Bool) : Option Nat :=
  firstFail (fun n p => if n < least then p.1 else p.2 || !p.1) 0 (present.zip (true :: present))

/-- The present entries of a table that has passed its run check. -/
def presentStops (t : Tables) : List StopEntry := t.stops.toList.filter (·.present)
def presentZoneEntries (t : Tables) : List ZoneEntry := t.zones.toList.filter (·.present)

/-- The first index, from 1, whose pair with its predecessor fails a test. -/
def pairFail {α : Type} (ok : α → α → Bool) : Nat → List α → Option Nat
  | n, x :: y :: rest => if ok x y then pairFail ok (n + 1) (y :: rest) else some n
  | _, _ => none

/-- A test of the last entry of a list, with its index. -/
def lastFail {α : Type} (ok : α → Bool) (l : List α) : Option Nat :=
  match l.getLast? with
  | some x => if ok x then none else some (l.length - 1)
  | none => none

def platformPresent (t : Tables) (p : Fin 8) : Bool := (t.platforms.get p).present

/-- A platform field names a present platform or NONE. -/
def namesPresent (t : Tables) : Option (Fin 8) → Bool
  | some p => platformPresent t p
  | none => true

/-- The first stop whose platform of a car was named by an earlier stop for the same car (check 8; log 34). -/
def repeatFail : Nat → List StopEntry → List StopEntry → Option Nat
  | _, _, [] => none
  | n, before, e :: rest =>
    if before.any fun b =>
        (e.platformA.isSome && b.platformA == e.platformA) || (e.platformB.isSome && b.platformB == e.platformB) then
      some n
    else repeatFail (n + 1) (before ++ [e]) rest

/-- The first present gate that is the fifth of its platform in gate order (check 15; log 34). -/
def crowdFail : Nat → List GateEntry → List GateEntry → Option Nat
  | _, _, [] => none
  | n, before, g :: rest =>
    if g.present && 4 ≤ (before.filter fun b => b.present && b.platform == g.platform).length then some n
    else crowdFail (n + 1) (before ++ [g]) rest

/-- The sixteen checks of R14 in order, each with its table and the index it reports. -/
def checks (t : Tables) : List (TableId × Option Nat) :=
  [(.line, if t.line.aMin ≤ t.line.aBase then none else some 0),
    (.stop, runFail 2 (t.stops.toList.map (·.present))),
    (.stop, if (t.stops.get 0).position = 0 then none else some 0),
    (.stop, pairFail (fun a b => a.position < b.position) 1 (presentStops t)),
    (.stop, lastFail (fun e => e.position == t.line.length) (presentStops t)),
    (.stop, pairFail (fun a b => a.position + a.halfWidth < b.position - b.halfWidth) 1 (presentStops t)),
    (.stop, firstFail (fun _ e => namesPresent t e.platformA && namesPresent t e.platformB) 0 (presentStops t)),
    (.stop, repeatFail 0 [] (presentStops t)),
    (.zone, runFail 1 (t.zones.toList.map (·.present))),
    (.zone, if (t.zones.get 0).start = 0 then none else some 0),
    (.zone, pairFail (fun a b => a.start < b.start) 1 (presentZoneEntries t)),
    (.zone, lastFail (fun e => e.start < t.line.length) (presentZoneEntries t)),
    (.platform, firstFail (fun _ e => !e.present || e.policy &&& 0x3F == 0) 0 t.platforms.toList),
    (.gate, firstFail (fun _ g => !g.present || platformPresent t g.platform) 0 t.gates.toList),
    (.gate, crowdFail 0 [] t.gates.toList),
    (.datum, firstFail (fun _ d => !d.present || (0 ≤ d.position && d.position ≤ t.line.length)) 0 t.datums.toList)]

/-- The first check that fails, with its table and index (R13). -/
def firstFailing : List (TableId × Option Nat) → Option (TableId × Nat)
  | [] => none
  | (id, some n) :: _ => some (id, n)
  | (_, none) :: rest => firstFailing rest

/-- Global validation of an image (R13, R14): none is PASS. -/
def validate (t : Tables) : Option (TableId × Nat) := firstFailing (checks t)

def validationResult : Option (TableId × Nat) → ValResult
  | none => .pass
  | some (id, n) => .failed id n

/-- A global validation of the working tables, with the indications it sets (R10, R13). -/
def validateWorking (s : State) : State :=
  let r := validate s.cfs.tables
  s.withCfs { s.cfs with lastValidation := validationResult r, workingValid := r.isNone }

/-! ### The image load (R9) -/

/-- The stored image's check word is that of its contents (R8). -/
def Cfs.wordMatches (c : Cfs) : Bool :=
  match c.checkWord with
  | some w => w == imageCrc c.stored
  | none => false

/-- A load that fails with a result (R9). -/
def Cfs.loadFailed (c : Cfs) (r : ValResult) : Cfs :=
  { c with
    tables := Tables.empty, storedValid := false, uncommitted := false, workingValid := false, commit := .idle
    lastValidation := r, lastCommit := .none }

/-- The image load: the Configuration Store after it (R9). -/
def Cfs.load (c : Cfs) : Cfs :=
  if c.wordMatches then
    match validate c.stored with
    | none =>
      { c with
        tables := c.stored, storedValid := true, uncommitted := false, workingValid := true, commit := .idle
        lastValidation := .pass, lastCommit := .none }
    | some (id, n) => c.loadFailed (.failed id n)
  else c.loadFailed .checkWord

/-! ### The commit (R16 to R18) -/

/-- An accepted commit begins its write: the check word is erased and the contents are those of the working tables (R17; log 11). -/
def beginCommit (s : State) : State :=
  s.withCfs { s.cfs with commit := .writing, checkWord := none, storedValid := false, stored := s.cfs.tables }

/-- COMMIT_COMPLETION, with what the storage reads back (R18; log 11). -/
def completeCommit (readBack : Option Tables) (s : State) : State :=
  if s.cfs.commit = .writing then
    let back := readBack.getD s.cfs.stored
    if imageCrc back = imageCrc s.cfs.stored then
      s.withCfs
        { s.cfs with
          stored := back, checkWord := some (imageCrc s.cfs.stored), storedValid := true, uncommitted := false
          lastCommit := .ok, commit := .idle }
    else
      (s.withCfs
        { s.cfs with
          stored := back, checkWord := none, storedValid := false, uncommitted := true, lastCommit := .failed
          commit := .idle }).setAttention .configCommitFailed
  else s

/-! ### An accepted CONFIG WRITE (R11, R12) -/

/-- What an accepted write does beyond the tables: calibration and load flags for LINE, the zone pointer for ZONE (R12, R156;
log 30). DESIGN CHOICE (log 47): at a write to LINE the calibration (R51) comes before the load flags (R156). -/
def writeEffects (id : TableId) (old : LineConsts) (s : State) : State :=
  match id with
  | .line =>
    let s1 := calibrationChange (old.zero1 != s.line.zero1 || old.scale1 != s.line.scale1)
      (old.zero2 != s.line.zero2 || old.scale2 != s.line.scale2) s
    allCars.foldl evaluateLoad s1
  | .zone => s.withSsv { s.ssv with zone := none }
  | _ => s

/-- The write is accepted (R10, R11). -/
def acceptWrite (id : TableId) (index : Nat) (bytes : List Byte) (s : State) : State :=
  writeEffects id s.line
    (s.withCfs { s.cfs with tables := putRecord s.cfs.tables id index bytes, uncommitted := true, workingValid := false })

/-! ### The configuration status (R16, R180) -/

def CommitState.code : CommitState → Byte
  | .idle => 0
  | .writing => 1

def CommitResult.code : CommitResult → Byte
  | .none => 0
  | .ok => 1
  | .failed => 2

/-- The last validation result: its kind, then table and index. -/
def ValResult.bytes : ValResult → List Byte
  | .pass => [0, 0xFF, 0xFF]
  | .failed id n => [1, id.code, byte n]
  | .checkWord => [2, 0xFF, 0xFF]

/-- The configuration status (R16, R180). -/
def Cfs.status (c : Cfs) : List Byte :=
  [c.commit.code] ++ encFlag c.uncommitted ++ encFlag c.workingValid ++ encFlag c.storedValid ++ c.lastValidation.bytes ++
    [c.lastCommit.code]

end Sys2Proof.Machine
end

