-- ==== Sys2Proof/Machine/Queries.lean ====
section
/-! DEFINITION. The query records (R53, R79, R97, R121, R139, R159, R172, R20), encoded as the last paragraph of R181 says, the
read buffer of PC5, and its segments (log 26 for the codes that R173 leaves open). -/

namespace Sys2Proof.Machine

/-! ### Codes of the value lists that only query records carry -/

def ModeCause.code : ModeCause → Byte
  | .reset => 0
  | .console => 1
  | .abortLimit => 2
  | .brakeReset => 3
  | .resync => 4

def RunState.code : RunState → Byte
  | .atStop => 0
  | .offStop => 1
  | .closing => 2
  | .departing => 3
  | .running => 4
  | .stopping => 5
  | .arrested => 6

def ChannelStatus.code : ChannelStatus → Byte
  | .empty => 0
  | .filling => 1
  | .good => 2
  | .failed => 3

def SupMode.code : SupMode → Byte
  | .curve => 0
  | .fixed => 1
  | .idle => 2

def DriveState.code : DriveState → Byte
  | .idle => 0
  | .proving => 1
  | .torqueProved => 2
  | .running => 3
  | .fault => 4

def SbCondition.code : SbCondition → Byte
  | .applied => 0
  | .lifted => 1

def EscStage.code : EscStage → Byte
  | .none => 0
  | .sbCheck => 1
  | .ebCheck => 2

def AbortCause.code : AbortCause → Byte
  | .stepTimeout => 0
  | .latch => 1
  | .estop => 2
  | .door => 3
  | .releaseHeld => 4

def DepStep.code : DepStep → Byte
  | .d1 => 0
  | .d2 => 1
  | .d3 => 2
  | .d4 => 3

def StopStep.code : StopStep → Byte
  | .s1 => 0
  | .s2 => 1

def StopFault.code : StopFault → Byte
  | .sbUnconfirmed => 0
  | .ebUnconfirmed => 1

/-- DESIGN CHOICE (log 26): R112 and R121 give the step timers no value list. The eight are numbered in the order of the steps, the
SB confirm timer of D4 apart from that of S1. -/
def StepTimer.code : StepTimer → Byte
  | .railConfirm => 0
  | .ebLift => 1
  | .ebSettle => 2
  | .torqueProve => 3
  | .sbLift => 4
  | .sbConfirm => 5
  | .stopEbDelay => 6
  | .ebDrop => 7

def DoorCond.code : DoorCond → Byte
  | .unknown => 0
  | .closedLocked => 1
  | .closedUnlocked => 2
  | .opened => 3

def ReleaseState.code : ReleaseState → Byte
  | .none => 0
  | .ordered => 1
  | .held => 2
  | .withdrawing => 3

def WithdrawalCause.code : WithdrawalCause → Byte
  | .none => 0
  | .closing => 1
  | .standby => 2
  | .ackLate => 3
  | .standstillLost => 4
  | .prove => 5
  | .carDropped => 6
  | .stale => 7
  | .evacuateEnd => 8

def RefusedRelease.code : RefusedRelease → Byte
  | .none => 0
  | .noPlatform => 1
  | .standstill => 2
  | .sequence => 3
  | .authority => 4
  | .releaseState => 5

/-- DESIGN CHOICE (log 26): the value list of R123, which has UNKNOWN, and not that of a CAR REPORT's field in R175. -/
def RailCond.code : RailCond → Byte
  | .unknown => 0
  | .applied => 1
  | .lifted => 2
  | .fault => 3

def GateState.code : GateState → Byte
  | .idle => 0
  | .waiting => 1
  | .reserved => 2

def CloseReason.code : CloseReason → Byte
  | .none => 0
  | .closing => 1
  | .latch => 2
  | .releaseLost => 3
  | .mode => 4

/-- A direction whose value list is UP, DOWN or NONE. -/
def encMotion : Option Dir → List Byte
  | some d => [d.code]
  | none => [2]

/-- A direction that is UP, DOWN, or absent. -/
def encDir? : Option Dir → List Byte
  | some d => [d.code]
  | none => absent8

/-- A cause name, or NONE. -/
def encCause? : Option Cause → List Byte
  | some c => [byte (c.position - 1)]
  | none => absent8

/-- A readiness condition, or NONE. -/
def encReady? : Option ReadyCond → List Byte
  | some c => [byte (c.order - 1)]
  | none => absent8

def encCauseEntry (e : CauseEntry) : List Byte := encCause? (some e.cause) ++ [e.level.causeCode]

def encTrip (t : Trip) : List Byte := [byte t.target.val, t.origin.code] ++ encCount t.merged

def encTrip? : Option Trip → List Byte
  | some t => encTrip t
  | none => absent8 ++ absent8 ++ absent8

/-- The latest drive report. DESIGN CHOICE (log 26): UNKNOWN (R56) is the absent code in both fields. -/
def encDrive? : Option DriveReport → List Byte
  | some r => [r.state.code, r.sb.code]
  | none => absent8 ++ absent8

/-- The link field: ALIVE or LOST. -/
def encLink (alive : Bool) : List Byte := [if alive then 0 else 1]

/-! ### LINE and TRIP QUEUE (R79) -/

def encModeChange (m : ModeChange) : List Byte :=
  [m.previous.code, m.new.code, m.cause.code] ++ encList encTrip m.cancelled

def encAuthority (a : Authority) : List Byte :=
  [a.state.code] ++ encIndex? a.targetStop ++ encPos? a.targetPosition ++ encDir? a.dir ++ encWord a.ceiling ++
    encPos? a.withdrawalPoint

def lineRecord (s : State) : List Byte :=
  [s.rco.mode.code] ++ encModeChange s.rco.modeChange ++ [s.rco.runState.code] ++ encIndex? s.rco.currentStop ++
    encTrip? s.rco.tripInHand ++ encFlag s.rco.jogRun ++ encFlag s.rco.brakesSet ++ encFlag s.rco.dwellElapsed ++
    encTimerSec s.rco.dwellTimer ++ encReady? s.rco.firstFailing ++ encAuthority s.rco.authority ++
    encCount s.rco.abortCount ++ encDrive? s.rco.driveReport

def tripQueueRecord (s : State) : List Byte :=
  encList encTrip s.rco.queue ++ encCount s.rco.queue.length ++ encCount s.rco.droppedCount ++ encTrip? s.rco.lastDropped

/-! ### MEASURE (R53) -/

/-- A datum outcome: its kind and four bytes (R181). -/
def encOutcome : DatumOutcome → List Byte
  | .none => [0] ++ encPos 0
  | .corrected x => [1] ++ encPos x
  | .mismatch x => [2] ++ encPos x
  | .skipped => [3] ++ encPos 0

def encChannel (c : Channel) : List Byte :=
  [c.status.code] ++ encPos? c.position ++ encWord c.speed ++ encMotion c.dir ++ encPos c.offset ++
    encCount c.ring.length ++ encCount c.badRun ++ encWord c.badTotal ++ encFlag c.resynced ++ encOutcome c.lastDatum

def encDatumRecord (d : DatumRecord) : List Byte := encCount d.edges ++ encOutcome d.outcome1 ++ encOutcome d.outcome2

def measureRecord (s : State) : List Byte :=
  encChannel s.msu.ch1 ++ encChannel s.msu.ch2 ++ encFlag s.msu.qualified ++ encFlag s.msu.standstill ++
    encWord s.msu.vMeas ++ encPos? s.msu.pSup ++ encMotion s.msu.motion ++ encFlag s.msu.positionDisagree ++
    encCount s.msu.speedDisagree ++ encFlag s.msu.outOfRange ++ s.msu.datums.toList.flatMap encDatumRecord

/-! ### SUPERVISION (R97) -/

def encSnapshot : Option Snapshot → List Byte
  | some x =>
    [x.descending.code] ++ encCount x.tallyA ++ encCount x.tallyB ++ encWord? x.weighA ++ encWord? x.weighB ++
      encWord x.massDescending ++ encWord x.massAscending ++ encWord x.deltaM ++ encWord x.loadUnits
  | none =>
    absent8 ++ absent8 ++ absent8 ++ encWord? none ++ encWord? none ++ encWord? none ++ encWord? none ++ encWord? none ++
      encWord? none

/-- A limiting term with the zone index of ZONE_START. -/
def encTerm : LimitTerm → List Byte
  | .target => [0] ++ absent8
  | .zoneStart z => [1, byte z.val]
  | .zoneLimit => [2] ++ absent8
  | .line => [3] ++ absent8
  | .ceiling => [4] ++ absent8
  | .none => [5] ++ absent8

/-- The four thresholds (R90). -/
def encThresholds (vPerm mSb mEb : Nat) : List Byte :=
  encWord vPerm ++ encWord (vPerm + mSb) ++ encWord (vPerm + mEb) ++ encWord (vPerm + 2 * mEb)

def encExcursion : Option Excursion → List Byte
  | some x =>
    [x.mode.code] ++ encWord x.vMeas ++ encPos? x.pSup ++ encMotion x.motion ++ [x.authState.code] ++
      encPos? x.targetPosition ++ encWord x.vPerm ++ encTerm x.term ++ encWord? x.aG ++
      encThresholds x.vPerm x.mSb x.mEb ++ [x.asked.code, x.greatestLevel.code] ++ encWord x.greatestV
  | none =>
    absent8 ++ encWord? none ++ encPos? none ++ absent8 ++ absent8 ++ encPos? none ++ encWord? none ++ absent8 ++ absent8 ++
      encWord? none ++ encWord? none ++ encWord? none ++ encWord? none ++ encWord? none ++ absent8 ++ absent8 ++
      encWord? none

def supervisionQuery (s : State) : List Byte :=
  [s.ssv.mode.code] ++ encIndex? s.ssv.zone ++ encSnapshot s.ssv.snapshot ++ encCount? s.ssv.percent ++
    encWord? s.ssv.aZone ++ encWord? s.ssv.aG ++ encWord? s.ssv.target ++
    encList (fun c => [byte c.1.val] ++ encWord c.2) s.ssv.zoneCandidates ++ encWord s.ssv.vPerm ++ encTerm s.ssv.term ++
    encWord s.ssv.mSb ++ encWord s.ssv.mEb ++ encThresholds s.ssv.vPerm s.ssv.mSb s.ssv.mEb ++ [s.ssv.asked.code] ++
    encFlag s.ssv.overrunFlag ++ encExcursion s.ssv.excursion

/-! ### BRAKE and DEPARTURE (R121) -/

def encDemand (d : Demand) : List Byte :=
  encList encCauseEntry d.causes ++ [d.latched.latchCode] ++ encCause? d.first ++ encFlag d.caution ++ [d.current.code]

def encEscOutcome : EscOutcome → List Byte
  | .none => [0] ++ absent8
  | .passed x => [1, x.code]
  | .failed x => [2, x.code]

/-- The BRAKE record. DESIGN CHOICE (log 26): the rail order and condition of car A come before those of car B. -/
def brakeRecord (s : State) : List Byte :=
  encDemand s.bks.demand ++ encFlag s.bks.sbDmd ++ encFlag s.bks.sbConfirmed ++ encFlag s.bks.ebHold ++
    encFlag s.bks.ebProved ++ encFlag s.bks.eblRisen ++
    [s.dou.a.railOrder.code, s.dou.a.rail.code, s.dou.b.railOrder.code, s.dou.b.rail.code] ++
    [s.bks.esc.stage.code] ++ encWord s.bks.esc.vEntry ++ encWord s.bks.esc.checkSpeed ++ encTimerMs s.bks.esc.timer ++
    encEscOutcome s.bks.esc.last ++ encFlag s.bks.estop.active ++ encTimerMs s.bks.estop.timer ++
    encFlag s.bks.estop.qualified

def encSlot : Slot → List Byte
  | .idle => [0] ++ absent8
  | .departure x => [1, x.code]
  | .stop x => [2, x.code]

/-- The timer of the step: which, and the timer as R181 gives one. -/
def encStepTimer : Option RunningStep → List Byte
  | some t => [t.which.code] ++ encTimerMs (some t.remaining)
  | none => absent8 ++ encTimerMs none

def encDepOutcome : DepOutcome → List Byte
  | .none => [0] ++ absent8 ++ absent8
  | .completed => [1] ++ absent8 ++ absent8
  | .aborted c x => [2, c.code, x.code]

/-- A last stop outcome: its kind, and the list of faults. DESIGN CHOICE (log 26): NONE and COMPLETED carry an empty list, a count of 0. -/
def encStopOutcome : StopOutcome → List Byte
  | .none => [0, 0]
  | .completed => [1, 0]
  | .completedWithFault l => [2] ++ encList (fun f => [f.code]) l

def departureRecord (s : State) : List Byte :=
  encSlot s.bks.slot ++ encStepTimer s.bks.stepTimer ++ encDepOutcome s.bks.lastDeparture ++
    encStopOutcome s.bks.lastStop ++ encDrive? s.rco.driveReport

/-! ### CAR A and CAR B (R139) -/

def encKind : Option ReleaseKind → List Byte
  | some (.platform k p) => [0, byte k.val, byte p.val]
  | some .evacuation => [1] ++ absent8 ++ absent8
  | none => absent8 ++ absent8 ++ absent8

def encDoor (d : DoorRecord) : List Byte :=
  [d.door.code, byte d.heldToken.val, d.release.code] ++ encKind d.kind ++ [byte d.counter.val, byte d.token.val, d.side.code] ++
    encTimerMs d.ackTimer ++ encTimerSec d.closeTimer ++ encFlag d.overdue ++ [d.lastWithdrawal.code, d.lastRefused.code] ++
    [d.railOrder.code, d.rail.code] ++ encFlag d.carFault ++ encCount d.stale

def carRecord (c : Car) (s : State) : List Byte :=
  encDoor (s.door c) ++ encCount (s.load c).tally ++ encWord? (s.load c).weigh ++ encFlag (s.load c).overload ++
    encLink (s.linkAlive c.port) ++ encFlag (s.load c).tallyOver

/-! ### PLATFORM and GATE (R159) -/

/-- A served car: A, B or NONE. -/
def encServed : Option Car → List Byte
  | some c => [c.code]
  | none => [2]

def encSession (x : Session) : List Byte :=
  encFlag x.isOpen ++ encServed x.served ++ encIndex? x.stop ++ encCount x.reservations ++ encTimerSec x.quietTimer ++
    encList (fun g => [byte g.val]) x.waiting ++ encFlag x.shared ++ encCount x.unreserved ++ [x.lastClose.code]

def platformRecord (p : Fin 8) (s : State) : List Byte :=
  encSession (s.session p) ++ encFlag (s.policyAllows p) ++ encCount (s.policyIndex p) ++
    encCount? ((s.session p).served.map fun c => (s.load c).tally) ++ encWord s.adu.unattributed

/-- The place of a gate in a list, counted from 1 (log 26). -/
def placeIn (g : Fin 16) (n : Nat) : List (Fin 16) → Option Nat
  | [] => none
  | h :: rest => if h = g then some n else placeIn g (n + 1) rest

/-- The GATE record. DESIGN CHOICE (log 26): the position of a gate that stands in no waiting list is 0xFF. -/
def gateRecord (g : Fin 16) (s : State) : List Byte :=
  encGate (s.gateEntry g) ++ [(s.gate g).state.code] ++ encFlag (s.gate g).masked ++ encFlag (s.gate g).fault ++
    encCount (s.gate g).admissions ++ encCount (s.gate g).duplicates ++ encTimerSec (s.gate g).timer ++
    encCount? (placeIn g 1 (s.session (s.gateEntry g).platform).waiting) ++ encLink (s.linkAlive (gateSta g).port)

/-! ### PORT (R172) -/

/-- The port with a number, in the order of the controllers. -/
def portOfCode (n : Nat) : Option PortId :=
  match n with
  | 0 => some .drv
  | 1 => some .cra
  | 2 => some .crb
  | 3 => some .sta1
  | 4 => some .sta2
  | 5 => some .con
  | _ => none

/-- The kind of a port's DRIVE ORDER or CAR ORDER. -/
def orderKind : PortId → Byte
  | .drv => 0x91
  | _ => 0xA1

/-- A pending flag that is set: its key, with the kept answer of a GATE NOTICE. -/
def encPending (i : PortId) (p : Port) : List Byte :=
  encCount (p.pendingOrder.toNat + p.pendingGates.length) ++
    (if p.pendingOrder then [orderKind i, 0] ++ absent8 ++ absent8 else []) ++
    p.pendingGates.flatMap fun n => [0xB4, byte n.gate.val, n.answer.code, n.reason.code]

def portRecord (i : PortId) (s : State) : List Byte :=
  let p := s.port i
  encLink p.alive ++ encTimerMs p.silence ++ encFlag p.aliveSince ++ encCount p.losses ++ encFlag p.degraded ++
    encCount p.badCrc ++ encCount p.oversize ++ encCount p.unknownKind ++ encCount p.overrun ++ encCount p.rx.length ++
    encCount p.tx.length ++ encCount (p.tx.filter (·.isNotice)).length ++ encPending i p

/-! ### RESET CAUSE (R20) -/

def resetCauseRecord (s : State) : List Byte :=
  let r := s.cfs.resetCause
  encFlag r.present ++ encCause? r.firstCause ++ encList encCauseEntry r.causes ++ [r.latched.latchCode, r.mode.code] ++
    encFlag r.commitInterrupted ++ encCount r.count

/-! ### The record of a QUERY (R181) -/

/-- The number of record codes of the table of R181. -/
def recordCodes : Nat := 12

/-- The record that a code and an n name, encoded as it stands; none where n is out of its range (R181). -/
def queryRecord (record n : Nat) (s : State) : Option (List Byte) :=
  match record, n with
  | 0, 0 => some (lineRecord s)
  | 1, 0 => some (measureRecord s)
  | 2, 0 => some (supervisionQuery s)
  | 3, 0 => some (brakeRecord s)
  | 4, 0 => some (departureRecord s)
  | 5, 0 => some (carRecord .a s)
  | 6, 0 => some (carRecord .b s)
  | 7, n => if h : n < 8 then some (platformRecord ⟨n, h⟩ s) else none
  | 8, n => if h : n < 16 then some (gateRecord ⟨n, h⟩ s) else none
  | 9, n => (portOfCode n).map fun i => portRecord i s
  | 10, 0 => some (tripQueueRecord s)
  | 11, 0 => some (resetCauseRecord s)
  | _, _ => none

/-! ### The read buffer (R181) -/

/-- The data bytes of a segment (R181). -/
def segmentSize : Nat := 19

/-- The segment count: ceil(bytes / 19) (R181). -/
def segmentCount (bytes : List Byte) : Nat := ceilDiv bytes.length segmentSize

/-- The detail of an accepted QUERY or CONFIG READ: segment number, segment count, and up to 19 data bytes (R180). -/
def segmentDetail (bytes : List Byte) (segment : Nat) : List Byte :=
  encCount segment ++ encCount (segmentCount bytes) ++ (bytes.drop (segmentSize * segment)).take segmentSize

/-- The snapshot was taken by the same command kind for the same record and n (R181). -/
def ReadBuffer.holds (b : ReadBuffer) (kind : ReadKind) (record n : Nat) : Bool :=
  b.kind == kind && b.record == record && b.n == n

end Sys2Proof.Machine
end

