-- ==== Sys2Proof/Machine/Requests.lean ====
section
/-! DEFINITION. The decision of every request by its owner: the reports, the station requests and the console commands, each with
the state it leaves and the reply it is given (R63 to R65, R76 to R78, R111, R125, R134, R135, R143, R155, R170, R171, R177 to
R181). -/

namespace Sys2Proof.Machine

/-- A reply as its owner gives it. It is formed as a telegram once the event is complete (R124, R164; log 15). -/
inductive Reply where
  | driveOrder
  | carOrder (car : Car)
  | telegram (e : TxEntry)
  | result (code : ResultCode) (kind : Byte) (detail : List Byte)
  deriving DecidableEq, Repr

/-- The telegram of a reply (R57, R124, R170, R180). -/
def Reply.form (s : State) : Reply → TxEntry
  | .driveOrder => driveOrderTelegram s false
  | .carOrder c => carOrderTelegram s c false
  | .telegram e => e
  | .result code kind detail => resultTelegram code s.attentionSummary kind detail

/-! ### CAR REPORT (R125; log 20) -/

/-- Step 1: the reported fields are replaced; an unreadable token leaves the held token (R125, R176). -/
def takeFields (c : Car) (door : DoorCond) (token : Option (Fin 16)) (rail : RailCond) (fault : Bool) (s : State) : State :=
  s.withDoor c
    { s.door c with door := door, heldToken := token.getD (s.door c).heldToken, rail := rail, carFault := fault }

/-- Step 3: doors while the authority is GRANTED (R125, R132). -/
def doorsWhileGranted (c : Car) (s : State) : State :=
  if s.rco.authority.state = .granted ∧ ((s.door c).door ≠ .closedLocked ∨ (s.door c).release ≠ .none) then
    raise .door .service (withdrawAuthority s)
  else s

/-- Step 4: doors during a departure (R117, R125). -/
def doorsInDeparture (c : Car) (s : State) : State :=
  if (s.door c).door = .closedLocked then s else abortDeparture .door s

/-- Step 5: an unreleased opening, by the fields as step 4 leaves them (R125) and the situation as the report was taken (R132). -/
def dealOpening (opening live departing : Bool) (s : State) : State :=
  if opening then
    let s1 := s.setAttention .doorUnreleased
    if live && !departing then raise .door .service s1 else s1
  else s

/-- Steps 1 to 7 of the DOU at a CAR REPORT (R125). -/
def takeCarReport (c : Car) (door : DoorCond) (token : Option (Fin 16)) (rail : RailCond) (fault : Bool) (s : State) : State :=
  let live := s.live
  let departing := s.bks.slot.isDeparture
  let s2 := judgeToken c token (takeFields c door token rail fault s)
  let s4 := doorsInDeparture c (doorsWhileGranted c s2)
  let s5 := dealOpening (s4.door c).unreleased live departing s4
  let s6 := if fault && live then raise .car .service s5 else s5
  let s7 := if rail = .fault ∧ (s.door c).rail ≠ .fault then s6.setAttention .railFault else s6
  testD1 s7

/-- A CAR REPORT: the DOU and then the ADU take it (R124, R125, R156, R176). -/
def decideCarReport (c : Car) (door token rail weighPresent : Byte) (weigh : BitVec 16) (fault : Byte) (s : State) :
    State × Reply :=
  let s1 := takeCarReport c (.ofByte door) (tokenOfByte token) (.ofByte rail) (flagOfByte fault) s
  (takeWeigh c (if flagOfByte weighPresent then some weigh.toNat else none) s1, .carOrder c)

/-- A DRIVE REPORT (R56, R57, R176). -/
def decideDriveReport (state sb : Byte) (s : State) : State × Reply :=
  (takeDriveReport { state := .ofByte state, sb := .ofByte sb } s, .driveOrder)

/-- A CALL: the ADU passes it to the RCO and returns the result code (R64, R141). -/
def decideCall (sta : Sta) (p : Fin 8) (s : State) : State × Reply :=
  let r := requestCall p sta.origin s
  (r.1, .telegram (callAnswer p r.2))

/-! ### Console commands: what an owner answers -/

/-- A console decision: the state, the result code and the detail (R170, R180). -/
structure Decision where
  state : State
  code : ResultCode
  detail : List Byte

def accept (s : State) : Decision := { state := s, code := .accepted, detail := [] }

/-- A refusal for the failing test of the given order number, with what else it names (R180; log 25). -/
def refuse (s : State) (code : ResultCode) (order : Nat) (names : List Byte) : Decision :=
  { state := s, code := code, detail := byte order :: names }

/-- A refusal with REFUSED_MODE or BUSY, which carries no test number. -/
def refuseBare (s : State) (code : ResultCode) : Decision := { state := s, code := code, detail := [] }

/-- An argument outside its coding, by its place (R179; log 25). -/
def refuseCoding (s : State) (argument : Nat) : Decision := refuse s .refusedRange 0 [byte argument]

/-! ### MODE (R24, R25) -/

/-- The conditions of R25, in the order of its table. -/
inductive ModeCond where
  | imageValid | qualified | standstill | atRest | committed | validation | atStop
  deriving DecidableEq, Repr

/-- The order number of a condition (R25, R180; log 25). -/
def ModeCond.order : ModeCond → Nat
  | .imageValid => 1
  | .qualified => 2
  | .standstill => 3
  | .atRest => 4
  | .committed => 5
  | .validation => 6
  | .atStop => 7

/-- The run state is AT_STOP or OFF_STOP. -/
def RunState.atRest : RunState → Bool
  | .atStop => true
  | .offStop => true
  | _ => false

/-- A condition holds, VALIDATION as last made. -/
def ModeCond.holds (s : State) : ModeCond → Bool
  | .imageValid => s.cfs.workingValid
  | .qualified => s.msu.qualified
  | .standstill => s.msu.standstill
  | .atRest => s.rco.runState.atRest
  | .committed => !s.cfs.uncommitted
  | .validation => s.cfs.lastValidation == .pass
  | .atStop => s.rco.runState == .atStop

/-- VALIDATION is a global validation run for the request (R25). -/
def ModeCond.prepare (s : State) : ModeCond → State
  | .validation => validateWorking s
  | _ => s

/-- The conditions in turn: the state after the tests made, and the first that fails. -/
def testConds : List ModeCond → State → State × Option ModeCond
  | [], s => (s, none)
  | c :: rest, s =>
    let s1 := c.prepare s
    if c.holds s1 then testConds rest s1 else (s1, some c)

/-- The transition table of R24. -/
def transition : LineMode → LineMode → Option (List ModeCond)
  | .locked, .maintenance => some [.qualified, .standstill]
  | .locked, .standby => some [.imageValid, .qualified, .standstill]
  | .maintenance, .standby => some [.atRest, .committed, .validation]
  | .standby, .maintenance => some []
  | .standby, .service => some [.atStop]
  | .service, .standby => some [.atStop]
  | _, _ => none

/-- The entry into a mode by a MODE request (R26 to R28). -/
def enterMode : LineMode → State → State
  | .maintenance, s => enterMaintenance s
  | .standby, s => enterStandby .console s
  | .service, s => enterService s
  | _, s => s

/-- What a refusal for a condition names beyond its number: the table and index of a failed validation (R180). -/
def condNames (s : State) : ModeCond → List Byte
  | .validation => (s.cfs.lastValidation.bytes).drop 1
  | _ => []

/-- The cancelled list as a MODE reply carries it (R180). -/
def encCancelled (l : List Trip) : List Byte :=
  encCount l.length ++ l.flatMap fun t => byte (16 * t.origin.code.toNat + t.target.val) :: encCount t.merged

/-- Every MODE reply carries the line mode in force after the request has been decided (R180), as the decision leaves it (log 51), before
the rest of its detail. -/
def withMode (d : Decision) : Decision := { d with detail := d.state.rco.mode.code :: d.detail }

/-- MODE for a mode of its coding (R24). -/
def decideModeTo (m : LineMode) (s : State) : Decision :=
  if s.cfs.commit = .writing then refuseBare s .busy
  else
    match transition s.rco.mode m with
    | none => refuseBare s .refusedMode
    | some conds =>
      match testConds conds s with
      | (s1, some c) => refuse s1 .refusedState c.order (condNames s1 c)
      | (s1, none) =>
        let s2 := enterMode m s1
        if s.rco.mode = .service ∧ m = .standby then
          { state := s2, code := .accepted, detail := encCancelled s2.rco.modeChange.cancelled }
        else accept s2

def decideMode (m : Byte) (s : State) : Decision :=
  withMode
    (match LineMode.ofCode m with
      | none => refuseCoding s 1
      | some m => decideModeTo m s)

/-! ### TRIP, CANCEL, HOLD (R63, R65, R76) -/

/-- TRIP: every outcome but a refusal carries the number of requests in the queue (R180; log 25). DESIGN CHOICE (log 51): the number is
that of the queue as the decision leaves it, before the readiness stage at the end of the event. -/
def decideTrip (stop : Byte) (s : State) : Decision :=
  match stopOfCode stop with
  | none => refuseCoding s 1
  | some k =>
    match requestStop k .con s with
    | (s1, .refusedMode) => refuseBare s1 .refusedMode
    | (s1, .refusedRange) => refuse s1 .refusedRange 2 []
    | (s1, code) => { state := s1, code := code, detail := encCount s1.rco.queue.length }

def decideCancel (stop : Byte) (s : State) : Decision :=
  match stopOfCode stop with
  | none => refuseCoding s 1
  | some k =>
    if !s.rco.mode.isPublic then refuseBare s .refusedMode
    else if !(s.stopEntry k).present then refuse s .refusedRange 2 []
    else if (queuedFor k s.rco.queue).isNone then refuse s .refusedState 3 []
    else accept (s.withRco { s.rco with queue := withoutTarget k s.rco.queue })

/-- HOLD (R76). -/
def decideHold (s : State) : Decision :=
  if !s.rco.mode.isPublic then refuseBare s .refusedMode
  else if s.mayRetarget then
    match holdRunning s with
    | (s1, .refusedState) => refuse s1 .refusedState 1 []
    | (s1, code) => { state := s1, code := code, detail := [] }
  else if s.rco.runState = .closing then accept (holdClosing s)
  else refuse s .refusedState 3 []

/-! ### JOG (R77, R78) -/

/-- A present stop beyond the reference in the direction. -/
def State.stopBeyond (s : State) (dir : Dir) (k : Fin 6) : Bool :=
  (s.stopEntry k).present && dir.beyond (s.stopEntry k).position s.reference

/-- Of two stops the one met first in the direction. -/
def State.firstMet (s : State) (dir : Dir) (j k : Fin 6) : Fin 6 :=
  if dir.beyond (s.stopEntry j).position (s.stopEntry k).position then k else j

/-- The next stop in a direction (R77, test 2). -/
def State.nextStop (s : State) (dir : Dir) : Option (Fin 6) :=
  match allStops.filter (s.stopBeyond dir) with
  | [] => none
  | k :: rest => some (rest.foldl (s.firstMet dir) k)

/-- The first JOG of a jog run, at rest (R77, tests 2 and 3). -/
def jogFromRest (dir : Dir) (s : State) : Decision :=
  match s.nextStop dir with
  | none => refuse s .refusedRange 2 []
  | some k =>
    match s.readiness with
    | some c => refuse s .refusedState 3 [byte c.order]
    | none => accept (startDeparture k dir (s.withRco { s.rco with jogRun := true }))

/-- A JOG by the run state (R77, R78; log 33). DESIGN CHOICE (log 25): a JOG that fits two rows of R78, in the opposite direction under a
withdrawn authority, is named by the first of them, 3. -/
def jogByState (dir : Dir) (s : State) : Decision :=
  match s.rco.runState with
  | .atStop => jogFromRest dir s
  | .offStop => jogFromRest dir s
  | .departing => if s.rco.authority.dir = some dir then accept s else refuse s .refusedState 3 []
  | .running =>
    if s.rco.authority.dir ≠ some dir then refuse s .refusedState 3 []
    else if s.rco.authority.state = .granted then
      accept (s.withRco { s.rco with jogTimer := startMs Config.jogHold })
    else refuse s .refusedState 4 []
  | .closing => refuse s .refusedState 1 []
  | .stopping => refuse s .refusedState (if s.rco.jogRun then 5 else 1) []
  | .arrested => refuse s .refusedState (if s.rco.jogRun then 5 else 1) []

def decideJog (dir : Byte) (s : State) : Decision :=
  match Dir.ofCode dir with
  | none => refuseCoding s 1
  | some d =>
    if s.rco.mode ≠ .maintenance then refuseBare s .refusedMode
    else if !s.cfs.workingValid then refuse s .refusedState 0 []
    else jogByState d s

/-! ### STOP and BRAKE RESET (R102, R111) -/

def decideStop (s : State) : Decision := accept (raise .console .emergency s)

def decideBrakeReset (s : State) : Decision :=
  if !s.msu.standstill then refuse s .refusedState 1 []
  else if s.bks.slot ≠ .idle then refuse s .refusedState 2 []
  else
    match s.firstPresent with
    | some c => refuse s .refusedState 3 [byte c.position]
    | none => accept (takeBrakeReset s)

/-! ### EVACUATE, EVACUATE END (R134, R135) -/

def decideEvacuate (car side : Byte) (s : State) : Decision :=
  match Car.ofCode car, Side.ofCode side with
  | none, _ => refuseCoding s 1
  | _, none => refuseCoding s 2
  | some c, some d =>
    if s.rco.mode = .locked then refuseBare s .refusedMode
    else if !s.msu.standstill then refuse s .refusedState 3 []
    else if s.bks.ebHold then refuse s .refusedState 4 []
    else if s.rco.authority.state ≠ .none then refuse s .refusedState 5 []
    else if (s.door c).release ≠ .none then refuse s .refusedState 6 []
    else accept (orderRelease c d .evacuation s)

def decideEvacuateEnd (car : Byte) (s : State) : Decision :=
  match Car.ofCode car with
  | none => refuseCoding s 1
  | some c =>
    if s.rco.mode = .locked then refuseBare s .refusedMode
    else if (s.door c).kind = some .evacuation ∧ (s.door c).given then accept (withdraw c .evacuateEnd s)
    else refuse s .refusedState 2 []

/-! ### GATE MASK, GATE UNMASK, TALLY SET (R143, R155) -/

def decideGateMask (gate : Byte) (s : State) : Decision :=
  match gateOfCode gate with
  | none => refuseCoding s 1
  | some g =>
    if !(s.gateEntry g).present then refuse s .refusedRange 1 []
    else if (s.gate g).masked then accept s
    else accept (takeOut g .masked (s.withGate g { s.gate g with masked := true }))

def decideGateUnmask (gate : Byte) (s : State) : Decision :=
  match gateOfCode gate with
  | none => refuseCoding s 1
  | some g =>
    if !(s.gateEntry g).present then refuse s .refusedRange 1 []
    else accept (s.withGate g { s.gate g with masked := false })

def decideTallySet (car n : Byte) (s : State) : Decision :=
  match Car.ofCode car with
  | none => refuseCoding s 1
  | some c =>
    if s.rco.runState ≠ .atStop then refuse s .refusedState 2 []
    else if (s.door c).release ≠ .none then refuse s .refusedState 3 []
    else accept (afterTally c (setTally c n.toNat s))

/-! ### CONFIG WRITE (R11, R179) -/

def emptyWrite (s : State) : State := s.withPc5 { s.pc5 with write := none }

/-- The bytes that the buffer holds for the record so far, where it takes this segment (R179, step 3). DESIGN CHOICE (log 48): it takes
segment s where it holds segments 0 to s − 1 and no more, so a segment sent again is refused. -/
def segmentsBefore (b : Option WriteBuffer) (id : TableId) (index segment : Nat) : Option (List Byte) :=
  if segment = 0 then some []
  else
    match b with
    | some w => if w.table = id ∧ w.index = index ∧ w.segments = segment then some w.bytes else none
    | none => none

/-- The last segment: the write as a whole, past the tests that step 1 has made, with the buffer empty (R11, R179 step 5). -/
def decideRecord (id : TableId) (index : Nat) (bytes : List Byte) (s : State) : Decision :=
  if id.size ≤ index then refuse s .refusedRange 4 []
  else
    match badField id bytes with
    | some n => refuse s .refusedRange 5 [byte n]
    | none => accept (acceptWrite id index bytes s)

/-- Steps 2 to 5 of R179. -/
def decideSegment (table index segment count : Byte) (bytes : List Byte) (s : State) : Decision :=
  match TableId.ofCode table with
  | none => refuse (emptyWrite s) .refusedRange 2 []
  | some id =>
    if count.toNat ≠ id.segments ∨ id.segments ≤ segment.toNat then refuse (emptyWrite s) .refusedRange 2 []
    else
      match segmentsBefore s.pc5.write id index.toNat segment.toNat with
      | none => refuse (emptyWrite s) .refusedRange 3 []
      | some before =>
        if segment.toNat + 1 < id.segments then
          accept
            (s.withPc5
              { s.pc5 with
                write := some
                  { table := id, index := index.toNat, segments := segment.toNat + 1, bytes := before ++ bytes } })
        else decideRecord id index.toNat (before ++ bytes) (emptyWrite s)

def decideConfigWrite (table index segment count : Byte) (bytes : List Byte) (s : State) : Decision :=
  if s.cfs.commit = .writing then refuseBare s .busy
  else if s.rco.mode ≠ .maintenance then refuseBare s .refusedMode
  else if !s.rco.runState.atRest then refuse s .refusedState 3 []
  else decideSegment table index segment count bytes s

/-! ### CONFIG READ, CONFIG COMMIT, QUERY (R15, R16, R181) -/

/-- A snapshot is taken, and its segment 0 answered (R181). -/
def takeRead (kind : ReadKind) (record n : Nat) (bytes : List Byte) (s : State) : Decision :=
  { state := s.withPc5 { s.pc5 with read := some { kind := kind, record := record, n := n, bytes := bytes } }
    code := .accepted
    detail := segmentDetail bytes 0 }

/-- A segment above 0, from the snapshot (R181; log 25). What a refusal carries after its test number is `extra`: nothing for a QUERY, and
the configuration status for a CONFIG READ, every reply of which carries it (R16). -/
def readOn (kind : ReadKind) (record n segment : Nat) (extra : List Byte) (s : State) : Decision :=
  match s.pc5.read with
  | some b =>
    if b.holds kind record n then
      if segment < segmentCount b.bytes then
        { state := s, code := .accepted, detail := segmentDetail b.bytes segment }
      else refuse s .refusedRange 4 extra
    else refuse s .refusedState 3 extra
  | none => refuse s .refusedState 3 extra

/-- CONFIG READ (R15, R16, R181). DESIGN CHOICE (log 25): in a refusal the test number stands before the configuration status. -/
def decideConfigRead (table index segment : Byte) (s : State) : Decision :=
  if segment.toNat ≠ 0 then readOn .configRead table.toNat index.toNat segment.toNat s.cfs.status s
  else
    match TableId.ofCode table with
    | none => refuse s .refusedRange 1 s.cfs.status
    | some id =>
      if id.size ≤ index.toNat then refuse s .refusedRange 2 s.cfs.status
      else
        takeRead .configRead table.toNat index.toNat (s.cfs.status ++ recordBytes s.cfs.tables id index.toNat) s

/-- CONFIG COMMIT (R16): every reply carries the configuration status. -/
def decideConfigCommit (s : State) : Decision :=
  if s.cfs.commit = .writing then { state := s, code := .busy, detail := s.cfs.status }
  else if s.rco.mode ≠ .maintenance then { state := s, code := .refusedMode, detail := s.cfs.status }
  else
    let s1 := validateWorking s
    match s1.cfs.lastValidation with
    | .pass =>
      let s2 := beginCommit s1
      { state := s2, code := .accepted, detail := s2.cfs.status }
    | r => refuse s1 .refusedState 3 (r.bytes.drop 1 ++ s1.cfs.status)

def decideQuery (record n segment : Byte) (s : State) : Decision :=
  if recordCodes ≤ record.toNat then refuseCoding s 1
  else if segment.toNat ≠ 0 then readOn .query record.toNat n.toNat segment.toNat [] s
  else
    match queryRecord record.toNat n.toNat s with
    | none => refuse s .refusedRange 2 []
    | some bytes => takeRead .query record.toNat n.toNat bytes s

/-! ### CLEAR (R171) -/

def Port.clearDegraded (p : Port) : Port := { p with degraded := false, badCrc := 0 }

/-- What a CLEAR does besides the item: PORT_DEGRADED clears every port's flag and counter (R162, R171). -/
def clearEffect (i : Attention) (s : State) : State :=
  match i with
  | .portDegraded =>
    s.withPorts
      { drv := s.ports.drv.clearDegraded, cra := s.ports.cra.clearDegraded, crb := s.ports.crb.clearDegraded,
        sta1 := s.ports.sta1.clearDegraded, sta2 := s.ports.sta2.clearDegraded, con := s.ports.con.clearDegraded }
  | _ => s

def decideClear (item : Byte) (s : State) : Decision :=
  match Attention.ofCode item with
  | none => refuseCoding s 1
  | some i =>
    let s1 := (clearEffect i s).clearAttention i
    if s1.attentionCondition i then refuse (s1.setAttention i) .refusedState 2 [item] else accept s1

/-! ### Every request -/

/-- A console command, by its owner's rule (R170, R177). -/
def decideCommand (c : Command) (s : State) : Decision :=
  match c with
  | .mode m => decideMode m s
  | .trip k => decideTrip k s
  | .cancel k => decideCancel k s
  | .hold => decideHold s
  | .jog d => decideJog d s
  | .stop => decideStop s
  | .brakeReset => decideBrakeReset s
  | .evacuate c d => decideEvacuate c d s
  | .evacuateEnd c => decideEvacuateEnd c s
  | .gateMask g => decideGateMask g s
  | .gateUnmask g => decideGateUnmask g s
  | .tallySet c n => decideTallySet c n s
  | .configWrite t i sg n b => decideConfigWrite t i sg n b s
  | .configRead t i sg => decideConfigRead t i sg s
  | .configCommit => decideConfigCommit s
  | .query r n sg => decideQuery r n sg s
  | .clear i => decideClear i s
  | .unknown _ _ => refuse s .refusedRange 1 []

/-- The station of a port (a station request reaches no other port). -/
def portStation : PortId → Sta
  | .sta2 => .sta2
  | _ => .sta1

/-- The car of a port (a CAR REPORT reaches no other port). -/
def portCar : PortId → Car
  | .crb => .b
  | _ => .a

def asTelegram (r : State × TxEntry) : State × Reply := (r.1, .telegram r.2)

/-- A request taken on a port is decided by its owner (R160, R164). -/
def decideRequest (i : PortId) (r : Request) (s : State) : State × Reply :=
  match r with
  | .driveReport a b => decideDriveReport a b s
  | .carReport d t rl wp w f => decideCarReport (portCar i) d t rl wp w f s
  | .validate g => asTelegram (decideValidate (portStation i) g s)
  | .passage g => asTelegram (decidePassage (portStation i) g s)
  | .call p => decideCall (portStation i) p s
  | .gateReport g f => asTelegram (decideGateReport (portStation i) g f s)
  | .command c =>
    let d := decideCommand c s
    (d.state, .result d.code c.kind d.detail)

end Sys2Proof.Machine
end

