-- ==== Sys2Proof/Machine/PortEvents.lean ====
section
/-! DEFINITION. The port controllers (chapter 9): taking requests and placing replies, the receiver, link liveness and its effects,
and transmission completion. -/

namespace Sys2Proof.Machine

/-! ### Taking requests (R164) -/

/-- A reply is placed at the tail of the transmit queue. -/
def placeReply (i : PortId) (e : TxEntry) (s : State) : State := s.withPort i { s.port i with tx := (s.port i).tx ++ [e] }

/-- The notices held for the reply are offered in the order they were handed (R164). -/
def releaseNotices (s : State) : State := s.held.foldl offerNotice (s.withHeld [])

/-- The oldest request is handed to its owner, decided and answered in one event (R164). -/
def answerRequest (i : PortId) (r : Request) (rest : List Request) (s : State) : State :=
  let s1 := (s.withPort i { s.port i with rx := rest }).withAnswering (some i)
  let d := decideRequest i r s1
  let s2 := (endEvent d.1).withAnswering none
  releaseNotices (placeReply i (d.2.form s2) s2)

/-- The controller may take a request: its pending flags are clear and a place is free (R164, R166). -/
def Port.mayTake (p : Port) : Bool := !p.somePending && p.freePlace

/-- Requests are taken one after another for as long as the test of R164 holds; a queue of n requests takes n takings. -/
def takeRequests (i : PortId) : Nat → State → State
  | 0, s => s
  | n + 1, s =>
    match (s.port i).rx with
    | [] => s
    | r :: rest => if (s.port i).mayTake then takeRequests i n (answerRequest i r rest s) else s

/-- Every request that the port can take is taken. -/
def takeAll (i : PortId) (s : State) : State := takeRequests i (s.port i).rx.length s

/-! ### The receive queue (R163) -/

/-- A valid telegram is offered to the receive queue, and the test of R164 is made (R163, R164). -/
def offerRequest (i : PortId) (r : Request) (s : State) : State :=
  let p := s.port i
  if p.rx.length < rxCapacity then takeAll i (s.withPort i { p with rx := p.rx ++ [r] })
  else (s.withPort i { p with overrun := satInc 255 p.overrun }).setAttention .rxOverrun

/-! ### The receiver (R161, R162, R167) -/

/-- A frame is dropped into the bad-CRC counter; at 128 the port becomes DEGRADED (R161, R162). -/
def dropBadCrc (i : PortId) (s : State) : State :=
  let p := s.port i
  let n := satInc 255 p.badCrc
  if n = 128 ∧ p.badCrc ≠ 128 then
    (s.withPort i { p with frame := [], badCrc := n, degraded := true }).setAttention .portDegraded
  else s.withPort i { p with frame := [], badCrc := n }

def dropOversize (i : PortId) (s : State) : State :=
  s.withPort i { s.port i with frame := [], oversize := satInc 255 (s.port i).oversize }

def dropUnknown (i : PortId) (s : State) : State :=
  s.withPort i { s.port i with frame := [], unknownKind := satInc 255 (s.port i).unknownKind }

/-- The link hears a valid telegram: the silence timer is started afresh, and a LOST link becomes ALIVE (R167, R169). -/
def hear (i : PortId) (s : State) : State :=
  endEvent
    (s.withPort i
      { s.port i with
        frame := [], silence := startMs s.line.silenceLimit, alive := true
        aliveSince := (s.port i).aliveSince || !(s.port i).alive })

/-- A valid telegram is heard and then offered (R161, R167). -/
def validTelegram (i : PortId) (r : Request) (s : State) : State := offerRequest i r (hear i s)

/-- The check word received at the end of a frame of LEN payload bytes. -/
def frameWord (len : Nat) (frame : List Byte) : CheckWord :=
  match frame.drop (4 + len) with
  | [h, l] => h ++ l
  | _ => 0

/-- Points 2 and 3 of R161, on a frame whose last check-word byte has come. -/
def judgeFrame (i : PortId) (addr kind : Byte) (len : Nat) (frame : List Byte) (s : State) : State :=
  if crc16 ((frame.drop 1).take (3 + len)) = frameWord len frame then
    match judge i addr kind ((frame.drop 4).take len) with
    | .valid r => validTelegram i r s
    | .unknownKind => dropUnknown i s
    | .badLength => dropOversize i s
  else dropBadCrc i s

/-- A byte of the frame is taken, and the frame judged at the length byte and at its last byte (R161). -/
def takeFrame (i : PortId) (frame : List Byte) (s : State) : State :=
  match frame with
  | _ :: addr :: kind :: len :: _ =>
    if frame.length = 4 ∧ 24 < len.toNat then dropOversize i s
    else if 6 + len.toNat ≤ frame.length then judgeFrame i addr kind len.toNat frame s
    else s.withPort i { s.port i with frame := frame }
  | _ => s.withPort i { s.port i with frame := frame }

/-- A byte arrives: between frames every byte but SYNC is discarded (R161). -/
def feedByte (i : PortId) (s : State) (b : Byte) : State :=
  match (s.port i).frame with
  | [] => if b = sync then s.withPort i { s.port i with frame := [b] } else s
  | x :: rest => takeFrame i (x :: rest ++ [b]) s

/-- An incomplete frame is dropped and counted in the bad-CRC counter; nothing happens while the receiver hunts (R161; log 2,
log 38). -/
def dropIncomplete (i : PortId) (s : State) : State := if (s.port i).frame = [] then s else dropBadCrc i s

/-! ### Transmission completion (R165) -/

/-- Steps 1 and 2 of R165: pending notices are placed and requests are taken, with no telegram of the port in transmission. -/
def refillQueue (i : PortId) (s : State) : State := takeAll i (placePending i (s.withCompleting (some i)))

/-- TRANSMISSION_COMPLETION: the oldest telegram leaves, the queue is filled again, and its new oldest entry is in transmission from
then on (R165, step 3). -/
def transmissionEnd (i : PortId) (s : State) : State :=
  match (s.port i).tx with
  | [] => s
  | _ :: rest => (refillQueue i (s.withPort i { s.port i with tx := rest })).withCompleting none

/-! ### The silence timer (R167, R168) -/

/-- The link becomes LOST (R166, R167). -/
def loseLink (i : PortId) (s : State) : State :=
  (s.withPort i
    { (s.port i).trim with silence := none, alive := false, losses := satInc 255 (s.port i).losses }).setAttention .linkLost

/-- A LINK cause, added while the line is live (R168). -/
def linkCause (c : Cause) (s : State) : State := if s.live then raise c .emergency s else s

/-- The effects of the loss of a link, by its port (R168). -/
def lossEffects (i : PortId) (s : State) : State :=
  match i with
  | .drv => linkCause .linkDrv s
  | .cra => takeWeigh .a none (linkCause .linkCra s)
  | .crb => takeWeigh .b none (linkCause .linkCrb s)
  | .sta1 => stationLost .sta1 s
  | .sta2 => stationLost .sta2 s
  | .con => s

/-- SILENCE_TIMER_EXPIRY (R167, R168); the places that the trim frees let requests be taken (R164). -/
def silenceExpiry (i : PortId) (s : State) : State :=
  if (s.port i).silence.isSome then takeAll i (endEvent (lossEffects i (loseLink i s))) else s

end Sys2Proof.Machine
end

