-- ==== Sys2Proof/Machine/BrakeEvents.lean ====
section
/-! DEFINITION. The meanings of the brake rows: the escalation timer, the emergency-stop loop, EBL, and the step timers of both sequences. During
the image load an edge changes the level of its pin alone (R9; log 3). -/

namespace Sys2Proof.Machine

/-- The level of the ESTOP input alone. -/
def setEstopPin (active : Bool) (s : State) : State := s.withBks { s.bks with estop := { s.bks.estop with active := active } }

/-- The level of the EBL input alone. -/
def setEblPin (risen : Bool) (s : State) : State := s.withBks { s.bks with eblRisen := risen }

/-- ESTOP_FALLING_EDGE (R110). -/
def execEstopFallingEdge (s : State) : Host.Outcome State Fault Refusal :=
  .next (if s.loading then setEstopPin true s else endEvent (estopFall s))

/-- ESTOP_RISING_EDGE (R110). -/
def execEstopRisingEdge (s : State) : Host.Outcome State Fault Refusal :=
  .next (if s.loading then setEstopPin false s else endEvent (estopRise s))

/-- EBL_RISE (R106). -/
def execEblRise (s : State) : Host.Outcome State Fault Refusal :=
  .next (if s.loading then setEblPin true s else endEvent (eblRises s))

/-- EBL_FALL (R106). -/
def execEblFall (s : State) : Host.Outcome State Fault Refusal :=
  .next (if s.loading then setEblPin false s else endEvent (eblFalls s))

/-- ESCALATION_TIMER_EXPIRY (R108). -/
def execEscalationTimerExpiry (s : State) : Host.Outcome State Fault Refusal :=
  .next (whileOperating s fun s => endEvent (escalationExpiry s))

/-- ESTOP_QUALIFY_EXPIRY (R110). -/
def execEstopQualifyExpiry (s : State) : Host.Outcome State Fault Refusal :=
  .next (whileOperating s fun s => endEvent (estopQualify s))

/-- RAIL_CONFIRM_EXPIRY (R113). -/
def execRailConfirmExpiry (s : State) : Host.Outcome State Fault Refusal :=
  .next (whileOperating s fun s => endEvent (stepTimeout .railConfirm s))

/-- EB_LIFT_CONFIRM_EXPIRY (R114). -/
def execEbLiftConfirmExpiry (s : State) : Host.Outcome State Fault Refusal :=
  .next (whileOperating s fun s => endEvent (stepTimeout .ebLift s))

/-- EB_SETTLE_EXPIRY (R114). -/
def execEbSettleExpiry (s : State) : Host.Outcome State Fault Refusal :=
  .next (whileOperating s fun s => endEvent (ebSettleEnd s))

/-- TORQUE_PROVE_EXPIRY (R115). -/
def execTorqueProveExpiry (s : State) : Host.Outcome State Fault Refusal :=
  .next (whileOperating s fun s => endEvent (stepTimeout .torqueProve s))

/-- SB_LIFT_CONFIRM_EXPIRY (R116). -/
def execSbLiftConfirmExpiry (s : State) : Host.Outcome State Fault Refusal :=
  .next (whileOperating s fun s => endEvent (stepTimeout .sbLift s))

/-- SB_CONFIRM_EXPIRY (R119). -/
def execSbConfirmExpiry (s : State) : Host.Outcome State Fault Refusal :=
  .next (whileOperating s fun s => endEvent (sbConfirmEnd s))

/-- STOP_EB_DELAY_END (R120). -/
def execStopEbDelayEnd (s : State) : Host.Outcome State Fault Refusal :=
  .next (whileOperating s fun s => endEvent (stopDelayEnd s))

/-- EB_DROP_CONFIRM_EXPIRY (R120). -/
def execEbDropConfirmExpiry (s : State) : Host.Outcome State Fault Refusal :=
  .next (whileOperating s fun s => endEvent (ebDropEnd s))

end Sys2Proof.Machine
end

