-- ==== Sys2Proof/Machine/ConsoleRows.lean ====
section
/-! DEFINITION. The meanings of the console rows: a COMMAND judged valid, offered to CON and taken (R163, R164; log 1). -/

namespace Sys2Proof.Machine

/-- MODE (R24). -/
def execMode (m : Byte) (s : State) : Host.Outcome State Fault Refusal :=
  .next (whileOperating s fun s => offerRequest .con (.command (.mode m)) s)

/-- TRIP (R63). -/
def execTrip (stop : Byte) (s : State) : Host.Outcome State Fault Refusal :=
  .next (whileOperating s fun s => offerRequest .con (.command (.trip stop)) s)

/-- CANCEL (R65). -/
def execCancel (stop : Byte) (s : State) : Host.Outcome State Fault Refusal :=
  .next (whileOperating s fun s => offerRequest .con (.command (.cancel stop)) s)

/-- HOLD (R76). -/
def execHold (s : State) : Host.Outcome State Fault Refusal :=
  .next (whileOperating s fun s => offerRequest .con (.command .hold) s)

/-- JOG (R77, R78). -/
def execJog (dir : Byte) (s : State) : Host.Outcome State Fault Refusal :=
  .next (whileOperating s fun s => offerRequest .con (.command (.jog dir)) s)

/-- STOP (R102). -/
def execStop (s : State) : Host.Outcome State Fault Refusal :=
  .next (whileOperating s fun s => offerRequest .con (.command .stop) s)

/-- BRAKE_RESET (R111). -/
def execBrakeReset (s : State) : Host.Outcome State Fault Refusal :=
  .next (whileOperating s fun s => offerRequest .con (.command .brakeReset) s)

/-- EVACUATE (R134). -/
def execEvacuate (car side : Byte) (s : State) : Host.Outcome State Fault Refusal :=
  .next (whileOperating s fun s => offerRequest .con (.command (.evacuate car side)) s)

/-- EVACUATE_END (R135). -/
def execEvacuateEnd (car : Byte) (s : State) : Host.Outcome State Fault Refusal :=
  .next (whileOperating s fun s => offerRequest .con (.command (.evacuateEnd car)) s)

/-- GATE_MASK (R143). -/
def execGateMask (gate : Byte) (s : State) : Host.Outcome State Fault Refusal :=
  .next (whileOperating s fun s => offerRequest .con (.command (.gateMask gate)) s)

/-- GATE_UNMASK (R143). -/
def execGateUnmask (gate : Byte) (s : State) : Host.Outcome State Fault Refusal :=
  .next (whileOperating s fun s => offerRequest .con (.command (.gateUnmask gate)) s)

/-- TALLY_SET (R155). -/
def execTallySet (car n : Byte) (s : State) : Host.Outcome State Fault Refusal :=
  .next (whileOperating s fun s => offerRequest .con (.command (.tallySet car n)) s)

/-- CONFIG_WRITE (R11, R179). -/
def execConfigWrite (table index segment count : Byte) (bytes : List Byte) (s : State) : Host.Outcome State Fault Refusal :=
  .next (whileOperating s fun s => offerRequest .con (.command (.configWrite table index segment count bytes)) s)

/-- CONFIG_READ (R15, R181). -/
def execConfigRead (table index segment : Byte) (s : State) : Host.Outcome State Fault Refusal :=
  .next (whileOperating s fun s => offerRequest .con (.command (.configRead table index segment)) s)

/-- CONFIG_COMMIT (R16). -/
def execConfigCommit (s : State) : Host.Outcome State Fault Refusal :=
  .next (whileOperating s fun s => offerRequest .con (.command .configCommit) s)

/-- QUERY (R181). -/
def execQuery (record n segment : Byte) (s : State) : Host.Outcome State Fault Refusal :=
  .next (whileOperating s fun s => offerRequest .con (.command (.query record n segment)) s)

/-- CLEAR (R171). -/
def execClear (item : Byte) (s : State) : Host.Outcome State Fault Refusal :=
  .next (whileOperating s fun s => offerRequest .con (.command (.clear item)) s)

/-- UNKNOWN_COMMAND (R170). -/
def execUnknownCommand (kind : Byte) (args : List Byte) (s : State) : Host.Outcome State Fault Refusal :=
  .next (whileOperating s fun s => offerRequest .con (.command (.unknown kind args)) s)

end Sys2Proof.Machine
end

