-- ==== Sys2Proof/Machine/PortRows.lean ====
section
/-! DEFINITION. The meanings of the port rows: received bytes, drops, transmission completion and the silence timer. -/

namespace Sys2Proof.Machine

/-- RECEIVE_FRAME (R161): the bytes are taken one after another (log 2). -/
def execReceiveFrame (i : PortId) (bytes : List Byte) (s : State) : Host.Outcome State Fault Refusal :=
  .next (whileOperating s fun s => bytes.foldl (feedByte i) s)

/-- FRAME_TIMEOUT (R161). -/
def execFrameTimeout (i : PortId) (s : State) : Host.Outcome State Fault Refusal :=
  .next (whileOperating s fun s => dropIncomplete i s)

/-- TRANSMISSION_COMPLETION (R165). -/
def execTransmissionCompletion (i : PortId) (s : State) : Host.Outcome State Fault Refusal :=
  .next (whileOperating s fun s => transmissionEnd i s)

/-- SILENCE_TIMER_EXPIRY (R167). -/
def execSilenceTimerExpiry (i : PortId) (s : State) : Host.Outcome State Fault Refusal :=
  .next (whileOperating s fun s => silenceExpiry i s)

/-- BYTE_FRAMING_ERROR (R161). -/
def execByteFramingError (i : PortId) (s : State) : Host.Outcome State Fault Refusal :=
  .next (whileOperating s fun s => dropIncomplete i s)

end Sys2Proof.Machine
end

