-- ==== Sys2Proof/Machine/ReportRows.lean ====
section
/-! DEFINITION. The meanings of the report and station rows: a telegram judged valid, offered to its port and taken (R163, R164; log 1). -/

namespace Sys2Proof.Machine

/-- DRIVE_REPORT (R56). -/
def execDriveReport (state sb : Byte) (s : State) : Host.Outcome State Fault Refusal :=
  .next (whileOperating s fun s => offerRequest .drv (.driveReport state sb) s)

/-- CAR_REPORT (R125). -/
def execCarReport (c : Car) (door token rail weighPresent : Byte) (weigh : BitVec 16) (fault : Byte) (s : State) : Host.Outcome State Fault Refusal :=
  .next (whileOperating s fun s => offerRequest c.port (.carReport door token rail weighPresent weigh fault) s)

/-- VALIDATE (R149). -/
def execValidate (sta : Sta) (g : Fin 16) (s : State) : Host.Outcome State Fault Refusal :=
  .next (whileOperating s fun s => offerRequest sta.port (.validate g) s)

/-- PASSAGE (R152, R153). -/
def execPassage (sta : Sta) (g : Fin 16) (s : State) : Host.Outcome State Fault Refusal :=
  .next (whileOperating s fun s => offerRequest sta.port (.passage g) s)

/-- CALL (R64). -/
def execCall (sta : Sta) (p : Fin 8) (s : State) : Host.Outcome State Fault Refusal :=
  .next (whileOperating s fun s => offerRequest sta.port (.call p) s)

/-- GATE_REPORT (R142). -/
def execGateReport (sta : Sta) (g : Fin 16) (fault : Byte) (s : State) : Host.Outcome State Fault Refusal :=
  .next (whileOperating s fun s => offerRequest sta.port (.gateReport g fault) s)

end Sys2Proof.Machine
end

