-- ==== Sys2Proof/Machine/ResetEvents.lean ====
section
/-! DEFINITION. The meanings of the reset and storage rows: POWER_ON_RESET, EXTERNAL_RESET, IMAGE_LOAD_END, COMMIT_COMPLETION. -/

namespace Sys2Proof.Machine

/-- The attention items after a load: clear, but for CONFIG_INVALID after a failed load (R9, R21; log 6). DESIGN CHOICE (log 44):
CONFIG_COMMIT_FAILED is clear after a failed load too, for which R21 gives no value of it. -/
def itemsAfterLoad (valid : Bool) : Vector Bool 26 :=
  (Vector.replicate 26 false).set Attention.configInvalid.index.val (!valid)

/-- The storage as a reset finds it: a write in progress ends at once, before its check word is written or after, which is a free
value (R19; log 11). -/
def Cfs.cutShort (c : Cfs) : Cfs :=
  if c.commit = .writing then
    { c with
      checkWord := if Config.checkWordWritten c.interrupts then some (imageCrc c.stored) else none
      interrupts := c.interrupts + 1 }
  else c

/-- Every block takes its reset state, and the image load is made (R9, R19, R20; log 6). The pins keep their levels (log 8), the queue of
waiting commands stays (log 10). -/
def resetTo (previous : LineMode) (cause : ResetCause) (tallyA tallyB : Nat) (s : State) : State where
  loading := true
  cfs := { s.cfs.cutShort with resetCause := cause }.load
  msu := Msu.reset
  rco := Rco.reset previous
  ssv := Ssv.reset
  bks := Bks.reset s.bks.estop.active s.bks.eblRisen
  dou := { a := DoorRecord.reset, b := DoorRecord.reset }
  adu := Adu.reset tallyA tallyB
  ports := Ports.reset
  pc5 := { write := none, read := none }
  att := itemsAfterLoad s.cfs.cutShort.load.storedValid
  answering := none
  held := []
  completing := none
  pending := s.pending

/-- The reset cause record that an external reset fills (R20). -/
def State.externalCause (s : State) : ResetCause where
  present := true
  firstCause := s.bks.demand.first
  causes := s.bks.demand.causes
  latched := s.bks.demand.latched
  mode := s.rco.mode
  commitInterrupted := s.cfs.commit == .writing
  count := satInc 255 s.cfs.resetCause.count

/-- The end of the load: the sample timer starts, the pins are read, the load flags evaluated (R9, R36, R106, R110, R156). -/
def endLoad (estopActive eblRisen : Bool) (s : State) : State :=
  let s1 := { s with
    loading := false
    msu := { s.msu with sampleTimer := startMs Config.samplePeriod }
    bks :=
      { s.bks with
        eblRisen := eblRisen
        estop :=
          { active := estopActive, qualified := false
            timer := if estopActive then startMs s.line.estopQualify else none } } }
  let s2 := if eblRisen then raiseEbFault s1 else s1
  allCars.foldl evaluateLoad s2

/-- POWER_ON_RESET (R20). -/
def execPowerOnReset (s : State) : Host.Outcome State Fault Refusal := .next (resetTo .locked ResetCause.cleared 0 0 s)

/-- EXTERNAL_RESET (R20, R157). -/
def execExternalReset (s : State) : Host.Outcome State Fault Refusal :=
  .next (resetTo s.rco.mode s.externalCause s.adu.load.a.tally s.adu.load.b.tally s)

/-- IMAGE_LOAD_END (R9); no load is in progress in an operating part, and nothing happens there. -/
def execImageLoadEnd (estopActive eblRisen : Bool) (s : State) : Host.Outcome State Fault Refusal :=
  .next (if s.loading then endEvent (endLoad estopActive eblRisen s) else s)

/-- COMMIT_COMPLETION (R18). -/
def execCommitCompletion (readBack : Option Tables) (s : State) : Host.Outcome State Fault Refusal :=
  .next (whileOperating s fun s => endEvent (completeCommit readBack s))

end Sys2Proof.Machine
end

