-- ==== Sys2Proof/Machine/SensorEvents.lean ====
section
/-! DEFINITION. The meanings of the measurement rows: SAMPLE_EVENT, STANDSTILL_TIMER_EXPIRY, DATUM_EVENT. -/

namespace Sys2Proof.Machine

/-- SAMPLE_EVENT (R36). -/
def execSampleEvent (r1 r2 : SensorRead) (s : State) : Host.Outcome State Fault Refusal :=
  .next (whileOperating s fun s => endEvent (sampleEvent r1 r2 s))

/-- STANDSTILL_TIMER_EXPIRY (R48). -/
def execStandstillTimerExpiry (s : State) : Host.Outcome State Fault Refusal :=
  .next (whileOperating s fun s => endEvent (standstillExpiry s))

/-- DATUM_EVENT (R49). -/
def execDatumEvent (n : Fin 4) (s : State) : Host.Outcome State Fault Refusal :=
  .next (whileOperating s fun s => endEvent (datumEvent n s))

end Sys2Proof.Machine
end

