-- ==== Sys2Proof/Machine/TimerEvents.lean ====
section
/-! DEFINITION. The meanings of the rows of the run, door and gate timers. -/

namespace Sys2Proof.Machine

/-- DWELL_TIMER_EXPIRY (R67). -/
def execDwellTimerExpiry (s : State) : Host.Outcome State Fault Refusal :=
  .next (whileOperating s fun s => endEvent (dwellExpiry s))

/-- JOG_HOLD_EXPIRY (R78). -/
def execJogHoldExpiry (s : State) : Host.Outcome State Fault Refusal :=
  .next (whileOperating s fun s => endEvent (jogExpiry s))

/-- ACK_TIMER_EXPIRY (R127). -/
def execAckTimerExpiry (c : Car) (s : State) : Host.Outcome State Fault Refusal :=
  .next (whileOperating s fun s => endEvent (ackExpiry c s))

/-- CLOSE_TIMER_EXPIRY (R130). -/
def execCloseTimerExpiry (c : Car) (s : State) : Host.Outcome State Fault Refusal :=
  .next (whileOperating s fun s => endEvent (closeExpiry c s))

/-- RESERVATION_TIMER_EXPIRY (R151). -/
def execReservationTimerExpiry (g : Fin 16) (s : State) : Host.Outcome State Fault Refusal :=
  .next (whileOperating s fun s => endEvent (reservationExpiry g s))

/-- EXIT_QUIET_TIMER_EXPIRY (R153). -/
def execExitQuietTimerExpiry (p : Fin 8) (s : State) : Host.Outcome State Fault Refusal :=
  .next (whileOperating s fun s => endEvent (exitQuietExpiry p s))

end Sys2Proof.Machine
end

