-- ==== Sys2Proof/Machine/Dispatch.lean ====
section
/-! DEFINITION. One arm per command: the call of its meaning. -/

namespace Sys2Proof.Machine

def exec (i : Instr) (s : State) : Host.Outcome State Fault Refusal :=
  match i with
  | .powerOnReset => Sys2Proof.Machine.execPowerOnReset s
  | .externalReset => Sys2Proof.Machine.execExternalReset s
  | .imageLoadEnd estopActive eblRisen => Sys2Proof.Machine.execImageLoadEnd estopActive eblRisen s
  | .commitCompletion readBack => Sys2Proof.Machine.execCommitCompletion readBack s
  | .sampleEvent read1 read2 => Sys2Proof.Machine.execSampleEvent read1 read2 s
  | .standstillTimerExpiry => Sys2Proof.Machine.execStandstillTimerExpiry s
  | .escalationTimerExpiry => Sys2Proof.Machine.execEscalationTimerExpiry s
  | .datumEvent n => Sys2Proof.Machine.execDatumEvent n s
  | .estopFallingEdge => Sys2Proof.Machine.execEstopFallingEdge s
  | .estopRisingEdge => Sys2Proof.Machine.execEstopRisingEdge s
  | .estopQualifyExpiry => Sys2Proof.Machine.execEstopQualifyExpiry s
  | .eblRise => Sys2Proof.Machine.execEblRise s
  | .eblFall => Sys2Proof.Machine.execEblFall s
  | .railConfirmExpiry => Sys2Proof.Machine.execRailConfirmExpiry s
  | .ebLiftConfirmExpiry => Sys2Proof.Machine.execEbLiftConfirmExpiry s
  | .ebSettleExpiry => Sys2Proof.Machine.execEbSettleExpiry s
  | .torqueProveExpiry => Sys2Proof.Machine.execTorqueProveExpiry s
  | .sbLiftConfirmExpiry => Sys2Proof.Machine.execSbLiftConfirmExpiry s
  | .sbConfirmExpiry => Sys2Proof.Machine.execSbConfirmExpiry s
  | .stopEbDelayEnd => Sys2Proof.Machine.execStopEbDelayEnd s
  | .ebDropConfirmExpiry => Sys2Proof.Machine.execEbDropConfirmExpiry s
  | .dwellTimerExpiry => Sys2Proof.Machine.execDwellTimerExpiry s
  | .jogHoldExpiry => Sys2Proof.Machine.execJogHoldExpiry s
  | .ackTimerExpiry car => Sys2Proof.Machine.execAckTimerExpiry car s
  | .closeTimerExpiry car => Sys2Proof.Machine.execCloseTimerExpiry car s
  | .reservationTimerExpiry gate => Sys2Proof.Machine.execReservationTimerExpiry gate s
  | .exitQuietTimerExpiry platform => Sys2Proof.Machine.execExitQuietTimerExpiry platform s
  | .receiveFrame port bytes => Sys2Proof.Machine.execReceiveFrame port bytes s
  | .frameTimeout port => Sys2Proof.Machine.execFrameTimeout port s
  | .transmissionCompletion port => Sys2Proof.Machine.execTransmissionCompletion port s
  | .silenceTimerExpiry port => Sys2Proof.Machine.execSilenceTimerExpiry port s
  | .driveReport state sb => Sys2Proof.Machine.execDriveReport state sb s
  | .carReport car door token rail weighPresent weigh fault => Sys2Proof.Machine.execCarReport car door token rail weighPresent weigh fault s
  | .validate sta gate => Sys2Proof.Machine.execValidate sta gate s
  | .passage sta gate => Sys2Proof.Machine.execPassage sta gate s
  | .call sta platform => Sys2Proof.Machine.execCall sta platform s
  | .gateReport sta gate fault => Sys2Proof.Machine.execGateReport sta gate fault s
  | .mode m => Sys2Proof.Machine.execMode m s
  | .trip stop => Sys2Proof.Machine.execTrip stop s
  | .cancel stop => Sys2Proof.Machine.execCancel stop s
  | .hold => Sys2Proof.Machine.execHold s
  | .jog dir => Sys2Proof.Machine.execJog dir s
  | .stop => Sys2Proof.Machine.execStop s
  | .brakeReset => Sys2Proof.Machine.execBrakeReset s
  | .evacuate car side => Sys2Proof.Machine.execEvacuate car side s
  | .evacuateEnd car => Sys2Proof.Machine.execEvacuateEnd car s
  | .gateMask gate => Sys2Proof.Machine.execGateMask gate s
  | .gateUnmask gate => Sys2Proof.Machine.execGateUnmask gate s
  | .tallySet car n => Sys2Proof.Machine.execTallySet car n s
  | .configWrite table index segment count bytes => Sys2Proof.Machine.execConfigWrite table index segment count bytes s
  | .configRead table index segment => Sys2Proof.Machine.execConfigRead table index segment s
  | .configCommit => Sys2Proof.Machine.execConfigCommit s
  | .query record n segment => Sys2Proof.Machine.execQuery record n segment s
  | .clear item => Sys2Proof.Machine.execClear item s
  | .unknownCommand kind args => Sys2Proof.Machine.execUnknownCommand kind args s
  | .byteFramingError port => Sys2Proof.Machine.execByteFramingError port s

end Sys2Proof.Machine
end

