-- ==== Sys2Proof/Safety.lean ====
section
/-! DEFINITION. What counts as a sound state, in the terms that the statements use: the laws that the rules say hold between two
events, block by block, and the shapes of an event that the statements name. -/

namespace Sys2Proof

/-- The request that a request row offers, with its port (R160, R175, R177); none for every other row. -/
def Instr.request : Instr → Option (PortId × Request)
  | .driveReport a b => some (.drv, .driveReport a b)
  | .carReport c d t r p w f => some (c.port, .carReport d t r p w f)
  | .validate x g => some (x.port, .validate g)
  | .passage x g => some (x.port, .passage g)
  | .call x p => some (x.port, .call p)
  | .gateReport x g f => some (x.port, .gateReport g f)
  | .mode m => some (.con, .command (.mode m))
  | .trip k => some (.con, .command (.trip k))
  | .cancel k => some (.con, .command (.cancel k))
  | .hold => some (.con, .command .hold)
  | .jog d => some (.con, .command (.jog d))
  | .stop => some (.con, .command .stop)
  | .brakeReset => some (.con, .command .brakeReset)
  | .evacuate c d => some (.con, .command (.evacuate c d))
  | .evacuateEnd c => some (.con, .command (.evacuateEnd c))
  | .gateMask g => some (.con, .command (.gateMask g))
  | .gateUnmask g => some (.con, .command (.gateUnmask g))
  | .tallySet c n => some (.con, .command (.tallySet c n))
  | .configWrite t i k n b => some (.con, .command (.configWrite t i k n b))
  | .configRead t i k => some (.con, .command (.configRead t i k))
  | .configCommit => some (.con, .command .configCommit)
  | .query r n k => some (.con, .command (.query r n k))
  | .clear i => some (.con, .command (.clear i))
  | .unknownCommand k l => some (.con, .command (.unknown k l))
  | .powerOnReset | .externalReset | .imageLoadEnd _ _ | .commitCompletion _ | .sampleEvent _ _ | .standstillTimerExpiry
  | .escalationTimerExpiry | .datumEvent _ | .estopFallingEdge | .estopRisingEdge | .estopQualifyExpiry | .eblRise | .eblFall
  | .railConfirmExpiry | .ebLiftConfirmExpiry | .ebSettleExpiry | .torqueProveExpiry | .sbLiftConfirmExpiry | .sbConfirmExpiry
  | .stopEbDelayEnd | .ebDropConfirmExpiry | .dwellTimerExpiry | .jogHoldExpiry | .ackTimerExpiry _ | .closeTimerExpiry _
  | .reservationTimerExpiry _ | .exitQuietTimerExpiry _ | .receiveFrame _ _ | .frameTimeout _ | .transmissionCompletion _
  | .silenceTimerExpiry _ | .byteFramingError _ => none

end Sys2Proof

namespace Sys2Proof.Machine

/-! ### Shapes of an event -/

/-- No request is being decided between two steps, no notice waits for its reply (R164), and no completion is under way (R165). -/
def State.settled (s : State) : Bool := s.answering == none && s.held == [] && s.completing == none

/-- A request offered to the port now is taken in the same event: the part operates between two steps, the receive queue is empty,
no notice is pending and a place is free (R163, R164). -/
def State.takesNow (s : State) (i : PortId) : Bool :=
  s.operating && s.settled && (s.port i).rx == [] && (s.port i).mayTake

/-- Nothing departs at the end of an event that leaves the state so: CLOSING does not wait for a readiness test that now holds
(R69 to R71). -/
def State.waits (s : State) : Bool := s.rco.runState != .closing || s.readiness.isSome || s.rco.tripInHand.isNone

/-- The end of such an event: the first failing condition is that of the test in CLOSING, and NONE elsewhere (R70). -/
def State.rested (s : State) : State :=
  s.withRco { s.rco with firstFailing := if s.rco.runState = .closing then s.readiness else none }

/-- A telegram joins the tail of a port's transmit queue (R164). -/
def State.sent (s : State) (i : PortId) (e : TxEntry) : State := s.withPort i { s.port i with tx := (s.port i).tx ++ [e] }

/-- A console command decided so, with no departure at its end: the RESULT of R170 and R180 joins CON's transmit queue. -/
def State.concluded (s : State) (code : ResultCode) (kind : Byte) (detail : List Byte) : State :=
  s.rested.sent .con (resultTelegram code s.attentionSummary kind detail)

/-! ### Frames that the receiver drops (R161) -/

/-- The kind is one that the port hears, and the address one that the kind has there (R160, R173). -/
def portHears (i : PortId) (addr kind : Byte) : Bool :=
  match i with
  | .drv => kind == 0x11 && addr == 0
  | .cra => kind == 0x21 && addr == 0
  | .crb => kind == 0x21 && addr == 0
  | .con => kind == 0x51 && addr == 0
  | .sta1 => hearsGate
  | .sta2 => hearsGate
where
  hearsGate : Bool :=
    ((kind == 0x31 || kind == 0x32 || kind == 0x34) && addr.toNat < 16) || (kind == 0x33 && 0x80 ≤ addr.toNat && addr.toNat < 0x88)

/-- The payload has the length that the table of kinds gives (R175); a COMMAND's is that of its command kind (R177, R179). -/
def lengthFits (kind : Byte) (payload : List Byte) : Bool :=
  if kind == 0x11 then payload.length == 2
  else if kind == 0x21 then payload.length == 7
  else if kind == 0x34 then payload.length == 1
  else if kind == 0x51 then (parseCommand payload).isSome
  else payload.length == 0

/-! ### A platform release asked for (R126) -/

/-- A car's door record after the RCO has asked for its platform release at stop k: the release ordered, or the first of the tests of
R126 that fails recorded; at a stop with no platform for the car nothing is asked (R28, R61). -/
def State.doorAfterAsk (s : State) (k : Fin 6) (c : Car) : DoorRecord :=
  let d := s.door c
  match (s.stopEntry k).platform c with
  | none => d
  | some p =>
    if s.msu.standstill = false then { d with lastRefused := .standstill }
    else if s.bks.slot ≠ .idle then { d with lastRefused := .sequence }
    else if s.rco.authority.state ≠ .none then { d with lastRefused := .authority }
    else if d.release ≠ .none then { d with lastRefused := .releaseState }
    else
      { d with
        counter := if d.counter = 15 then 1 else d.counter + 1
        token := if d.counter = 15 then 1 else d.counter + 1
        side := (s.stopEntry k).side c
        kind := some (.platform k p)
        release := .ordered
        ackTimer := some s.line.ackTime
        lastRefused := .none }

/-! ### Requests for a stop: when the run is shortened, and when the head goes (R68, R75) -/

/-- A request for stop k shortens the run (R75): a granted run that is no jog, whose target lies beyond k, k ahead of P_sup, where the
curve value to k is at least v_meas and measurement is qualified. -/
def State.shortensTo (s : State) (k : Fin 6) : Prop :=
  let at_ := (s.stopEntry k).position
  s.rco.runState = .running ∧ s.rco.authority.state = .granted ∧ s.rco.jogRun = false ∧ (s.stopEntry k).present = true ∧
    s.msu.qualified = true ∧ s.msu.vMeas ≤ s.curveValue at_ ∧
    (∃ p, s.msu.pSup = some p ∧ ∃ t, s.rco.authority.targetPosition = some t ∧
      ((s.rco.authority.dir = some .up ∧ p < at_ ∧ at_ < t) ∨ (s.rco.authority.dir = some .down ∧ t < at_ ∧ at_ < p)))

/-- The head of the queue goes as soon as there is one (R68): at a stop once the dwell has elapsed, in SERVICE or RECOVERY, and off
every stop in RECOVERY. -/
def State.headGoes (s : State) : Prop :=
  (s.rco.runState = .atStop ∧ s.rco.dwellElapsed = true ∧ (s.rco.mode = .service ∨ s.rco.mode = .recovery)) ∨
    (s.rco.runState = .offStop ∧ s.rco.mode = .recovery)

/-- State t is s once the head of the queue has become the trip in hand and CLOSING waits for a readiness that fails (R68 to R70, R129,
R146): the direction is judged from the current stop, or P_sup off every stop, every session is closed, every given platform release is
withdrawn, and the rest of these blocks is as it was. -/
def State.tookHead (s t : State) (head : Trip) (rest : List Trip) : Prop :=
  t.rco = { s.rco with
    runState := .closing, tripInHand := some head, queue := rest, dwellTimer := none, dwellElapsed := false
    tripDir := if (s.stopEntry head.target).position < s.reference then .down else .up
    firstFailing := t.rco.firstFailing } ∧
    t.rco.firstFailing.isSome = true ∧ (∀ p, (t.session p).isOpen = false) ∧
    (∀ c, if (s.door c).given = true ∧ (s.door c).isPlatform = true then
        t.door c = { s.door c with
          token := 0, release := .withdrawing, ackTimer := none, closeTimer := some (1000 * s.line.closeTimeout), overdue := false
          lastWithdrawal := .closing }
      else t.door c = s.door c) ∧
    t.bks = s.bks ∧ t.ssv = s.ssv ∧ t.msu = s.msu ∧ t.cfs = s.cfs ∧ t.adu.load = s.adu.load

/-! ### The laws of the blocks -/

/-- The brake demand record (R98, R99): each entry asks SERVICE or higher and no cause appears twice; the latched level is the
highest of the set; the first cause is one of the set, and NONE exactly when the set is empty; the current level is the higher of
the latched level and a caution asked. -/
def Demand.lawful (d : Demand) : Bool :=
  d.causes.all (fun e => e.level.brakes) && decide (d.causes.map CauseEntry.cause).Nodup && d.latched == highest d.causes &&
    (match d.first with | some c => holdsCause d.causes c | none => d.causes == []) &&
    d.current == currentLevel d.latched d.caution

def Slot.isStop : Slot → Bool
  | .stop _ => true
  | _ => false

/-- The step timer that runs belongs to the step of the slot (R112 to R120). -/
def Bks.timerFits (b : Bks) : Bool :=
  match b.stepTimer with
  | none => true
  | some t =>
    match t.which, b.slot with
    | .railConfirm, .departure .d1 => true
    | .ebLift, .departure .d2 => true
    | .ebSettle, .departure .d2 => true
    | .torqueProve, .departure .d3 => true
    | .sbLift, .departure .d4 => true
    | .sbConfirm, .stop .s1 => true
    | .stopEbDelay, .stop .s2 => true
    | .ebDrop, .stop .s2 => true
    | _, _ => false

/-- The Brake Sequencer and the run state (R100, R103, R104, R106, R112): the slot holds a departure exactly in DEPARTING and a stop
exactly in STOPPING; no departure and no energized EB-HOLD under the latch levels that forbid them, nor in LOCKED; the service brake is
demanded under a latch; each proof stands only with its output. -/
def State.brakesLawful (s : State) : Bool :=
  s.bks.slot.isDeparture == (s.rco.runState == .departing) && s.bks.slot.isStop == (s.rco.runState == .stopping) &&
    s.bks.timerFits && (!s.bks.slot.isDeparture || !s.bks.demand.latched.brakes) &&
    (!s.bks.ebHold || s.bks.demand.latched.rank < 3) && (s.bks.sbDmd || !s.bks.demand.latched.brakes) &&
    (!s.bks.ebProved || s.bks.ebHold) && (!s.bks.sbConfirmed || s.bks.sbDmd) &&
    (s.rco.mode != .locked || (!s.bks.ebHold && !s.bks.slot.isDeparture && s.rco.runState != .closing))

/-- A door record (R123, R126 to R130): a given release orders its own token, any other orders 0; the ack timer runs only while
ORDERED, and the close timer and close overdue stand only while WITHDRAWING. -/
def DoorRecord.lawful (d : DoorRecord) : Bool :=
  (if d.given then d.token == d.counter && d.token != 0 else d.token == 0) && (!d.ackTimer.isSome || d.release == .ordered) &&
    (!d.closeTimer.isSome || d.release == .withdrawing) && (!d.overdue || d.release == .withdrawing)

/-- Releases and authority (R58, R126, R131, R134): a release is given only at confirmed standstill with authority NONE, and GRANTED
stands only with both releases NONE and both cars CLOSED_LOCKED. -/
def State.releasesLawful (s : State) : Bool :=
  s.dou.a.lawful && s.dou.b.lawful &&
    (!(s.dou.a.given || s.dou.b.given) || (s.msu.standstill && s.rco.authority.state == .none)) &&
    (s.rco.authority.state != .granted || (s.releasesNone && s.doorsLocked))

/-- A trip request stands for 1 to 255 requests (R62, R63). -/
def Trip.lawful (t : Trip) : Bool := 1 ≤ t.merged && t.merged ≤ 255

/-- The trip queue holds at most four requests, no two with the same target stop, and none with that of the trip in hand (R62, R63). -/
def Rco.tripsLawful (r : Rco) : Bool :=
  r.queue.length ≤ 4 && r.queue.all Trip.lawful && r.tripInHand.all Trip.lawful && decide (r.queue.map Trip.target).Nodup &&
    r.tripInHand.all fun h => r.queue.all fun q => q.target != h.target

/-- The authority leads to the trip in hand: in a departure and in a granted run, but for a jog (R58, R71, R75). -/
def State.leadsToTrip (s : State) : Bool :=
  !(s.rco.runState == .departing || s.mayRetarget) || s.rco.jogRun ||
    s.rco.tripInHand.all fun h => s.rco.authority.targetPosition == some (s.stopEntry h.target).position

/-- The run state and the authority (R57, R58, R60, R71, R72): a line at rest, in CLOSING, or arrested with the brakes set has no
authority; a departure has none that runs; neither a departure nor a run has the brakes set. -/
def State.runLawful (s : State) : Bool :=
  (match s.rco.runState with
    | .atStop => s.rco.authority.state == .none
    | .offStop => s.rco.authority.state == .none
    | .closing => s.rco.authority.state == .none
    | .arrested => !s.rco.brakesSet || s.rco.authority.state == .none
    | .departing => !s.rco.brakesSet && !s.rco.authority.state.running
    | .running => !s.rco.brakesSet
    | .stopping => true) && s.leadsToTrip

/-- A gate's reservation timer runs exactly while it is RESERVED (R140, R150, R151). -/
def GateChannel.lawful (g : GateChannel) : Bool := g.timer.isSome == (g.state == .reserved)

/-- A closed session holds no waiting gate, no open reservation and no running exit quiet timer (R144, R146). -/
def Session.lawful (x : Session) : Bool := x.isOpen || (x.waiting == [] && x.reservations == 0 && x.quietTimer == none)

def Adu.lawful (a : Adu) : Bool := a.gates.toList.all GateChannel.lawful && a.sessions.toList.all Session.lawful

/-- The gate is one of the platform's gates. -/
def State.gateOf (s : State) (p : Fin 8) (g : Fin 16) : Bool := (s.gateEntry g).platform == p

/-- A platform's waiting list holds no gate twice, and its gates are those of the platform that are WAITING; the open reservation
count is the number of the platform's gates that are RESERVED (R140, R144). -/
def State.sessionCounts (s : State) (p : Fin 8) : Bool :=
  decide (s.session p).waiting.Nodup &&
    allIndices.all (fun g => (s.session p).waiting.contains g == ((s.gate g).state == .waiting && s.gateOf p g)) &&
    (s.session p).reservations == allIndices.countP fun g => (s.gate g).state == .reserved && s.gateOf p g

/-- The gates and the sessions (R140, R144 to R146): only a present gate waits or is reserved, every session counts its gates, and
outside SERVICE and RECOVERY every session is closed and no platform release is given (R26, R27). -/
def State.gatesLawful (s : State) : Bool :=
  s.adu.lawful && allIndices.all (fun g => (s.gate g).state == .idle || (s.gateEntry g).present) &&
    allPlatforms.all s.sessionCounts &&
    (s.rco.mode.isPublic ||
      (allPlatforms.all (fun p => !(s.session p).isOpen) && allCars.all fun c => !((s.door c).given && (s.door c).isPlatform)))

/-- A port's queues are within their capacities (R163, R165). -/
def Port.withinCapacity (p : Port) : Bool := p.rx.length ≤ rxCapacity && p.tx.length ≤ txCapacity

/-- Every port's queues are within their capacities. -/
def Ports.withinCapacity (p : Ports) : Bool :=
  p.drv.withinCapacity && p.cra.withinCapacity && p.crb.withinCapacity && p.sta1.withinCapacity && p.sta2.withinCapacity &&
    p.con.withinCapacity

/-- The Configuration Store (R8 to R10, R13, R17): an image said to be valid is one that passes, a stored image said to be valid has its
check word, and during a commit's write it has none. -/
def Cfs.lawful (c : Cfs) : Bool :=
  (!c.workingValid || validate c.tables == none) && (!c.storedValid || c.wordMatches) &&
    (c.commit != .writing || (c.checkWord == none && !c.storedValid))

/-- A channel's status is that of its ring, which holds positions of good reads (R39, R40, R51), and its counts stop at 3 and 65,535. -/
def Channel.lawful (c : Channel) : Bool :=
  (match c.status with
    | .empty => c.ring == []
    | .filling => 0 < c.ring.length && c.ring.length < 9
    | .good => c.ring.length == 9
    | .failed => c.ring == []) && (c.ring == [] || c.position.isSome) && c.badRun ≤ 3 && c.badTotal ≤ 65535

/-- The Measurement Unit (R42, R46, R48): measurement is qualified only with both channels GOOD, standstill is confirmed or timed only
while it is qualified, and its timer does not run while it is confirmed. -/
def Msu.lawful (m : Msu) : Bool :=
  m.ch1.lawful && m.ch2.lawful && (!m.qualified || m.bothGood) && (!m.standstill || (m.qualified && m.standstillTimer == none)) &&
    (!m.standstillTimer.isSome || m.qualified) && m.speedDisagree ≤ 3

/-! ### What a sample event makes of a channel (R38 to R41) -/

/-- The channel's speed is recomputed at a sample event that leaves its ring so: the ring is full and both its ends are read
entries (R41). -/
def Channel.recomputed (c : Channel) : Bool :=
  c.ring.length == 9 && c.ring.head?.all (fun e => !e.held) && c.ring.getLast?.all fun e => !e.held

/-- A channel after a good read: its position, its ring and its status (R38, R39), and its speed where both ends of a full ring are read
entries (R41). -/
def Channel.tookGood (c c' : Channel) (zeroCount scale : Nat) (r : SensorRead) : Prop :=
  let count : Nat := r.bits.toNat / 4
  let above : Int := ((count : Int) - zeroCount) % 16777216
  let d : Int := if 16515072 ≤ above then above - 16777216 else above
  let p : Int := d * 1000 / scale + c.offset
  c'.position = some p ∧ c'.badRun = 0 ∧ c'.badTotal = c.badTotal ∧ c'.offset = c.offset ∧
    c'.ring = (c.ring ++ [RingEntry.mk p false]).drop (c.ring.length - 8) ∧
    c'.status = (if c'.ring.length = 9 then .good else .filling) ∧
    (match c'.ring.head? with
      | some o =>
        if c'.ring.length = 9 ∧ o.held = false then
          c'.speed = (p - o.position).natAbs * 25 / 2 ∧
            c'.dir = (if o.position < p then some .up else if p < o.position then some .down else none)
        else c'.speed = c.speed ∧ c'.dir = c.dir
      | none => False)

/-- A channel after a bad read: position, speed and direction held, the counts, and the ring, which a third bad read in a row empties and
an earlier one carries on with a held entry (R40). -/
def Channel.tookBad (c c' : Channel) : Prop :=
  c'.position = c.position ∧ c'.speed = c.speed ∧ c'.dir = c.dir ∧ c'.offset = c.offset ∧ c'.badRun = min 3 (c.badRun + 1) ∧
    c'.badTotal = min 65535 (c.badTotal + 1) ∧
    (if c.status = .failed then c'.status = .failed ∧ c'.ring = []
    else if c'.badRun = 3 then c'.status = .failed ∧ c'.ring = []
    else
      match c.position with
      | some p =>
        if c.ring = [] then c'.ring = [] ∧ c'.status = c.status
        else
          c'.ring = (c.ring ++ [RingEntry.mk p true]).drop (c.ring.length - 8) ∧
            c'.status = (if c'.ring.length = 9 then .good else .filling)
      | none => c'.ring = [] ∧ c'.status = c.status)

end Sys2Proof.Machine
end

