-- ==== Sys2Proof/Certificates/Slice0/Obligations.lean ====
section
/-! DEFINITION. The statements for the provers, chapter by chapter. A statement about an event that starts no departure at its end
names `State.waits` (R69 to R71) and gives the whole next state, so that it is the event's frame too. -/

open Sys2Proof Sys2Proof.Machine

/-! ### The machine and its laws -/

/-- A step executes the command at the front of the queue on the rest of the queue (log 10). -/
def Obligations.StepTakesFrontCommand : Prop :=
  ∀ (s : State) (c : Instr) (rest : List Instr), s.pending = c :: rest → step s = exec c (s.withPending rest)

/-- Every law holds at `State.reset`. -/
def Obligations.ResetIsLawful : Prop :=
  State.reset.bks.demand.lawful = true ∧ State.reset.brakesLawful = true ∧ State.reset.releasesLawful = true ∧
    State.reset.rco.tripsLawful = true ∧ State.reset.runLawful = true ∧ State.reset.gatesLawful = true ∧
    State.reset.settled = true ∧ State.reset.ports.withinCapacity = true ∧ State.reset.cfs.lawful = true ∧
    State.reset.msu.lawful = true

/-- Every step keeps the laws of the brake demand record (section 6.1). -/
def Obligations.StepKeepsDemandLaw : Prop :=
  ∀ s t : State, s.bks.demand.lawful = true → step s = .next t → t.bks.demand.lawful = true

/-- Every step keeps the laws of the brake outputs, of the sequence slot and of the run state (sections 6.1, 6.3, 6.7). -/
def Obligations.StepKeepsBrakeLaw : Prop :=
  ∀ s t : State, s.brakesLawful = true → step s = .next t → t.brakesLawful = true

/-- Every step keeps the laws that bind the releases, the tokens and the authority (sections 4.2, 7.2 to 7.5). -/
def Obligations.StepKeepsReleaseLaw : Prop :=
  ∀ s t : State, s.releasesLawful = true → step s = .next t → t.releasesLawful = true

/-- Every step keeps the trip queue within four requests, each standing for 1 to 255, no two with the same target and none with that
of the trip in hand, and keeps the authority in step with the run state and with the trip in hand (sections 4.2 to 4.8). The laws of
the brake sequences, which every step keeps, are supposed. -/
def Obligations.StepKeepsTripLaw : Prop :=
  ∀ s t : State, s.brakesLawful = true → s.rco.tripsLawful = true → s.runLawful = true → step s = .next t →
    t.rco.tripsLawful = true ∧ t.runLawful = true

/-- Every step keeps the laws of the gates and of the sessions: the reservation timer runs exactly for a RESERVED gate, a closed
session is empty, a waiting list holds no gate twice and is that of the platform's WAITING gates, the open reservation count is that of
its RESERVED gates, and outside SERVICE and RECOVERY every session is closed (sections 8.1 to 8.6, section 2.2). -/
def Obligations.StepKeepsGateLaw : Prop :=
  ∀ s t : State, s.gatesLawful = true → step s = .next t → t.gatesLawful = true

/-- Every step keeps the queues of the ports within their capacities, and leaves no request half decided (sections 9.3 to 9.5). -/
def Obligations.StepKeepsPortCapacities : Prop :=
  ∀ s t : State, s.settled = true → s.ports.withinCapacity = true → step s = .next t →
    t.settled = true ∧ t.ports.withinCapacity = true

/-- Every step keeps the laws of the Configuration Store (sections 1.4 to 1.7). -/
def Obligations.StepKeepsConfigurationLaw : Prop :=
  ∀ s t : State, s.cfs.lawful = true → step s = .next t → t.cfs.lawful = true

/-- Every step keeps the laws of the Measurement Unit (sections 3.3 to 3.8). -/
def Obligations.StepKeepsMeasurementLaw : Prop :=
  ∀ s t : State, s.msu.lawful = true → step s = .next t → t.msu.lawful = true

/-! ### Reset and the image load -/

/-- Either reset gives every block its reset values, record by record: the Measurement Unit's (R55), the Run Coordinator's (R22, R56,
R57, R66), the Speed Supervisor's (R80), the Brake Sequencer's (R98, R107, R110, R112), the Door Unit's (R123), the Admission Unit's
(R157) and the ports' (R161 to R167, R179, R181). Every attention item outside the CONFIG group is clear. A power-on reset empties both
tallies, an external reset keeps them. The spec gives no value at reset for the levels of the pins before they are read (log 8), the
latest range test (log 27), v_meas, the direction of motion and the direction of a trip (log 31), OVERLOAD before the load end (log 32)
and the fault list of a stop sequence (log 36): those that stand here are the model's choice. -/
def Obligations.ResetsGiveResetValues : Prop :=
  ∀ s : State, ∃ t u : State, exec .powerOnReset s = .next t ∧ exec .externalReset s = .next u ∧
    (∀ v : State, v = t ∨ v = u →
      v.loading = true ∧
      (let channel : Channel :=
         { position := none, offset := 0, ring := [], speed := 0, dir := none, status := .empty, badRun := 0, badTotal := 0
           resynced := false, lastDatum := .none, inRange := true }
       v.msu.ch1 = channel ∧ v.msu.ch2 = channel ∧ v.msu.sampleTimer = none ∧ v.msu.qualified = false ∧ v.msu.vMeas = 0 ∧
         v.msu.motion = none ∧ v.msu.pSup = none ∧ v.msu.positionDisagree = false ∧ v.msu.speedDisagree = 0 ∧
         v.msu.outOfRange = false ∧ v.msu.standstillTimer = none ∧ v.msu.standstill = false ∧
         ∀ n, v.msu.datums.get n = { edges := 0, outcome1 := .none, outcome2 := .none }) ∧
      (∀ i, i ∉ configItems → v.attention i = false) ∧
      v.rco = {
        mode := .locked, modeChange := { previous := v.rco.modeChange.previous, new := .locked, cause := .reset, cancelled := [] }
        runState := .arrested, currentStop := none, tripInHand := none, tripDir := .up, jogRun := false, brakesSet := true
        dwellTimer := none, dwellElapsed := false, abortCount := 0, jogTimer := none, driveReport := none
        authority := { state := .none, targetStop := none, targetPosition := none, dir := none, ceiling := 0, withdrawalPoint := none }
        queue := [], droppedCount := 0, lastDropped := none, firstFailing := none } ∧
      v.ssv = {
        mode := .idle, zone := none, snapshot := none, percent := none, aZone := none, aG := none, target := none
        zoneCandidates := [], vPerm := 0, term := .none, mSb := 200, mEb := 400, asked := .none, overrunFlag := false
        excursion := none } ∧
      v.bks = {
        demand := { causes := [{ cause := .reset, level := .emergency }], latched := .emergency, first := some .reset
                    caution := false, current := .emergency }
        sbDmd := true, sbConfirmed := false, ebHold := false, ebProved := false, eblRisen := s.bks.eblRisen
        esc := { stage := .none, vEntry := 0, checkSpeed := 0, timer := none, last := .none }
        estop := { active := s.bks.estop.active, timer := none, qualified := false }
        slot := .idle, stepTimer := none, lastDeparture := .none, lastStop := .none, faults := [] } ∧
      (∀ c, v.door c = {
        door := .unknown, heldToken := 0, release := .none, kind := none, counter := 0, token := 0, side := .left, ackTimer := none
        closeTimer := none, overdue := false, lastWithdrawal := .none, lastRefused := .none, railOrder := .apply, rail := .unknown
        carFault := false, stale := 0 }) ∧
      (∀ g, v.gate g = { state := .idle, masked := false, fault := false, admissions := 0, duplicates := 0, timer := none }) ∧
      (∀ p, v.session p = { isOpen := false, served := none, stop := none, reservations := 0, quietTimer := none, waiting := [],
                            shared := false, unreserved := 0, lastClose := .none }) ∧
      v.adu.unattributed = 0 ∧ (∀ c, (v.load c).weigh = none ∧ (v.load c).overload = false ∧ (v.load c).tallyOver = false) ∧
      (∀ i, v.port i = {
        frame := [], rx := [], tx := [], pendingOrder := false, pendingGates := [], degraded := false, badCrc := 0, oversize := 0
        unknownKind := 0, overrun := 0, alive := false, silence := none, aliveSince := false, losses := 0 }) ∧
      v.pc5 = { write := none, read := none }) ∧
    (∀ c, (t.load c).tally = 0 ∧ (u.load c).tally = (s.load c).tally) ∧
    t.rco.modeChange.previous = .locked ∧ u.rco.modeChange.previous = s.rco.mode

/-- A power-on reset clears the reset cause record, and an external reset fills it from the state at that moment (R20). Either
loads the stored image: it becomes the working tables where its check word and its validation hold, and the empty image stands in
its place where either fails, with CONFIG_INVALID set (R9). A write that a reset ends leaves the check word erased or, after the
last step of the write, that of its contents (R19). That the contents of a write cut short are whole is the model's choice (log 11),
and that the tables and CONFIG_INVALID are settled in the step of the reset itself is its inference (log 6);
so is the model's choice that CONFIG_COMMIT_FAILED is clear after a failed load (log 44). -/
def Obligations.ResetsLoadImageAndCause : Prop :=
  (∀ s : State, ∃ t u : State, exec .powerOnReset s = .next t ∧ exec .externalReset s = .next u ∧
     t.cfs.resetCause = { present := false, firstCause := none, causes := [], latched := .none, mode := .locked,
                          commitInterrupted := false, count := 0 } ∧
     u.cfs.resetCause.present = true ∧ u.cfs.resetCause.firstCause = s.bks.demand.first ∧
     u.cfs.resetCause.causes = s.bks.demand.causes ∧ u.cfs.resetCause.latched = s.bks.demand.latched ∧
     u.cfs.resetCause.mode = s.rco.mode ∧ (u.cfs.resetCause.commitInterrupted = true ↔ s.cfs.commit = .writing) ∧
     (s.cfs.resetCause.count ≤ 255 → u.cfs.resetCause.count = min 255 (s.cfs.resetCause.count + 1))) ∧
  (∀ (s t : State) (c : Instr), c = .powerOnReset ∨ c = .externalReset → exec c s = .next t →
     t.cfs.stored = s.cfs.stored ∧
     (if s.cfs.commit = .writing then t.cfs.checkWord = none ∨ t.cfs.checkWord = some (imageCrc s.cfs.stored)
       else t.cfs.checkWord = s.cfs.checkWord) ∧ t.cfs.uncommitted = false ∧ t.cfs.commit = .idle ∧
     t.cfs.lastCommit = .none ∧
     (if t.cfs.checkWord = some (imageCrc s.cfs.stored) then
       match validate s.cfs.stored with
       | none =>
         t.cfs.tables = s.cfs.stored ∧ t.cfs.storedValid = true ∧ t.cfs.workingValid = true ∧ t.cfs.lastValidation = .pass ∧
           ∀ i, t.attention i = false
       | some (id, n) =>
         t.cfs.tables = Tables.empty ∧ t.cfs.storedValid = false ∧ t.cfs.workingValid = false ∧
           t.cfs.lastValidation = .failed id n ∧ ∀ i, t.attention i = true ↔ i = .configInvalid
     else
       t.cfs.tables = Tables.empty ∧ t.cfs.storedValid = false ∧ t.cfs.workingValid = false ∧
         t.cfs.lastValidation = .checkWord ∧ ∀ i, t.attention i = true ↔ i = .configInvalid))

/-- The end of the image load starts the sample timer, reads ESTOP and EBL, and evaluates the load flags: an active loop starts
its qualify timer, and a lifted emergency brake is an EB_FAULT (R9, R36, R106, R110, R156). That the Configuration Store does not
change here is the model's inference (log 6): the image is loaded in the step of the reset. -/
def Obligations.LoadEndStartsTheBlocks : Prop :=
  ∀ (s : State) (active risen : Bool), s.loading = true → ∃ t, exec (.imageLoadEnd active risen) s = .next t ∧
    t.loading = false ∧ t.cfs = s.cfs ∧ t.pc5 = s.pc5 ∧ t.pending = s.pending ∧
    t.msu = { s.msu with sampleTimer := some 10 } ∧
    t.bks.estop = { active := active, timer := if active then some s.line.estopQualify else none, qualified := false } ∧
    t.bks.eblRisen = risen ∧
    (∀ c, (t.load c).tally = (s.load c).tally ∧ (t.load c).weigh = (s.load c).weigh ∧
      (t.load c).overload = (match (s.load c).weigh with
        | some w => decide (s.line.ratedLoad < w)
        | none => decide (s.line.carCapacity < (s.load c).tally))) ∧
    (risen = true → t.attention .ebConfirm = true ∧ holdsCause t.bks.demand.causes .ebFault = true)

/-- During the image load no block operates: every command but the two resets, the end of the load and the edges of the two pins
changes nothing, and an edge changes the level of its pin alone (R9; log 3). -/
def Obligations.LoadHoldsEverythingElse : Prop :=
  ∀ (s : State) (c : Instr), s.loading = true →
    match c with
    | .powerOnReset => True
    | .externalReset => True
    | .imageLoadEnd _ _ => True
    | .estopFallingEdge => exec c s = .next (s.withBks { s.bks with estop := { s.bks.estop with active := true } })
    | .estopRisingEdge => exec c s = .next (s.withBks { s.bks with estop := { s.bks.estop with active := false } })
    | .eblRise => exec c s = .next (s.withBks { s.bks with eblRisen := true })
    | .eblFall => exec c s = .next (s.withBks { s.bks with eblRisen := false })
    | _ => exec c s = .next s

/-- Commit completion reads the stored image back: where its check word is the one written the commit succeeds, and where it is
not the commit fails, with CONFIG_COMMIT_FAILED set. Nothing else changes (R18; log 11 for what is read back). -/
def Obligations.CommitCompletionJudgesReadBack : Prop :=
  ∀ (s : State) (readBack : Option Tables), s.loading = false → s.cfs.commit = .writing → s.waits = true →
    exec (.commitCompletion readBack) s =
      .next (if imageCrc (readBack.getD s.cfs.stored) = imageCrc s.cfs.stored then
          (s.withCfs
            { s.cfs with
              stored := readBack.getD s.cfs.stored, checkWord := some (imageCrc s.cfs.stored), storedValid := true
              uncommitted := false, lastCommit := .ok, commit := .idle }).rested
        else
          ((s.withCfs
            { s.cfs with
              stored := readBack.getD s.cfs.stored, checkWord := none, storedValid := false
              uncommitted := true, lastCommit := .failed, commit := .idle }).setAttention .configCommitFailed).rested)

/-! ### Measurement and supervision -/

/-- A sample event restarts the sample timer and takes both reads: each channel as R38 to R41 say by its read, qualification by
the statuses (R42), the supervised speed and direction by the speeds (R43); a channel that has just failed is a MEASUREMENT (R40).
-/
def Obligations.SampleEventTakesBothReads : Prop :=
  ∀ (s : State) (r1 r2 : SensorRead), s.loading = false → s.msu.sampleTimer.isSome = true → s.msu.lawful = true →
    s.line.scale1 ≠ 0 → s.line.scale2 ≠ 0 →
    ∃ t, exec (.sampleEvent r1 r2) s = .next t ∧ t.msu.sampleTimer = some 10 ∧ t.cfs = s.cfs ∧ t.adu.load = s.adu.load ∧
      t.pc5 = s.pc5 ∧
      (if goodRead r1 then s.msu.ch1.tookGood t.msu.ch1 s.line.zero1 s.line.scale1 r1 else s.msu.ch1.tookBad t.msu.ch1) ∧
      (if goodRead r2 then s.msu.ch2.tookGood t.msu.ch2 s.line.zero2 s.line.scale2 r2 else s.msu.ch2.tookBad t.msu.ch2) ∧
      (t.msu.qualified = true ↔ t.msu.ch1.status = .good ∧ t.msu.ch2.status = .good) ∧
      (t.msu.ch1.position.isSome = true → t.msu.ch2.position.isSome = true →
        t.msu.vMeas = max t.msu.ch1.speed t.msu.ch2.speed ∧
          t.msu.motion = (if t.msu.ch1.speed < t.msu.ch2.speed then t.msu.ch2.dir else t.msu.ch1.dir)) ∧
      (∀ p1 p2 : Int, t.msu.ch1.position = some p1 → t.msu.ch2.position = some p2 →
        (t.msu.motion = some .up → t.msu.pSup = some (max p1 p2)) ∧
        (t.msu.motion = some .down → t.msu.pSup = some (min p1 p2)) ∧
        (t.msu.motion = none → s.rco.authority.state = .none → t.msu.pSup = some ((p1 + p2) / 2))) ∧
      ((t.msu.ch1.status = .failed ∧ s.msu.ch1.status ≠ .failed) ∨ (t.msu.ch2.status = .failed ∧ s.msu.ch2.status ≠ .failed) →
        t.attention .sensorFailed = true ∧ holdsCause t.bks.demand.causes .measurement = true)

/-- At each sample event the standstill timer is settled by the speeds, and the end of standstill confirmation takes every given
release away; while measurement is qualified the position disagreement flag is that of the positions, and its onset is a
POSITION_DISAGREE. Where both speeds are recomputed the speed disagreement count follows their comparison, and at 3 it is a
SPEED_DISAGREE; a channel with a good read is tested against the measurable range, and the onset of the flag is an OVERRUN (R45 to
R48, R131). -/
def Obligations.SampleEventSettlesStandstill : Prop :=
  ∀ (s : State) (r1 r2 : SensorRead), s.loading = false → s.msu.sampleTimer.isSome = true → s.msu.lawful = true →
    ∃ t, exec (.sampleEvent r1 r2) s = .next t ∧
      (if t.msu.qualified = true ∧ t.msu.ch1.speed ≤ 20 ∧ t.msu.ch2.speed ≤ 20 then
        t.msu.standstill = s.msu.standstill ∧
          t.msu.standstillTimer = (if s.msu.standstill = false ∧ s.msu.standstillTimer = none then some s.line.standstillTime
            else s.msu.standstillTimer)
      else
        t.msu.standstill = false ∧ t.msu.standstillTimer = none ∧
          (s.msu.standstill = true → ∀ c, (t.door c).given = false)) ∧
      (∀ p1 p2 : Int, t.msu.qualified = true → t.msu.ch1.position = some p1 → t.msu.ch2.position = some p2 →
        (t.msu.positionDisagree = true ↔ s.line.positionTolerance < ((p1 - p2).natAbs : Int)) ∧
          (t.msu.positionDisagree = true → s.msu.positionDisagree = false →
            t.attention .channelDisagree = true ∧ holdsCause t.bks.demand.causes .positionDisagree = true)) ∧
      (let apart : Prop := max 150 (max t.msu.ch1.speed t.msu.ch2.speed / 16) <
         max t.msu.ch1.speed t.msu.ch2.speed - min t.msu.ch1.speed t.msu.ch2.speed
       let compared : Prop := t.msu.qualified = true ∧ t.msu.ch1.recomputed = true ∧ t.msu.ch2.recomputed = true
       t.msu.speedDisagree = (if ¬compared then s.msu.speedDisagree else if apart then min 3 (s.msu.speedDisagree + 1) else 0) ∧
         (compared → apart → t.msu.speedDisagree = 3 →
           t.attention .channelDisagree = true ∧ ∃ e ∈ t.bks.demand.causes, e.cause = .speedDisagree ∧ 3 ≤ e.level.rank)) ∧
      (∀ x : SensorRead × Channel × Channel, x = (r1, s.msu.ch1, t.msu.ch1) ∨ x = (r2, s.msu.ch2, t.msu.ch2) →
        (goodRead x.1 = false → x.2.2.inRange = x.2.1.inRange) ∧
        (∀ p : Int, goodRead x.1 = true → x.2.2.position = some p →
          (x.2.2.inRange = true ↔ -s.line.overrun ≤ p ∧ p ≤ s.line.length + s.line.overrun))) ∧
      t.msu.outOfRange =
        (if (goodRead r1 = true ∧ t.msu.ch1.inRange = false) ∨ (goodRead r2 = true ∧ t.msu.ch2.inRange = false) then true
        else if (goodRead r1 = true ∨ goodRead r2 = true) ∧ t.msu.ch1.inRange = true ∧ t.msu.ch2.inRange = true then false
        else s.msu.outOfRange) ∧
      (t.msu.outOfRange = true → s.msu.outOfRange = false →
        t.attention .positionRange = true ∧ ∃ e ∈ t.bks.demand.causes, e.cause = .overrun ∧ 3 ≤ e.level.rank)

/-- The zone pointer is searched where it is UNSET, and in tables that pass validation it names the zone in which P_sup lies. The
supervision mode is that of the table of R81 wherever the sample event neither gives nor ends an authority. In CURVE mode the spanned
percent, a_zone, a_g, the target candidate, the zone candidates and the overrun flag follow from the supervised position, the authority,
the zone and the load snapshot, which stays; the permitted speed is the least of the target candidate, the zone candidates, the limit of
the current zone, v_line_max and the mode ceiling, the limiting term is the first of them that equals it, and the margins and the level
asked follow from it. In the other modes it is 0 with the least margins. An authority that is GRANTED or WITHDRAWN has it as its
ceiling, what overspeed asks and the onset of an overrun reach the brake demand record, and the excursion record is filled at a rise to
SERVICE or higher and keeps the greatest level and speed after it (R34, R57, R81, R82, R85 to R93, R96; log 50 for the zone that a
limiting term names where two candidates are equal). -/
def Obligations.SampleEventSetsThresholds : Prop :=
  ∀ (s : State) (r1 r2 : SensorRead), s.loading = false → s.msu.sampleTimer.isSome = true →
    ∃ t, exec (.sampleEvent r1 r2) s = .next t ∧
      (t.ssv.mode = .curve →
        t.ssv.mSb = max 200 (t.ssv.vPerm / 16) ∧ t.ssv.mEb = max 400 (t.ssv.vPerm / 8) ∧ t.ssv.vPerm ≤ s.line.vLineMax ∧
        ∃ v, t.ssv.target = some v ∧ t.ssv.vPerm ≤ v ∧ (∀ x ∈ t.ssv.zoneCandidates, t.ssv.vPerm ≤ x.2) ∧
          (∀ z, t.ssv.zone = some z →
            t.ssv.vPerm ≤ (s.zoneEntry z).limit ∧
            (t.rco.mode = s.rco.mode →
              (s.rco.mode = .recovery ∨ s.rco.mode = .maintenance → t.ssv.vPerm ≤ s.line.creep) ∧
              (if t.ssv.vPerm = v then t.ssv.term = .target
              else
                match t.ssv.zoneCandidates.find? (fun x => x.2 == t.ssv.vPerm) with
                | some x => t.ssv.term = .zoneStart x.1
                | none =>
                  if t.ssv.vPerm = (s.zoneEntry z).limit then t.ssv.term = .zoneLimit
                  else if t.ssv.vPerm = s.line.vLineMax then t.ssv.term = .line
                  else t.ssv.term = .ceiling ∧ t.ssv.vPerm = s.line.creep)))) ∧
      (t.ssv.mode ≠ .curve →
        t.ssv.vPerm = 0 ∧ t.ssv.term = .none ∧ t.ssv.mSb = 200 ∧ t.ssv.mEb = 400 ∧ t.ssv.overrunFlag = false) ∧
      (t.rco.authority.state = .granted ∨ t.rco.authority.state = .withdrawn → t.rco.authority.ceiling = t.ssv.vPerm) ∧
      t.ssv.asked =
        (if t.ssv.mode = .idle then .none
        else if t.ssv.vPerm + 2 * t.ssv.mEb < t.msu.vMeas ∨ s.line.vLineMax * 9 / 8 < t.msu.vMeas then .rail
        else if t.ssv.vPerm + t.ssv.mEb < t.msu.vMeas then .emergency
        else if t.ssv.vPerm + t.ssv.mSb < t.msu.vMeas then .service
        else if t.ssv.vPerm < t.msu.vMeas then .caution
        else .none) ∧
      (t.bks.demand.caution = true ↔ t.ssv.asked = .caution) ∧
      (t.ssv.asked.brakes = true → ∃ e ∈ t.bks.demand.causes, e.cause = .overspeed ∧ t.ssv.asked.rank ≤ e.level.rank) ∧
      (t.ssv.overrunFlag = true → s.ssv.overrunFlag = false →
        ∃ e ∈ t.bks.demand.causes, e.cause = .overrun ∧ 3 ≤ e.level.rank) ∧
      (t.msu.qualified = false → t.ssv.zone = s.ssv.zone) ∧
      (∀ p : Int, t.msu.qualified = true → t.msu.pSup = some p →
        (s.ssv.zone = none → p < 0 → t.ssv.zone = (if (s.zoneEntry 0).present then some 0 else none)) ∧
        (s.ssv.zone = none → 0 ≤ p →
          (∀ z, t.ssv.zone = some z → (s.zoneEntry z).present = true ∧ (s.zoneEntry z).start ≤ p ∧
            ∀ n, z < n → (s.zoneEntry n).present = true → p < (s.zoneEntry n).start) ∧
          (t.ssv.zone = none → ∀ n, (s.zoneEntry n).present = true → p < (s.zoneEntry n).start)) ∧
        (validate s.cfs.tables = none → (∀ z, s.ssv.zone = some z → (s.zoneEntry z).present = true) →
          ∃ z, t.ssv.zone = some z ∧ (s.zoneEntry z).present = true ∧ ((s.zoneEntry z).start ≤ p ∨ z = 0) ∧
            ∀ n, z < n → (s.zoneEntry n).present = true → p < (s.zoneEntry n).start)) ∧
      (t.ssv.asked.brakes = false → t.ssv.excursion = s.ssv.excursion) ∧
      (t.ssv.asked.brakes = true → s.ssv.asked.brakes = true →
        t.ssv.excursion = s.ssv.excursion.map fun e =>
          { e with
            greatestLevel := if e.greatestLevel.rank < t.ssv.asked.rank then t.ssv.asked else e.greatestLevel
            greatestV := max e.greatestV t.msu.vMeas }) ∧
      (t.ssv.asked.brakes = true → s.ssv.asked.brakes = false →
        ∃ e, t.ssv.excursion = some e ∧ e.mode = t.ssv.mode ∧ e.vMeas = t.msu.vMeas ∧ e.pSup = t.msu.pSup ∧
          e.motion = t.msu.motion ∧ e.vPerm = t.ssv.vPerm ∧ e.term = t.ssv.term ∧ e.aG = t.ssv.aG ∧ e.mSb = t.ssv.mSb ∧
          e.mEb = t.ssv.mEb ∧ e.asked = t.ssv.asked ∧ e.greatestLevel = t.ssv.asked ∧ e.greatestV = t.msu.vMeas ∧
          (t.rco.authority.state = s.rco.authority.state →
            e.authState = t.rco.authority.state ∧
              (t.rco.authority.state.running = true → e.targetPosition = t.rco.authority.targetPosition))) ∧
      (s.runLawful = true → t.rco.authority.state.running = s.rco.authority.state.running →
        t.ssv.mode =
          (if t.msu.supervised = false then .idle
          else if t.rco.authority.state.running = true then
            if t.msu.qualified = false then .idle
            else if 20 < t.msu.vMeas ∧ t.msu.motion.isSome = true ∧ t.msu.motion.map Dir.opposite = t.rco.authority.dir then .fixed
            else .curve
          else if 20 < t.msu.vMeas then .fixed
          else .idle)) ∧
      (s.runLawful = true → t.ssv.mode = .curve → t.rco.authority.state.running = true →
        t.ssv.snapshot = s.ssv.snapshot ∧
        (∀ (d : Dir) (p target : Int), t.rco.authority.dir = some d → t.msu.pSup = some p →
          t.rco.authority.targetPosition = some target →
          (t.ssv.overrunFlag = true ↔
            match d with
            | .up => target + s.line.overrun < p
            | .down => p < target - s.line.overrun)) ∧
        ∀ (d : Dir) (p target : Int) (z : Fin 16), t.rco.authority.dir = some d → t.msu.pSup = some p →
          t.rco.authority.targetPosition = some target → t.ssv.zone = some z →
          ∃ percent aZone aG : Nat, t.ssv.percent = some percent ∧ t.ssv.aZone = some aZone ∧ t.ssv.aG = some aG ∧
            (∀ q ∈ s.spannedZones d p target z, percent ≤ (s.zoneEntry q).percent) ∧
            (∃ q ∈ s.spannedZones d p target z, percent = (s.zoneEntry q).percent) ∧
            aZone = s.line.aBase * percent / 100 ∧
            (∀ x, s.ssv.snapshot = some x →
              let a : Int := (aZone : Int) - (s.line.cLoad * x.loadUnits : Nat)
              (aG : Int) = if a < s.line.aMin then (s.line.aMin : Int) else if s.line.aBase < a then (s.line.aBase : Int) else a) ∧
            t.ssv.target = some (targetCandidate s.line aG (match d with | .up => target - p | .down => p - target)) ∧
            ∀ (e : Fin 16) (v : Nat), (e, v) ∈ t.ssv.zoneCandidates ↔
              ∃ q ∈ s.spannedZones d p target z,
                (match d with
                  | .up => e = q ∧ q ≠ z ∧ p < (s.zoneEntry q).start ∧ (s.zoneEntry q).start < target
                  | .down => e.val + 1 = q.val ∧ target < (s.zoneEntry q).start ∧ (s.zoneEntry q).start ≤ p) ∧
                v = isqrt ((s.zoneEntry e).limit ^ 2 + 2 * aG * (p - (s.zoneEntry q).start).natAbs))

/-- The target candidate is the greatest speed from which a_g stops the line within the distance to go less the stop margin, and 0
where no distance is left (00 section 3.2, R87). -/
def Obligations.TargetCandidateIsGreatestSpeed : Prop :=
  ∀ (l : LineConsts) (aG : Nat) (toGo : Int),
    (toGo ≤ l.mStop → targetCandidate l aG toGo = 0) ∧
    (l.mStop < toGo → ((targetCandidate l aG toGo : Int)) ^ 2 ≤ 2 * aG * (toGo - l.mStop) ∧
      2 * (aG : Int) * (toGo - l.mStop) < ((targetCandidate l aG toGo : Int) + 1) ^ 2)

/-- The expiry of the standstill timer confirms standstill and cancels a check in progress. A run that stands at its target, a jog run
whose authority was withdrawn, and an arrested line that has run begin their stop sequence: step S1 waits for the service brake to be
confirmed, and completes at its start where SB-DMD stands asserted with SB confirmed, going on to S2 by EB-HOLD and EBL. A line
arrested with the brakes set settles at once (R48, R60, R61, R74, R109, R119, R120). Where the line would settle off every stop in
RECOVERY, and take the head of the queue, neither the settling nor EB-HOLD after it is stated. -/
def Obligations.StandstillExpiryConfirms : Prop :=
  ∀ s : State, s.loading = false → s.msu.standstillTimer.isSome = true → ∃ t, exec .standstillTimerExpiry s = .next t ∧
    t.msu = { s.msu with standstill := true, standstillTimer := none } ∧ t.cfs = s.cfs ∧ t.adu.load = s.adu.load ∧
    t.bks.esc = { s.bks.esc with stage := .none, timer := none } ∧
    (let settled : Prop :=
       t.rco.authority.state = .none ∧ t.rco.brakesSet = true ∧ t.rco.currentStop = s.windowTest ∧ t.rco.jogRun = false ∧
         t.rco.runState = (if s.windowTest.isSome then .atStop else .offStop)
     let stays : Prop := s.rco.mode ≠ .recovery ∨ s.windowTest.isSome = true
     ((s.rco.runState = .running ∧ s.rco.authority.state = .granted ∧
          (∃ k, s.rco.authority.targetStop = some k ∧ s.insideWindow k = true)) ∨
        (s.rco.runState = .running ∧ s.rco.authority.state = .withdrawn ∧ s.rco.jogRun = true) ∨
        (s.rco.runState = .arrested ∧ s.rco.brakesSet = false) →
        (s.bks.sbDmd = false ∨ s.bks.sbConfirmed = false →
          t.rco.runState = .stopping ∧ t.rco.jogTimer = none ∧ t.bks.slot = .stop .s1 ∧ t.bks.sbDmd = true ∧
            t.bks.sbConfirmed = false ∧ t.bks.stepTimer = some { which := .sbConfirm, remaining := 1000 }) ∧
        (s.bks.sbDmd = true → s.bks.sbConfirmed = true →
          t.bks.sbDmd = true ∧ t.rco.jogTimer = none ∧
          (s.bks.ebHold = true → s.line.stopEbDelay ≠ 0 →
            t.rco.runState = .stopping ∧ t.bks.slot = .stop .s2 ∧ t.bks.ebHold = true ∧
              t.bks.stepTimer = some { which := .stopEbDelay, remaining := s.line.stopEbDelay }) ∧
          (s.bks.ebHold = false ∨ s.line.stopEbDelay = 0 →
            (s.bks.eblRisen = true →
              t.rco.runState = .stopping ∧ t.bks.slot = .stop .s2 ∧ t.bks.ebHold = false ∧
                t.bks.stepTimer = some { which := .ebDrop, remaining := 1000 }) ∧
            (s.bks.eblRisen = false → stays →
              t.bks.slot = .idle ∧ t.bks.ebHold = false ∧ t.bks.lastStop = .completed ∧ settled)))) ∧
     (s.rco.runState = .arrested → s.rco.brakesSet = true → s.rco.authority.state = .none → stays →
       t.bks = { s.bks with esc := t.bks.esc } ∧ settled))

/-- A datum event compares each channel on its own: skipped with an empty ring or FAILED, corrected with its whole ring within the
datum tolerance, mismatched beyond it; the entry's record counts the edge. An absent entry changes nothing (R6, R49, R50). -/
def Obligations.DatumEventJudgesChannels : Prop :=
  ∀ (s : State) (n : Fin 4), s.loading = false → ∃ t, exec (.datumEvent n) s = .next t ∧
    ((s.datumEntry n).present = false → t.msu = s.msu ∧ (s.waits = true → t = s.rested)) ∧
    ((s.datumEntry n).present = true →
      (∀ x : Channel × Channel, x = (s.msu.ch1, t.msu.ch1) ∨ x = (s.msu.ch2, t.msu.ch2) →
        (x.1.status = .failed ∨ x.1.ring = [] → x.2 = { x.1 with lastDatum := .skipped }) ∧
        (∀ p : Int, x.1.status ≠ .failed → x.1.ring ≠ [] → x.1.position = some p →
          (((s.datumEntry n).position - p).natAbs ≤ s.line.datumTolerance →
            x.2 = { x.1 with
                    offset := x.1.offset + ((s.datumEntry n).position - p), position := some (s.datumEntry n).position
                    ring := x.1.ring.map (fun e => { e with position := e.position + ((s.datumEntry n).position - p) })
                    resynced := true, lastDatum := .corrected ((s.datumEntry n).position - p) }) ∧
          (s.line.datumTolerance < ((s.datumEntry n).position - p).natAbs →
            x.2 = { x.1 with resynced := false, lastDatum := .mismatch ((s.datumEntry n).position - p) } ∧
              t.attention .datumFault = true ∧ holdsCause t.bks.demand.causes .datumMismatch = true))) ∧
      (t.msu.datums.get n).edges = satInc 255 (s.msu.datums.get n).edges ∧
      (t.msu.datums.get n).outcome1 = t.msu.ch1.lastDatum ∧ (t.msu.datums.get n).outcome2 = t.msu.ch2.lastDatum)

/-! ### Brakes -/

/-- A BRAKE cause handed stands in the set, the latched level is at least its own, and what R100 does follows: the service brake
is demanded, and from EMERGENCY on EB-HOLD is de-energized. The console STOP is such a cause in every mode and state (R99, R100,
R102). -/
def Obligations.StopLatchesEmergency : Prop :=
  ∀ s : State, s.takesNow .con = true → s.brakesLawful = true → ∃ t, exec .stop s = .next t ∧
    (∃ e ∈ t.bks.demand.causes, e.cause = .console ∧ 3 ≤ e.level.rank) ∧ 3 ≤ t.bks.demand.latched.rank ∧
    t.bks.sbDmd = true ∧ t.bks.ebHold = false ∧ t.bks.slot.isDeparture = false ∧
    (s.bks.demand.latched = .none → t.attention .brakeLatched = true ∧ (∀ p, (t.session p).isOpen = false) ∧
      t.bks.demand.first = some .console ∧ t.rco.authority.state ≠ .granted) ∧
    t.cfs = s.cfs ∧ t.msu = s.msu ∧ t.adu.load = s.adu.load ∧
    t.ports.con.tx = s.ports.con.tx ++ [resultTelegram .accepted t.attentionSummary 6 []]

/-- A BRAKE RESET is refused in the order of its three tests; taken, it empties the cause set and returns the escalation record,
and moves no output (R111). A SERVICE line at rest goes to RECOVERY where it is off every stop or the set held a position cause
(R30). The queue is empty or the mode is not SERVICE, so that no head is taken (R68). -/
def Obligations.BrakeResetClearsTheRecord : Prop :=
  ∀ s : State, s.takesNow .con = true →
    (s.waits = true →
      (s.msu.standstill = false → exec .brakeReset s = .next (s.concluded .refusedState 7 [1])) ∧
      (s.msu.standstill = true → s.bks.slot ≠ .idle → exec .brakeReset s = .next (s.concluded .refusedState 7 [2])) ∧
      (∀ c, s.msu.standstill = true → s.bks.slot = .idle → s.firstPresent = some c →
        exec .brakeReset s = .next (s.concluded .refusedState 7 [3, byte c.position]))) ∧
    (s.msu.standstill = true → s.bks.slot = .idle → s.firstPresent = none → s.rco.runState ≠ .closing →
      s.rco.queue = [] ∨ s.rco.mode ≠ .service →
      ∃ t, exec .brakeReset s = .next t ∧
        t.bks = { s.bks with
                  demand := { causes := [], latched := .none, first := none, caution := s.bks.demand.caution
                              current := if s.bks.demand.caution then .caution else .none }
                  esc := { stage := .none, vEntry := 0, checkSpeed := 0, timer := none, last := .none } } ∧
        t.rco = (if s.rco.mode = .service ∧ (s.rco.runState = .atStop ∨ s.rco.runState = .offStop) ∧
            (s.windowTest = none ∨ holdsCause s.bks.demand.causes .positionDisagree = true ∨
              holdsCause s.bks.demand.causes .datumMismatch = true) then
            { s.rco with
              mode := .recovery, firstFailing := none
              modeChange := { previous := .service, new := .recovery, cause := .brakeReset, cancelled := [] } }
          else { s.rco with firstFailing := none }) ∧
        t.cfs = s.cfs ∧ t.msu = s.msu ∧ t.dou = s.dou ∧ t.adu = s.adu ∧ t.att = s.att ∧
        t.ports.con.tx = s.ports.con.tx ++ [resultTelegram .accepted s.attentionSummary 7 []])

/-- An opening of the ESTOP loop starts the qualify timer, and a running one goes on; its closing cancels the timer and ends the
qualification. An opening that lasts the qualify time is an ESTOP at EMERGENCY, and aborts a departure as ESTOP (R110, R117). -/
def Obligations.EstopLoopQualifies : Prop :=
  (∀ s : State, s.loading = false →
     (s.waits = true → exec .estopFallingEdge s =
       .next (s.withBks { s.bks with
         estop := { s.bks.estop with
                    active := true
                    timer := (if s.bks.estop.timer.isSome then s.bks.estop.timer else some s.line.estopQualify) } }).rested) ∧
     ((s.withBks { s.bks with estop := { active := false, timer := none, qualified := false } }).waits = true →
       exec .estopRisingEdge s =
         .next (s.withBks { s.bks with estop := { active := false, timer := none, qualified := false } }).rested)) ∧
  (∀ s : State, s.loading = false → s.bks.estop.timer.isSome = true → s.brakesLawful = true →
     ∃ t, exec .estopQualifyExpiry s = .next t ∧
       t.bks.estop = { s.bks.estop with timer := none, qualified := true } ∧ t.attention .estopActive = true ∧
       (∃ e ∈ t.bks.demand.causes, e.cause = .estop ∧ 3 ≤ e.level.rank) ∧ 3 ≤ t.bks.demand.latched.rank ∧
       t.bks.sbDmd = true ∧ t.bks.ebHold = false ∧
       (∀ step, s.bks.slot = .departure step →
         t.bks.lastDeparture = .aborted .estop step ∧ t.attention .departureAborted = true ∧ t.rco.authority.state = .none) ∧
       t.cfs = s.cfs ∧ t.msu = s.msu ∧ t.adu.load = s.adu.load)

/-- The edges of EBL, row by row (R106): the rise that D2 waits for starts the settle, a rise with EB-HOLD de-energized and a fall
of a proved lift are EB_FAULTs, and the remaining edges change the level alone. -/
def Obligations.EblEdgesAct : Prop :=
  ∀ s : State, s.loading = false →
    (s.bks.ebHold = true → s.bks.slot = .departure .d2 → s.stepTimerIs .ebLift = true → s.waits = true →
      exec .eblRise s = .next (s.withBks { s.bks with
        eblRisen := true, ebProved := true, stepTimer := some { which := .ebSettle, remaining := 500 } }).rested) ∧
    (s.bks.ebHold = true → ¬(s.bks.slot = .departure .d2 ∧ s.stepTimerIs .ebLift = true) → s.waits = true →
      exec .eblRise s = .next (s.withBks { s.bks with eblRisen := true }).rested) ∧
    (s.bks.ebHold = false → ∃ t, exec .eblRise s = .next t ∧ t.bks.eblRisen = true ∧ t.attention .ebConfirm = true ∧
      holdsCause t.bks.demand.causes .ebFault = true ∧ t.bks.ebHold = false ∧ t.msu = s.msu ∧ t.cfs = s.cfs) ∧
    (s.bks.ebHold = true → s.bks.ebProved = true → s.brakesLawful = true → ∃ t, exec .eblFall s = .next t ∧
      t.bks.eblRisen = false ∧ t.attention .ebConfirm = true ∧ holdsCause t.bks.demand.causes .ebFault = true ∧
      t.bks.ebHold = false ∧ t.bks.sbDmd = true) ∧
    (s.bks.ebHold = true → s.bks.ebProved = false → s.waits = true →
      exec .eblFall s = .next (s.withBks { s.bks with eblRisen := false }).rested) ∧
    (s.bks.ebHold = false → s.bks.slot = .stop .s2 → s.stepTimerIs .ebDrop = true → ∃ t, exec .eblFall s = .next t ∧
      t.bks.eblRisen = false ∧ t.bks.lastStop = stopOutcome s.bks.faults ∧ t.msu = s.msu ∧ t.cfs = s.cfs ∧
      t.adu.load = s.adu.load) ∧
    (s.bks.ebHold = false → ¬(s.bks.slot = .stop .s2 ∧ s.stepTimerIs .ebDrop = true) → s.waits = true →
      exec .eblFall s = .next (s.withBks { s.bks with eblRisen := false }).rested)

/-- The escalation timer: at or below the check speed the check passes and nothing else changes; above it BRAKE_ESCALATED is set
and DECEL_SHORT raised, to EMERGENCY from the SB check, which starts the EB check at once, and to RAIL from the EB check, which ends
the stage (R108). -/
def Obligations.EscalationComparesSpeed : Prop :=
  ∀ s : State, s.loading = false → s.bks.esc.timer.isSome = true →
    (s.msu.vMeas ≤ s.bks.esc.checkSpeed → s.waits = true →
      exec .escalationTimerExpiry s =
        .next (s.withBks { s.bks with
          esc := { s.bks.esc with stage := .none, timer := none, last := .passed s.bks.esc.stage } }).rested) ∧
    (s.bks.esc.checkSpeed < s.msu.vMeas → ∃ t, exec .escalationTimerExpiry s = .next t ∧
      t.bks.esc.last = .failed s.bks.esc.stage ∧ t.attention .brakeEscalated = true ∧
      (∃ e ∈ t.bks.demand.causes, e.cause = .decelShort ∧ (if s.bks.esc.stage = .ebCheck then 4 else 3) ≤ e.level.rank) ∧
      (if s.bks.esc.stage = .ebCheck then 4 else 3) ≤ t.bks.demand.latched.rank ∧
      (s.bks.esc.stage = .ebCheck → t.bks.esc.stage = .none ∧
        (s.bks.demand.latched.rank < 4 → ∀ c, (t.door c).railOrder = .apply)) ∧
      (s.bks.esc.stage = .sbCheck → s.msu.standstill = false → s.bks.demand.latched.rank < 3 →
        (∀ e ∈ s.bks.demand.causes, e.level.rank < 3) →
        t.bks.esc.stage = .ebCheck ∧ t.bks.esc.vEntry = s.msu.vMeas ∧ t.bks.esc.timer = some s.line.tEb) ∧
      t.msu = s.msu ∧ t.cfs = s.cfs ∧ t.adu.load = s.adu.load)

/-- The expiry of the timer of a departure step aborts the departure with STEP_TIMEOUT at that step: both rope brakes are on, the
authority is NONE, the abort is counted and the third takes the line to STANDBY (R29, R73, R113 to R118). The line is outside
RECOVERY, where the settling of the abort may begin CLOSING afresh. -/
def Obligations.StepTimeoutAbortsDeparture : Prop :=
  ∀ (s : State) (c : Instr) (which : StepTimer) (step : DepStep),
    ((c, which, step) = (.railConfirmExpiry, .railConfirm, .d1) ∨ (c, which, step) = (.ebLiftConfirmExpiry, .ebLift, .d2) ∨
      (c, which, step) = (.torqueProveExpiry, .torqueProve, .d3) ∨ (c, which, step) = (.sbLiftConfirmExpiry, .sbLift, .d4)) →
    s.loading = false → s.bks.slot = .departure step → s.stepTimerIs which = true → s.rco.mode ≠ .recovery →
    ∃ t, exec c s = .next t ∧ t.bks.slot = .idle ∧ t.bks.stepTimer = none ∧ t.bks.lastDeparture = .aborted .stepTimeout step ∧
      t.bks.sbDmd = true ∧ t.bks.ebHold = false ∧ t.bks.ebProved = false ∧ t.bks.demand = s.bks.demand ∧
      t.attention .departureAborted = true ∧ t.rco.authority.state = .none ∧ t.rco.brakesSet = true ∧ t.rco.jogRun = false ∧
      t.rco.tripInHand = none ∧ t.ssv = s.ssv ∧ t.msu = s.msu ∧ t.cfs = s.cfs ∧ t.adu.load = s.adu.load ∧
      (∀ c, (t.door c).railOrder = (s.door c).railOrder) ∧
      (s.msu.standstill = false → t.rco.runState = .arrested) ∧
      (s.rco.abortCount < 2 → t.rco.abortCount = s.rco.abortCount + 1 ∧ t.rco.mode = s.rco.mode) ∧
      (2 ≤ s.rco.abortCount → t.rco.abortCount = 0 ∧ t.rco.mode = .standby ∧ t.rco.modeChange.cause = .abortLimit ∧
        t.rco.queue = [] ∧ t.attention .abortLimit = true)

/-- The steps of a departure: a CAR REPORT that shows both rail brakes LIFTED completes D1, and D2 energizes EB-HOLD and awaits the
lift, or is an EB_FAULT that aborts the departure where EBL reads risen; any other rail condition leaves D1 waiting. The end of the
settle time completes D2, the authority becomes PROVE and every given release is withdrawn; TORQUE_PROVED ends D3 and releases the
service brake; LIFTED ends D4, with the grant where both releases are NONE and both cars are CLOSED_LOCKED, and with a RELEASE_HELD
abort elsewhere (R72, R113 to R117, R131, R147). -/
def Obligations.DepartureStepsProceed : Prop :=
  (∀ (s : State) (c : Car) (rail : Byte), s.takesNow c.port = true → s.rco.runState = .departing → s.bks.slot = .departure .d1 →
     s.bks.demand.latched = .none → (s.door c).release = .none →
     ∃ t, exec (.carReport c 1 0 rail 0 0 0) s = .next t ∧ t.msu = s.msu ∧ t.cfs = s.cfs ∧
       (rail = 1 → (∀ e, e ≠ c → (s.door e).rail = .lifted) →
         (s.bks.eblRisen = false →
           t.bks = { s.bks with
             slot := .departure .d2, ebHold := true, stepTimer := some { which := .ebLift, remaining := 2000 } } ∧
           t.rco.runState = .departing ∧ t.rco.authority = s.rco.authority) ∧
         (s.bks.eblRisen = true →
           t.bks.slot = .idle ∧ t.bks.ebHold = false ∧ t.bks.sbDmd = true ∧ t.bks.lastDeparture = .aborted .latch .d2 ∧
             t.attention .ebConfirm = true ∧ t.rco.authority.state = .none ∧
             ∃ e ∈ t.bks.demand.causes, e.cause = .ebFault ∧ 3 ≤ e.level.rank)) ∧
       (rail ≠ 1 ∨ (∃ e, e ≠ c ∧ (s.door e).rail ≠ .lifted) →
         t.bks = s.bks ∧ t.rco.runState = .departing ∧ t.rco.authority = s.rco.authority)) ∧
  (∀ s : State, s.loading = false → s.bks.slot = .departure .d2 → s.stepTimerIs .ebSettle = true → s.rco.runState = .departing →
     ∃ t, exec .ebSettleExpiry s = .next t ∧ t.rco.authority = { s.rco.authority with state := .prove } ∧
       t.bks = { s.bks with slot := .departure .d3, stepTimer := some { which := .torqueProve, remaining := 3000 } } ∧
       t.rco.runState = .departing ∧ t.msu = s.msu ∧ t.cfs = s.cfs ∧ t.ssv = s.ssv ∧ t.adu.load = s.adu.load ∧
       ∀ c, (t.door c).given = false ∧ ((s.door c).given = true → (t.door c).release = .withdrawing ∧ (t.door c).lastWithdrawal = .prove)) ∧
  (∀ (s : State) (sb : Byte), s.takesNow .drv = true → s.rco.runState = .departing →
     (s.bks.slot = .departure .d3 → ∃ t, exec (.driveReport 2 sb) s = .next t ∧
       t.bks.slot = .departure .d4 ∧ t.bks.sbDmd = false ∧ t.bks.sbConfirmed = false ∧ t.bks.ebHold = s.bks.ebHold ∧
       t.bks.stepTimer = some { which := .sbLift, remaining := 1000 } ∧ t.rco.authority = s.rco.authority) ∧
     (∀ state : Byte, s.bks.slot = .departure .d4 → state.toNat < 4 → s.lawHolds = true →
       ∃ t, exec (.driveReport state 1) s = .next t ∧ t.rco.authority = { s.rco.authority with state := .granted } ∧
         t.rco.runState = .running ∧ t.bks.slot = .idle ∧ t.bks.stepTimer = none ∧ t.bks.lastDeparture = .completed ∧
         t.bks.sbDmd = s.bks.sbDmd ∧ t.bks.ebHold = s.bks.ebHold ∧ t.rco.abortCount = 0 ∧
         t.rco.jogTimer = (if s.rco.jogRun then some 400 else s.rco.jogTimer) ∧
         ∀ p, (t.session p).served = none ∧ (t.session p).stop = none) ∧
     (∀ state : Byte, s.bks.slot = .departure .d4 → state.toNat < 4 → s.lawHolds = false → s.rco.mode ≠ .recovery →
       ∃ t, exec (.driveReport state 1) s = .next t ∧ t.bks.lastDeparture = .aborted .releaseHeld .d4 ∧ t.bks.slot = .idle ∧
         t.bks.sbDmd = true ∧ t.bks.ebHold = false ∧ t.rco.authority.state = .none))

/-- A drive that does not confirm its service brake in S1, and an emergency brake that is not seen to fall in S2, are EB_FAULTs,
each listed with the stop sequence, which goes on to S2 or completes (R119, R120). -/
def Obligations.UnconfirmedBrakesAreListed : Prop :=
  (∀ s : State, s.loading = false → s.stepTimerIs .sbConfirm = true → s.brakesLawful = true →
     ∃ t, exec .sbConfirmExpiry s = .next t ∧ t.attention .sbConfirm = true ∧
       (∃ e ∈ t.bks.demand.causes, e.cause = .ebFault ∧ 3 ≤ e.level.rank) ∧ t.bks.ebHold = false ∧ t.bks.sbDmd = true ∧
       (s.bks.eblRisen = true → t.bks.slot = .stop .s2 ∧ t.bks.faults = s.bks.faults ++ [.sbUnconfirmed] ∧
         t.bks.stepTimer = some { which := .ebDrop, remaining := 1000 } ∧ t.rco.runState = .stopping) ∧
       (s.bks.eblRisen = false → t.bks.slot = .idle ∧ t.bks.lastStop = .completedWithFault (s.bks.faults ++ [.sbUnconfirmed])) ∧
       t.msu = s.msu ∧ t.cfs = s.cfs ∧ t.adu.load = s.adu.load) ∧
  (∀ s : State, s.loading = false → s.stepTimerIs .ebDrop = true → s.brakesLawful = true → s.bks.ebHold = false →
     ∃ t, exec .ebDropConfirmExpiry s = .next t ∧ t.attention .ebConfirm = true ∧
       holdsCause t.bks.demand.causes .ebFault = true ∧ t.bks.slot = .idle ∧
       t.bks.lastStop = .completedWithFault (s.bks.faults ++ [.ebUnconfirmed]) ∧ t.rco.authority.state = .none ∧
       t.bks.ebHold = false ∧ t.bks.sbDmd = true ∧ t.msu = s.msu ∧ t.cfs = s.cfs ∧ t.adu.load = s.adu.load)

/-- The end of the delay of S2 de-energizes EB-HOLD: a risen EBL is awaited for 1,000 ms, and a fallen one completes the sequence,
which settles the line AT_STOP or OFF_STOP with authority NONE. A line that settles AT_STOP in RECOVERY returns to SERVICE where
measurement is qualified and both channels are resynced within the position tolerance; in SERVICE and RECOVERY a stop starts the dwell
and a platform release is asked for each car (R31, R61, R120, R126). Where the line would settle off every stop in RECOVERY, and take
the head of the queue, nothing is said. -/
def Obligations.StopDelayEndDropsEmergencyBrake : Prop :=
  ∀ s : State, s.loading = false → s.stepTimerIs .stopEbDelay = true → s.bks.slot = .stop .s2 → s.bks.ebHold = true →
    (s.bks.eblRisen = true → s.waits = true → exec .stopEbDelayEnd s =
      .next (s.withBks { s.bks with
        ebHold := false, ebProved := false, stepTimer := some { which := .ebDrop, remaining := 1000 } }).rested) ∧
    (s.bks.eblRisen = false → s.rco.mode ≠ .recovery ∨ s.windowTest.isSome = true → ∃ t, exec .stopEbDelayEnd s = .next t ∧
      t.bks.ebHold = false ∧ t.bks.ebProved = false ∧ t.bks.slot = .idle ∧ t.bks.stepTimer = none ∧
      t.bks.lastStop = (match s.bks.faults with | [] => .completed | f :: rest => .completedWithFault (f :: rest)) ∧
      t.rco.authority.state = .none ∧ t.rco.brakesSet = true ∧ t.rco.currentStop = s.windowTest ∧
      t.rco.runState = (if s.windowTest.isSome then .atStop else .offStop) ∧ t.rco.jogRun = false ∧ t.rco.tripInHand = none ∧
      t.msu = s.msu ∧ t.cfs = s.cfs ∧ t.adu.load = s.adu.load ∧ t.bks.demand = s.bks.demand ∧
      (let resynced : Prop := s.msu.qualified = true ∧ s.msu.ch1.resynced = true ∧ s.msu.ch2.resynced = true ∧
         ∃ p1, s.msu.ch1.position = some p1 ∧
           ∃ p2, s.msu.ch2.position = some p2 ∧ ((p1 - p2).natAbs : Int) ≤ s.line.positionTolerance
       (s.rco.mode = .recovery → resynced → t.rco.mode = .service ∧
         t.rco.modeChange = { previous := .recovery, new := .service, cause := .resync, cancelled := [] }) ∧
       (s.rco.mode ≠ .recovery ∨ ¬resynced → t.rco.mode = s.rco.mode ∧ t.rco.modeChange = s.rco.modeChange)) ∧
      (∀ k, s.windowTest = some k → s.rco.mode = .service ∨ s.rco.mode = .recovery →
        t.rco.dwellTimer = some (1000 * s.line.dwellMin) ∧ t.rco.dwellElapsed = false ∧
        ∀ c, t.door c =
          ((s.withBks { s.bks with slot := .idle }).withRco { s.rco with authority := Authority.reset }).doorAfterAsk k c) ∧
      (s.rco.mode ≠ .service → s.rco.mode ≠ .recovery → t.dou = s.dou))

/-! ### Runs, doors and gates: the timers -/

/-- The expiry of the dwell timer at a stop: with a request for another stop queued, in SERVICE or RECOVERY, the head becomes the
trip in hand, CLOSING begins, every session closes and every given platform release is withdrawn, CLOSING waiting for a readiness
that failed already; else the dwell has elapsed and nothing more (R67 to R69, R129, R146). -/
def Obligations.DwellExpiryTakesHead : Prop :=
  ∀ s : State, s.loading = false → s.rco.dwellTimer.isSome = true → s.rco.runState = .atStop →
    (∀ (head : Trip) (rest : List Trip), (s.rco.mode = .service ∨ s.rco.mode = .recovery) → s.readiness.isSome = true →
      s.rco.queue.dropWhile (fun q => s.rco.currentStop == some q.target) = head :: rest →
      ∃ t, exec .dwellTimerExpiry s = .next t ∧ t.rco.runState = .closing ∧ t.rco.tripInHand = some head ∧ t.rco.queue = rest ∧
        t.rco.dwellTimer = none ∧ t.rco.firstFailing.isSome = true ∧ (∀ p, (t.session p).isOpen = false) ∧
        (∀ c, (s.door c).given = true → (s.door c).isPlatform = true →
          (t.door c).release = .withdrawing ∧ (t.door c).token = 0 ∧ (t.door c).lastWithdrawal = .closing ∧
            (t.door c).closeTimer = some (1000 * s.line.closeTimeout)) ∧
        t.bks = s.bks ∧ t.ssv = s.ssv ∧ t.msu = s.msu ∧ t.cfs = s.cfs ∧ t.adu.load = s.adu.load ∧
        t.rco.authority = s.rco.authority ∧ t.rco.mode = s.rco.mode) ∧
    (s.rco.queue = [] ∨ (s.rco.mode ≠ .service ∧ s.rco.mode ≠ .recovery) →
      exec .dwellTimerExpiry s = .next (s.withRco { s.rco with dwellTimer := none, dwellElapsed := true }).rested)

/-- The expiry of the jog hold timer withdraws a granted authority: the target position becomes the withdrawal point where that
lies short of the target stop, and a line in motion runs on toward it (R78). -/
def Obligations.JogHoldExpiryWithdraws : Prop :=
  ∀ (s : State) (dir : Dir) (aG : Nat) (p : Int) (k : Fin 6), s.loading = false → s.rco.jogTimer.isSome = true →
    s.rco.authority.state = .granted → s.rco.authority.dir = some dir → s.rco.authority.targetStop = some k →
    s.ssv.aG = some aG → 0 < aG → s.msu.pSup = some p → s.msu.standstill = false → s.rco.runState ≠ .closing →
    ∃ t, exec .jogHoldExpiry s = .next t ∧ t.rco.jogTimer = none ∧ t.rco.authority.state = .withdrawn ∧
      t.rco.authority.targetStop = some k ∧ t.rco.authority.dir = some dir ∧ t.rco.runState = s.rco.runState ∧
      (let d : Int := (((s.msu.vMeas * s.msu.vMeas + (2 * aG - 1)) / (2 * aG) : Nat) : Int) + s.line.mStop
       match dir with
       | .up => t.rco.authority.withdrawalPoint = some (p + d) ∧
           t.rco.authority.targetPosition = some (min (p + d) (s.stopEntry k).position)
       | .down => t.rco.authority.withdrawalPoint = some (p - d) ∧
           t.rco.authority.targetPosition = some (max (p - d) (s.stopEntry k).position)) ∧
      t.bks = s.bks ∧ t.ssv = s.ssv ∧ t.msu = s.msu ∧ t.dou = s.dou ∧ t.adu = s.adu ∧ t.att = s.att ∧ t.cfs = s.cfs

/-- The door timers: an acknowledgement that does not come withdraws the release as ACK_LATE, and a close that does not come is
overdue while the release stays WITHDRAWING (R127, R130). -/
def Obligations.DoorTimersAct : Prop :=
  ∀ (s : State) (c : Car), s.loading = false →
    ((s.door c).ackTimer.isSome = true → ∃ t, exec (.ackTimerExpiry c) s = .next t ∧
      t.door c = { s.door c with
        token := 0, release := .withdrawing, ackTimer := none, closeTimer := some (1000 * s.line.closeTimeout), overdue := false
        lastWithdrawal := .ackLate } ∧
      (∀ e, e ≠ c → t.door e = s.door e) ∧ t.attention .doorAckLate = true ∧ t.bks = s.bks ∧ t.msu = s.msu ∧ t.cfs = s.cfs ∧
      t.adu.load = s.adu.load ∧ (∀ p, (s.door c).isPlatform = true → (s.session p).served = some c → (t.session p).isOpen = false)) ∧
    ((s.door c).closeTimer.isSome = true → s.waits = true → exec (.closeTimerExpiry c) s =
      .next ((s.withDoor c { s.door c with closeTimer := none, overdue := true }).setAttention .doorCloseOverdue).rested)

/-- A reservation that expires is returned with a CANCEL notice (R151). The end of the exit quiet time lets the policy be looked
up anew: a gate alone in the waiting list is granted its reservation where the policy then allows (R148, R150, R153). With no gate
waiting only the timer's own effect is left. -/
def Obligations.AdmissionTimersAct : Prop :=
  (∀ (s : State) (g : Fin 16), s.loading = false → (s.gate g).timer.isSome = true →
     (s.session (s.gateEntry g).platform).waiting = [] → s.waits = true →
     exec (.reservationTimerExpiry g) s =
       .next (handNotice
         ((s.withSession (s.gateEntry g).platform
           { s.session (s.gateEntry g).platform with
             reservations := (s.session (s.gateEntry g).platform).reservations - 1 }).withGate g
           { s.gate g with state := .idle, timer := none })
         (.gate { gate := g, answer := .cancelled, reason := .none })).rested) ∧
  (∀ (s : State) (p : Fin 8), s.loading = false → (s.session p).quietTimer.isSome = true → s.waits = true →
     ((s.session p).waiting = [] →
       exec (.exitQuietTimerExpiry p) s = .next (s.withSession p { s.session p with quietTimer := none }).rested) ∧
     (∀ g : Fin 16, (s.session p).waiting = [g] →
       (s.platformEntry p).policy.getLsbD (4 * (s.session p).isOpen.toNat + 2 * (s.placesLeft p).toNat + 1) = true →
       exec (.exitQuietTimerExpiry p) s =
         .next (handNotice
           ((s.withSession p
             { s.session p with
               quietTimer := none, waiting := [], reservations := (s.session p).reservations + 1 }).withGate g
             { s.gate g with
               state := .reserved, admissions := satInc 255 (s.gate g).admissions
               timer := some (1000 * s.line.reservationTimeout) })
           (.gate { gate := g, answer := .admitted, reason := .none })).rested))

/-- A grant chooses, among the gates of a waiting list, one with the fewest admissions, and of those the lowest number (R150). -/
def Obligations.GrantChoosesFewestAdmissions : Prop :=
  ∀ (s : State) (l : List (Fin 16)), l ≠ [] → ∃ g ∈ l, s.chosen l = some g ∧
    ∀ h ∈ l, (s.gate g).admissions < (s.gate h).admissions ∨
      ((s.gate g).admissions = (s.gate h).admissions ∧ g ≤ h)

/-! ### Ports -/

/-- A request that is taken is answered by exactly one reply in the same event, at the end of what the transmit queue held, and
nothing is left half decided (R164). One that cannot be taken waits at the tail of its receive queue, and one that finds four
waiting is dropped, counted and marked RX_OVERRUN, with no other change (R163). A row of the table that stands for a request does not
restart the silence timer, which RECEIVE_FRAME has done: that is the model's choice (log 1). -/
def Obligations.RequestGetsOneReply : Prop :=
  (∀ (s : State) (c : Instr) (i : PortId) (r : Request), c.request = some (i, r) → s.takesNow i = true →
     ∃ t e, exec c s = .next t ∧ t.settled = true ∧ (t.port i).rx = [] ∧ (t.port i).tx[(s.port i).tx.length]? = some e ∧
       e.isNotice = false ∧
       (t.port i).tx.filter (fun x => !x.isNotice) = (s.port i).tx.filter (fun x => !x.isNotice) ++ [e] ∧
       (∀ j, j ≠ i → (t.port j).tx.filter (fun x => !x.isNotice) = (s.port j).tx.filter (fun x => !x.isNotice)) ∧
       t.pending = s.pending) ∧
  (∀ (s : State) (c : Instr) (i : PortId) (r : Request), c.request = some (i, r) → s.loading = false →
     ((s.port i).rx.length < 4 → (s.port i).mayTake = false →
       exec c s = .next (s.withPort i { s.port i with rx := (s.port i).rx ++ [r] })) ∧
     (4 ≤ (s.port i).rx.length →
       exec c s = .next ((s.withPort i { s.port i with overrun := satInc 255 (s.port i).overrun }).setAttention .rxOverrun)))

/-- A frame whose check word is good and whose telegram is valid is heard, and then acts as its request: the silence timer starts
afresh, the link is ALIVE, and the row of the request follows on that state. Its event completes, and where the port takes requests at
once the reply stands at the end of what the transmit queue held; a telegram that finds the port unable to take it waits in the receive
queue, and one that finds four waiting is dropped into the overrun counter (R161, R163, R164, R167, R173, R174). -/
def Obligations.ReceivedFrameActsAsItsRequest : Prop :=
  ∀ (s : State) (c : Instr) (i : PortId) (r : Request) (addr kind : Byte) (payload : List Byte), s.loading = false →
    (s.port i).frame = [] → payload.length ≤ 24 → judge i addr kind payload = .valid r → c.request = some (i, r) →
    (let body := addr :: kind :: BitVec.ofNat 8 payload.length :: payload
     let frame := 0x7E :: body ++ bytes16 (crc16 body)
     let port :=
       { s.port i with
         silence := some s.line.silenceLimit, alive := true, aliveSince := (s.port i).aliveSince || !(s.port i).alive }
     let heard := s.withPort i port
     heard.waits = true →
      exec (.receiveFrame i frame) s = exec c heard.rested ∧
      (∃ t, exec (.receiveFrame i frame) s = .next t ∧ (t.port i).alive = true ∧ (t.port i).silence = some s.line.silenceLimit ∧
        (t.port i).frame = [] ∧
        (heard.takesNow i = true → t.settled = true ∧ (t.port i).rx = [] ∧
          ∃ e, (t.port i).tx[(s.port i).tx.length]? = some e ∧ e.isNotice = false)) ∧
      ((s.port i).rx.length < 4 → (s.port i).mayTake = false →
        exec (.receiveFrame i frame) s = .next (heard.rested.withPort i { port with rx := (s.port i).rx ++ [r] })) ∧
      (4 ≤ (s.port i).rx.length →
        exec (.receiveFrame i frame) s =
          .next ((heard.rested.withPort i { port with overrun := satInc 255 (s.port i).overrun }).setAttention .rxOverrun)))

/-- Between frames every byte but SYNC is discarded. A length byte above 24 drops the frame into the oversize counter at once; at the
end of a frame a check word that differs drops it into the bad-CRC counter, which marks the port DEGRADED at 128, a kind or an address
that the port does not hear into the unknown-kind counter, and a length that is not the kind's into the oversize counter. A frame left
incomplete by a timeout or a framing error goes into the bad-CRC counter (R161, R162). That a timeout or a framing error between frames
has no effect is the model's inference (log 38). -/
def Obligations.BrokenFramesAreCounted : Prop :=
  ∀ (s : State) (i : PortId), s.loading = false →
    (let dropped :=
      if (s.port i).badCrc = 127 then
        (s.withPort i { s.port i with frame := [], badCrc := 128, degraded := true }).setAttention .portDegraded
      else s.withPort i { s.port i with frame := [], badCrc := satInc 255 (s.port i).badCrc }
     let oversize := s.withPort i { s.port i with frame := [], oversize := satInc 255 (s.port i).oversize }
     let unknown := s.withPort i { s.port i with frame := [], unknownKind := satInc 255 (s.port i).unknownKind }
     ((s.port i).frame ≠ [] → exec (.frameTimeout i) s = .next dropped ∧ exec (.byteFramingError i) s = .next dropped) ∧
     ((s.port i).frame = [] → exec (.frameTimeout i) s = .next s ∧ exec (.byteFramingError i) s = .next s) ∧
     ((s.port i).frame = [] → ∀ bytes : List Byte, (∀ b ∈ bytes, b ≠ 0x7E) → exec (.receiveFrame i bytes) s = .next s) ∧
     ((s.port i).frame = [] → ∀ addr kind len : Byte, 24 < len.toNat →
       exec (.receiveFrame i [0x7E, addr, kind, len]) s = .next oversize) ∧
     ((s.port i).frame = [] → ∀ (addr kind : Byte) (payload : List Byte), payload.length ≤ 24 →
       (let body := addr :: kind :: BitVec.ofNat 8 payload.length :: payload
        (∀ h l : Byte, h ++ l ≠ crc16 body → exec (.receiveFrame i (0x7E :: body ++ [h, l])) s = .next dropped) ∧
        (portHears i addr kind = false → exec (.receiveFrame i (0x7E :: body ++ bytes16 (crc16 body))) s = .next unknown) ∧
        (portHears i addr kind = true → lengthFits kind payload = false →
          exec (.receiveFrame i (0x7E :: body ++ bytes16 (crc16 body))) s = .next oversize))))

/-- At a transmission completion the oldest telegram leaves; a pending order takes its place with the record as it stands; pending
gate notices follow in the order in which their flags are kept, which is by gate number, for as long as places remain, and the others
stay pending; and with every flag clear the requests that wait are taken, one reply each, for as long as a place is free. With no
request waiting nothing else happens (R164 to R166). That a completion with an empty transmit queue has no effect is the model's
choice (log 4). -/
def Obligations.CompletionFreesPlace : Prop :=
  (∀ (s : State) (i : PortId), s.loading = false → s.settled = true →
    ((s.port i).tx = [] → exec (.transmissionCompletion i) s = .next s) ∧
    (∀ (e : TxEntry) (rest : List TxEntry), (s.port i).tx = e :: rest → (s.port i).tx.length ≤ 6 →
      ((s.port i).rx = [] →
        ((s.port i).somePending = false →
          exec (.transmissionCompletion i) s = .next (s.withPort i { s.port i with tx := rest })) ∧
        (∀ order : TxEntry, (i, order) = (.drv, driveOrderTelegram s true) ∨ (i, order) = (.cra, carOrderTelegram s .a true) ∨
            (i, order) = (.crb, carOrderTelegram s .b true) →
          (s.port i).pendingOrder = true → (s.port i).pendingGates = [] →
          exec (.transmissionCompletion i) s =
            .next (s.withPort i { s.port i with pendingOrder := false, tx := rest ++ [order] })) ∧
        ((i = .sta1 ∨ i = .sta2) → (s.port i).pendingOrder = false →
          exec (.transmissionCompletion i) s = .next (s.withPort i { s.port i with
            pendingGates := (s.port i).pendingGates.drop (6 - rest.length)
            tx := rest ++ ((s.port i).pendingGates.take (6 - rest.length)).map gateNotice }))) ∧
      (∀ (r : Request) (more : List Request), (s.port i).rx = r :: more → (s.port i).somePending = false →
        ∃ t, exec (.transmissionCompletion i) s = .next t ∧ t.settled = true ∧ (∃ x, (t.port i).tx[rest.length]? = some x ∧
          x.isNotice = false) ∧ (t.port i).rx.length ≤ more.length ∧ ((s.port i).tx.length = 6 → (t.port i).rx = more) ∧
          (t.port i).tx.countP (fun x => !x.isNotice) + (t.port i).rx.length =
            rest.countP (fun x => !x.isNotice) + (s.port i).rx.length ∧
          ((t.port i).rx = [] ∨ (t.port i).mayTake = false)))) ∧
  (∀ (n : PendingGate) (l : List PendingGate), (l.map PendingGate.gate).Pairwise (· < ·) →
    ((insertPending n l).map PendingGate.gate).Pairwise (· < ·) ∧ n ∈ insertPending n l ∧
      ∀ x, x ∈ insertPending n l ↔ x = n ∨ (x ∈ l ∧ x.gate ≠ n.gate))

/-- The expiry of a silence timer loses the link: its notices go but for the telegram in transmission, LINK_LOST is set, a live
line latches the link's cause for DRV and the cars, a car's weigh becomes absent, and the waiting gates of a station become IDLE
(R154, R166 to R168). That the oldest entry of the transmit queue is the one in transmission is the model's inference (log 12). -/
def Obligations.SilenceLosesTheLink : Prop :=
  ∀ (s : State) (i : PortId), s.loading = false → (s.port i).silence.isSome = true → (s.port i).rx = [] →
    ∃ t, exec (.silenceTimerExpiry i) s = .next t ∧ t.attention .linkLost = true ∧
      t.port i = { s.port i with
        silence := none, alive := false, losses := satInc 255 (s.port i).losses, pendingOrder := false, pendingGates := []
        tx := (match (s.port i).tx with | [] => [] | e :: rest => e :: rest.filter (fun x => !x.isNotice)) } ∧
      t.msu = s.msu ∧ t.cfs = s.cfs ∧
      (∀ c, i = c.port → (t.load c).weigh = none ∧ (t.load c).tally = (s.load c).tally) ∧
      (∀ cause, s.live = true → (i, cause) = (.drv, .linkDrv) ∨ (i, cause) = (.cra, .linkCra) ∨ (i, cause) = (.crb, .linkCrb) →
        ∃ e ∈ t.bks.demand.causes, e.cause = cause ∧ 3 ≤ e.level.rank) ∧
      (i = .con → s.waits = true → t.rco = s.rested.rco ∧ t.bks = s.bks ∧ t.dou = s.dou ∧ t.adu = s.adu) ∧
      (∀ (x : Sta) (g : Fin 16), i = x.port → gateSta g = x → (s.gate g).state = .waiting → (t.gate g).state ≠ .waiting ∧
        ((∀ q, (s.session q).waiting.Nodup ∧ ∀ h ∈ (s.session q).waiting, (s.gateEntry h).platform = q) →
          (t.gate g).state = .idle ∧ g ∉ (t.session (s.gateEntry g).platform).waiting))

/-! ### Reports and station requests -/

/-- A DRIVE REPORT becomes the latest report and is answered by a DRIVE ORDER of the record as it then stands; with an idle slot
SB confirmed follows the condition while SB-DMD is asserted, and a FAULT of a live line is a DRIVE at SERVICE (R56, R57, R102,
R103, R176). That the reply is formed after a departure which the report lets start is the model's inference (log 15). -/
def Obligations.DriveReportIsTaken : Prop :=
  ∀ (s : State) (state sb : Byte), s.takesNow .drv = true → ∃ t, exec (.driveReport state sb) s = .next t ∧
    t.rco.driveReport = some
      { state := (if state = 0 then .idle else if state = 1 then .proving else if state = 2 then .torqueProved
          else if state = 3 then .running else .fault)
        sb := (if sb = 0 then .applied else .lifted) } ∧
    t.ports.drv.tx[s.ports.drv.tx.length]? = some (driveOrderTelegram t false) ∧
    t.msu = s.msu ∧ t.cfs = s.cfs ∧ t.pc5 = s.pc5 ∧ t.adu.load = s.adu.load ∧
    (3 < state.toNat → s.live = true → s.bks.slot = .idle →
      (∃ e ∈ t.bks.demand.causes, e.cause = .drive ∧ 2 ≤ e.level.rank) ∧
        (s.bks.demand.latched = .none → t.bks.sbDmd = true ∧ t.attention .brakeLatched = true)) ∧
    (s.bks.slot = .idle → state.toNat ≤ 3 → s.rco.runState ≠ .closing →
      t.bks = { s.bks with sbConfirmed := (if s.bks.sbDmd then decide (sb = 0) else s.bks.sbConfirmed) } ∧
        t.rco.authority = s.rco.authority ∧ t.rco.runState = s.rco.runState ∧ t.dou = s.dou ∧ t.adu = s.adu ∧ t.att = s.att)

/-- A CAR REPORT replaces the reported fields, the weigh and the load flags, OVERLOAD and the TALLY_OVER condition, whose onset sets the
attention item, and is answered by a CAR ORDER of the record as it then stands (R124, R125, R156, R176). That the reply is formed after
a departure which the report lets start is the model's inference (log 15). -/
def Obligations.CarReportIsTaken : Prop :=
  ∀ (s : State) (c : Car) (door token rail weighPresent : Byte) (weigh : BitVec 16) (fault : Byte), s.takesNow c.port = true →
    ∃ t, exec (.carReport c door token rail weighPresent weigh fault) s = .next t ∧
      (t.door c).door = (if door = 1 then .closedLocked else if door = 2 then .closedUnlocked else .opened) ∧
      (t.door c).rail = (if rail = 0 then .applied else if rail = 1 then .lifted else .fault) ∧
      (t.door c).carFault = (fault != 0) ∧
      (∀ h : token.toNat < 16, (t.door c).heldToken = ⟨token.toNat, h⟩) ∧
      (16 ≤ token.toNat → (t.door c).heldToken = (s.door c).heldToken) ∧
      (t.load c).tally = (s.load c).tally ∧
      (t.load c).weigh = (if weighPresent = 0 then none else some (min 40000 weigh.toNat)) ∧
      (t.load c).overload = (match (t.load c).weigh with
        | some w => decide (s.line.ratedLoad < w)
        | none => decide (s.line.carCapacity < (s.load c).tally)) ∧
      (t.load c).tallyOver = (match (t.load c).weigh with
        | some w => decide (w ≤ s.line.ratedLoad ∧ s.line.carCapacity < (s.load c).tally)
        | none => false) ∧
      ((t.load c).tallyOver = true → (s.load c).tallyOver = false → t.attention .tallyOver = true) ∧
      (t.port c.port).tx[(s.port c.port).tx.length]? = some (carOrderTelegram t c false) ∧
      (∀ e, e ≠ c → (t.door e).door = (s.door e).door ∧ (t.door e).heldToken = (s.door e).heldToken ∧ t.load e = s.load e) ∧
      t.msu = s.msu ∧ t.cfs = s.cfs ∧ t.pc5 = s.pc5 ∧ t.rco.driveReport = s.rco.driveReport

/-- The held token of a report is judged against the release: the car takes up an ORDERED release with its own token, drops a HELD
one with token 0, completes a withdrawal with token 0 and its doors locked, and any other token is stale (R127, R128, R130): said for
a line at rest under a latch, so that nothing departs and no session opens. With no latch, a platform release that becomes HELD opens
the closed session of its platform for its car, with the exit quiet timer started and the admissions of its gates 0, and an open
session of the other car becomes shared (R137, R145). -/
def Obligations.ReportedTokenIsJudged : Prop :=
  (∀ (s : State) (c : Car) (door token rail : Byte), s.takesNow c.port = true → s.releasesLawful = true → token.toNat < 16 →
    s.bks.demand.latched = .emergency → s.rco.runState = .atStop → s.bks.slot = .idle →
    ∃ t, exec (.carReport c door token rail 0 0 0) s = .next t ∧
      (match (s.door c).release with
        | .none => if token.toNat = 0 then (t.door c).release = .none else
            (t.door c).release = .withdrawing ∧ (t.door c).lastWithdrawal = .stale ∧ (t.door c).stale = satInc 255 (s.door c).stale ∧
              t.attention .doorStaleToken = true
        | .ordered => if token.toNat = (s.door c).token.val then (t.door c).release = .held ∧ (t.door c).ackTimer = none
            else if token.toNat = 0 then (t.door c).release = .ordered ∧ (t.door c).stale = (s.door c).stale
            else (t.door c).release = .ordered ∧ (t.door c).stale = satInc 255 (s.door c).stale ∧ t.attention .doorStaleToken = true
        | .held => if token.toNat = (s.door c).token.val then (t.door c).release = .held ∧ (t.door c).stale = (s.door c).stale
            else if token.toNat = 0 then (t.door c).lastWithdrawal = .carDropped ∧ (t.door c).token = 0 ∧
              (t.door c).release = (if door = 1 then .none else .withdrawing)
            else (t.door c).release = .held ∧ (t.door c).stale = satInc 255 (s.door c).stale ∧ t.attention .doorStaleToken = true
        | .withdrawing => if token.toNat = 0 then (t.door c).release = (if door = 1 then .none else .withdrawing)
            else if token.toNat = (s.door c).counter.val then (t.door c).release = .withdrawing ∧ (t.door c).stale = (s.door c).stale
            else (t.door c).release = .withdrawing ∧ (t.door c).stale = satInc 255 (s.door c).stale ∧
              t.attention .doorStaleToken = true) ∧
      t.rco.mode = s.rco.mode ∧ t.rco.runState = s.rco.runState ∧ t.bks.slot = s.bks.slot) ∧
  (∀ (s : State) (c : Car) (door rail : Byte) (k : Fin 6) (p : Fin 8), s.takesNow c.port = true →
    s.bks.demand.latched = .none → s.rco.runState = .atStop → s.bks.slot = .idle → s.rco.authority.state = .none →
    (s.door c).release = .ordered → (s.door c).kind = some (.platform k p) → (s.session p).waiting = [] →
    ∃ t, exec (.carReport c door (BitVec.ofNat 8 (s.door c).token.val) rail 0 0 0) s = .next t ∧
      (t.door c).release = .held ∧ (t.door c).ackTimer = none ∧ t.bks = s.bks ∧ t.msu = s.msu ∧ t.cfs = s.cfs ∧
      (∀ q, q ≠ p → t.session q = s.session q) ∧
      (let quiet : Timer := if s.line.exitQuiet = 0 then none else some (1000 * s.line.exitQuiet)
       (s.session p).isOpen = false →
         t.session p = { s.session p with
           isOpen := true, served := some c, stop := some k, shared := false, lastClose := .none, quietTimer := quiet } ∧
         ∀ g, t.gate g = (if (s.gateEntry g).present = true ∧ (s.gateEntry g).platform = p then { s.gate g with admissions := 0 }
           else s.gate g)) ∧
      ((s.session p).isOpen = true → t.adu.gates = s.adu.gates ∧
        ((s.session p).served = some c → t.session p = s.session p) ∧
        ((s.session p).served ≠ some c → t.session p = { s.session p with shared := true } ∧
          t.attention .platformShared = true)))

/-- VALIDATE is decided by the first row of its table that holds; the policy is looked up at 4 for the open session, plus 2 for a
place left in the served car, plus 1 for a quiet exit timer; a direct admission makes a reservation, and a gate that must wait
joins the tail of the waiting list (R141, R148 to R150). -/
def Obligations.ValidateFollowsItsTable : Prop :=
  ∀ (s : State) (x : Sta) (g : Fin 16), s.takesNow x.port = true → s.waits = true →
    (let p := (s.gateEntry g).platform
     let answered := fun (t : State) (a : GateAnswer) (r : Reason) =>
       exec (.validate x g) s = .next (t.rested.sent x.port (gateAnswer g a r))
     if ¬((s.gateEntry g).present = true ∧ x = (if g.val < 8 then .sta1 else .sta2)) then answered s .refused .noGate
     else if (s.gateEntry g).dir = .exit then answered s .refused .exitGate
     else if (s.gate g).masked = true then answered s .refused .masked
     else if (s.gate g).fault = true then answered s .refused .fault
     else if (s.gate g).state = .reserved then
       answered (s.withGate g { s.gate g with duplicates := satInc 255 (s.gate g).duplicates }) .admitted .none
     else if (s.gate g).state = .waiting then answered s .wait .none
     else if (s.session p).isOpen = false then answered s .refused .noCar
     else if (s.platformEntry p).policy.getLsbD
         (4 + (match (s.session p).served with
           | some c => if (s.load c).tally + (s.session p).reservations < s.line.carCapacity then 2 else 0
           | none => 0) + (if (s.session p).quietTimer = none then 1 else 0)) = true then
       (s.session p).waiting = [] → answered
         ((s.withSession p { s.session p with reservations := (s.session p).reservations + 1 }).withGate g
           { s.gate g with
             state := .reserved, admissions := satInc 255 (s.gate g).admissions
             timer := some (1000 * s.line.reservationTimeout) }) .admitted .none
     else answered
         ((s.withSession p { s.session p with waiting := (s.session p).waiting ++ [g] }).withGate g { s.gate g with state := .waiting })
         .wait .none)

/-- A PASSAGE counts one person: into the served car at an entry gate, where it consumes the gate's reservation or is UNRESERVED, out
of it at an exit gate, where it restarts the exit quiet timer of an open session; without a served car it is unattributed (R152, R153).
What the timer of a session does where a departure may start at the end of the event, from CLOSING, is left out. -/
def Obligations.PassageCountsOnePerson : Prop :=
  ∀ (s : State) (x : Sta) (g : Fin 16), s.takesNow x.port = true →
    (∀ q, (s.session q).waiting.Nodup ∧ ∀ h ∈ (s.session q).waiting, (s.gateEntry h).platform = q ∧ (s.gate h).state = .waiting) →
    ∃ (t : State) (r : PassageResult), exec (.passage x g) s = .next t ∧
      (t.port x.port).tx[(s.port x.port).tx.length]? = some (passageAnswer g r) ∧
      (if ¬((s.gateEntry g).present = true ∧ x = (if g.val < 8 then .sta1 else .sta2)) then
        r = .noGate ∧ t.adu.load = s.adu.load ∧ t.adu.unattributed = s.adu.unattributed
      else
        match (s.session (s.gateEntry g).platform).served, (s.gateEntry g).dir with
        | none, _ => r = .unattributed ∧ t.adu.load = s.adu.load ∧ t.adu.unattributed = satInc 65535 s.adu.unattributed
        | some c, .entry =>
          (t.load c).tally = satInc 255 (s.load c).tally ∧ (∀ e, e ≠ c → t.load e = s.load e) ∧
            t.adu.unattributed = s.adu.unattributed ∧ (t.gate g).state = .idle ∧
            (r = .counted ↔ (s.gate g).state = .reserved) ∧ (r = .counted ∨ r = .unreserved) ∧
            (r = .unreserved → t.attention .gateUnreserved = true)
        | some c, .exit =>
          r = .counted ∧ (t.load c).tally = (s.load c).tally - 1 ∧ (∀ e, e ≠ c → t.load e = s.load e) ∧
            t.adu.unattributed = s.adu.unattributed ∧
            (s.rco.runState ≠ .closing →
              (t.session (s.gateEntry g).platform).quietTimer =
                (if (s.session (s.gateEntry g).platform).isOpen = false then (s.session (s.gateEntry g).platform).quietTimer
                else if s.line.exitQuiet = 0 then none
                else some (1000 * s.line.exitQuiet)))) ∧
      t.msu = s.msu ∧ t.cfs = s.cfs ∧ t.pc5 = s.pc5

/-- A GATE REPORT for a gate of the port sets the gate's fault flag and is answered by the gate's standing: REFUSE MASKED, REFUSE
FAULT, ADMIT, WAIT or REFUSE IDLE, by the first that holds; for any other gate it is answered NO_GATE and changes nothing. The onset
of a fault sets GATE_FAULT and takes the gate out of the session: a WAITING gate leaves the list with a REFUSE notice, a RESERVED one
gives its reservation up with a CANCEL notice. Where other gates wait, to which the policy may then grant, the gate itself is IDLE
(R141, R142). -/
def Obligations.GateReportSetsFault : Prop :=
  ∀ (s : State) (x : Sta) (g : Fin 16) (fault : Byte), s.takesNow x.port = true →
    (let p := (s.gateEntry g).platform
     let belongs : Prop := (s.gateEntry g).present = true ∧ x = (if g.val < 8 then .sta1 else .sta2)
     let onset : Prop := fault ≠ 0 ∧ (s.gate g).fault = false
     let standing := fun (state : GateState) =>
       if (s.gate g).masked = true then gateAnswer g .refused .masked
       else if fault ≠ 0 then gateAnswer g .refused .fault
       else
         match state with
         | .reserved => gateAnswer g .admitted .none
         | .waiting => gateAnswer g .wait .none
         | .idle => gateAnswer g .refused .idle
     let reported : GateChannel := { s.gate g with fault := (fault != 0) }
     (s.waits = true →
       (¬belongs → exec (.gateReport x g fault) s = .next (s.rested.sent x.port (gateAnswer g .refused .noGate))) ∧
       (belongs → ¬onset →
         exec (.gateReport x g fault) s = .next ((s.withGate g reported).rested.sent x.port (standing (s.gate g).state))) ∧
       (belongs → onset → (s.gate g).state = .idle →
         exec (.gateReport x g fault) s =
           .next (((s.withGate g reported).setAttention .gateFault).rested.sent x.port (standing .idle))) ∧
       (belongs → onset → (s.gate g).state = .waiting → (s.session p).waiting = [g] →
         exec (.gateReport x g fault) s = .next (handNotice
           ((((s.withSession p { s.session p with waiting := [] }).withGate g { reported with state := .idle, timer := none }
             ).setAttention .gateFault).rested.sent x.port (standing .idle))
           (.gate { gate := g, answer := .refused, reason := .fault }))) ∧
       (belongs → onset → (s.gate g).state = .reserved → (s.session p).waiting = [] →
         exec (.gateReport x g fault) s = .next (handNotice
           ((((s.withSession p { s.session p with reservations := (s.session p).reservations - 1 }).withGate g
             { reported with state := .idle, timer := none }).setAttention .gateFault).rested.sent x.port (standing .idle))
           (.gate { gate := g, answer := .cancelled, reason := .none })))) ∧
     ((∀ q, (s.session q).waiting.Nodup ∧ ∀ h ∈ (s.session q).waiting, (s.gateEntry h).platform = q ∧ (s.gate h).state = .waiting) →
       belongs → onset → ∃ t, exec (.gateReport x g fault) s = .next t ∧
         (t.port x.port).tx[(s.port x.port).tx.length]? = some (standing .idle) ∧ t.attention .gateFault = true ∧
         (t.gate g).state = .idle ∧ (t.gate g).fault = true ∧ (t.gate g).masked = (s.gate g).masked ∧
         t.msu = s.msu ∧ t.cfs = s.cfs ∧ t.adu.load = s.adu.load))

/-- A CALL is refused outside SERVICE and RECOVERY, for a platform at which no stop has a car, and with no supervised position. Else it
is a request for the candidate stop that lies nearest to P_sup, the one of lower index where two lie equally near, which merges into
the trip in hand or into the queued request for that stop, finds the queue full, or joins its tail. A request that joins shortens a
granted run where its stop lies ahead and can be reached: RETARGETED, the trip in hand back at the head of the queue. Where the head may
be taken, and readiness fails, CLOSING begins for the first request that is not for the current stop. The outcome is carried in the
CALL ANSWER (R63, R64, R68, R69, R75). That a head taken while readiness holds departs in the same event is left out. -/
def Obligations.CallRequestsItsStop : Prop :=
  ∀ (s : State) (x : Sta) (p : Fin 8), s.takesNow x.port = true → s.waits = true →
    (let answered := fun (t : State) (code : ResultCode) =>
       exec (.call x p) s = .next (t.rested.sent x.port (callAnswer p code))
     (s.rco.mode ≠ .service ∧ s.rco.mode ≠ .recovery → answered s .refusedMode) ∧
     (s.rco.mode = .service ∨ s.rco.mode = .recovery →
       ((s.platformEntry p).present = false ∨ s.callCandidates p = [] → answered s .refusedRange) ∧
       (∀ (k : Fin 6) (rest : List (Fin 6)), (s.platformEntry p).present = true → s.callCandidates p = k :: rest →
         s.msu.pSup = none → answered s .refusedState) ∧
       (∀ (k : Fin 6) (at_ : Int), (s.platformEntry p).present = true → s.msu.pSup = some at_ → k ∈ s.callCandidates p →
         (∀ j ∈ s.callCandidates p,
           ((s.stopEntry k).position - at_).natAbs ≤ ((s.stopEntry j).position - at_).natAbs ∧
             (((s.stopEntry k).position - at_).natAbs = ((s.stopEntry j).position - at_).natAbs → k ≤ j)) →
         (∀ h, s.rco.tripInHand = some h → h.target = k →
           answered (s.withRco { s.rco with tripInHand := some { h with merged := satInc 255 h.merged } }) .merged) ∧
         ((∀ h, s.rco.tripInHand = some h → h.target ≠ k) →
           ((∃ q ∈ s.rco.queue, q.target = k) →
             answered (s.withRco { s.rco with
               queue := s.rco.queue.map (fun q => if q.target = k then { q with merged := satInc 255 q.merged } else q) }) .merged) ∧
           ((∀ q ∈ s.rco.queue, q.target ≠ k) →
             (4 ≤ s.rco.queue.length → answered s .queueFull) ∧
             (s.rco.queue.length < 4 →
               (let asked : Trip := { target := k, origin := x.origin, merged := 1 }
                (¬s.headGoes → ¬s.shortensTo k →
                  answered (s.withRco { s.rco with queue := s.rco.queue ++ [asked] }) .accepted) ∧
                (s.shortensTo k → ∀ h, s.rco.tripInHand = some h → ∃ t, exec (.call x p) s = .next t ∧
                  t.rco = { s.rco with
                    tripInHand := some asked, queue := h :: s.rco.queue, firstFailing := none
                    authority := { s.rco.authority with
                      targetStop := some k, targetPosition := some (s.stopEntry k).position } } ∧
                  (t.port x.port).tx = (s.port x.port).tx ++ [callAnswer p .retargeted] ∧
                  t.bks = s.bks ∧ t.ssv = s.ssv ∧ t.msu = s.msu ∧ t.dou = s.dou ∧ t.adu = s.adu ∧ t.cfs = s.cfs) ∧
                (s.headGoes →
                  (∀ (head : Trip) (rest : List Trip),
                    (s.rco.queue ++ [asked]).dropWhile (fun q => s.rco.currentStop == some q.target) = head :: rest →
                    s.readiness.isSome = true → ∃ t, exec (.call x p) s = .next t ∧ s.tookHead t head rest ∧
                      (t.port x.port).tx[(s.port x.port).tx.length]? = some (callAnswer p .accepted)) ∧
                  ((∀ q ∈ s.rco.queue ++ [asked], s.rco.currentStop = some q.target) →
                    answered (s.withRco { s.rco with queue := [] }) .accepted)))))))))

/-! ### Console commands -/

/-- A MODE request is decided by the tests of R24: BUSY during a commit, REFUSED_MODE for a pair that is no row of the transition
table, REFUSED_STATE for the first condition of the row that fails, and else ACCEPTED. Accepted, the mode change record is that of the
change, STANDBY empties the queue into it, closes the sessions and withdraws the platform releases, and SERVICE starts the dwell and
asks for a platform release for each car. Every RESULT opens with the mode then in force, and that of SERVICE to STANDBY carries the
cancelled requests (R13, R22, R24 to R28, R126, R180; log 25 for the numbers of the conditions,
log 49 for a current stop whose entry has been made absent). -/
def Obligations.ModeFollowsItsTable : Prop :=
  ∀ (s : State) (m : LineMode), s.takesNow .con = true → s.waits = true →
    (let from_ := s.rco.mode
     let refused := fun (u : State) (code : ResultCode) (detail : List Byte) =>
       exec (.mode m.code) s = .next (u.concluded code 1 (from_.code :: detail))
     let row : Prop := (from_ = .locked ∧ m = .maintenance) ∨ (from_ = .locked ∧ m = .standby) ∨
       (from_ = .maintenance ∧ m = .standby) ∨ (from_ = .standby ∧ m = .maintenance) ∨ (from_ = .standby ∧ m = .service) ∨
       (from_ = .service ∧ m = .standby)
     let atRest : Prop := s.rco.runState = .atStop ∨ s.rco.runState = .offStop
     (s.cfs.commit = .writing → refused s .busy []) ∧
     (s.cfs.commit = .idle →
       (¬row → refused s .refusedMode []) ∧
       (from_ = .locked → m = .standby → s.cfs.workingValid = false → refused s .refusedState [1]) ∧
       (from_ = .locked → m = .maintenance ∨ (m = .standby ∧ s.cfs.workingValid = true) →
         (s.msu.qualified = false → refused s .refusedState [2]) ∧
         (s.msu.qualified = true → s.msu.standstill = false → refused s .refusedState [3])) ∧
       (from_ = .maintenance → m = .standby →
         (¬atRest → refused s .refusedState [4]) ∧
         (atRest → s.cfs.uncommitted = true → refused s .refusedState [5]) ∧
         (atRest → s.cfs.uncommitted = false → ∀ (id : TableId) (n : Nat), validate s.cfs.tables = some (id, n) →
           refused (s.withCfs { s.cfs with lastValidation := .failed id n, workingValid := false }) .refusedState
             [6, id.code, BitVec.ofNat 8 n])) ∧
       ((from_ = .standby ∧ m = .service) ∨ (from_ = .service ∧ m = .standby) → s.rco.runState ≠ .atStop →
         refused s .refusedState [7]) ∧
       (let allowed : Prop :=
          (from_ = .locked ∧ m = .maintenance ∧ s.msu.qualified = true ∧ s.msu.standstill = true) ∨
          (from_ = .locked ∧ m = .standby ∧ s.cfs.workingValid = true ∧ s.msu.qualified = true ∧ s.msu.standstill = true) ∨
          (from_ = .maintenance ∧ m = .standby ∧ atRest ∧ s.cfs.uncommitted = false ∧ validate s.cfs.tables = none) ∨
          (from_ = .standby ∧ m = .maintenance) ∨
          (from_ = .standby ∧ m = .service ∧ s.rco.runState = .atStop) ∨
          (from_ = .service ∧ m = .standby ∧ s.rco.runState = .atStop)
        allowed → ∃ t, exec (.mode m.code) s = .next t ∧ t.rco.mode = m ∧
          t.rco.modeChange = { previous := from_, new := m, cause := .console
                               cancelled := if m = .standby then s.rco.queue else [] } ∧
          (m = .standby → t.rco.queue = [] ∧ t.rco.dwellTimer = none ∧ t.rco.abortCount = 0 ∧ (∀ p, (t.session p).isOpen = false) ∧
            ∀ c, (s.door c).given = true →
              ((s.door c).isPlatform = true → (t.door c).release = .withdrawing ∧ (t.door c).lastWithdrawal = .standby) ∧
              ((s.door c).isPlatform = false → t.door c = s.door c)) ∧
          (m = .service → t.rco.dwellTimer = some (1000 * s.line.dwellMin) ∧ t.rco.dwellElapsed = false ∧ t.adu = s.adu ∧
            ∀ c, t.door c = (match s.rco.currentStop with | some k => s.doorAfterAsk k c | none => s.door c)) ∧
          (m = .maintenance → t.rco.queue = s.rco.queue ∧ t.dou = s.dou ∧ t.adu = s.adu) ∧
          t.bks = s.bks ∧ t.ssv = s.ssv ∧ t.msu = s.msu ∧ t.rco.runState = s.rco.runState ∧ t.rco.authority = s.rco.authority ∧
          t.adu.load = s.adu.load ∧ t.att = s.att ∧
          t.cfs = (if from_ = .maintenance then { s.cfs with lastValidation := .pass, workingValid := true } else s.cfs) ∧
          (from_ ≠ .service →
            t.ports.con.tx = s.ports.con.tx ++ [resultTelegram .accepted t.attentionSummary 1 [m.code]]) ∧
          (from_ = .service → s.rco.tripsLawful = true →
            t.ports.con.tx = s.ports.con.tx ++ [resultTelegram .accepted t.attentionSummary 1
              (m.code :: BitVec.ofNat 8 s.rco.queue.length :: s.rco.queue.flatMap fun q =>
                [BitVec.ofNat 8 (16 * q.origin.code.toNat + q.target.val), BitVec.ofNat 8 q.merged])]))))

/-- A TRIP is decided by the tests of R63: refused outside SERVICE and RECOVERY and for an absent stop, merged into the trip in
hand or into a queued request for the same stop, turned away by a full queue, and else inserted at its tail. Inserted, it shortens a
granted run where its stop lies ahead and can be reached: RETARGETED, the trip in hand back at the head of the queue. Where the head may
be taken, and readiness fails, CLOSING begins for the first request that is not for the current stop. Every RESULT but a refusal
carries the count of the queue (R63, R68, R69, R75, R180). That the count is that of the queue as the decision leaves it (log 51) and that
QUEUE_FULL carries it too (log 25) is the model's choice. That a head taken while readiness holds departs in the same event is left out. -/
def Obligations.TripJoinsTheQueue : Prop :=
  ∀ (s : State) (k : Fin 6), s.takesNow .con = true → s.waits = true →
    (let answered := fun (t : State) (code : ResultCode) (detail : List Byte) =>
       exec (.trip (BitVec.ofNat 8 k.val)) s = .next (t.concluded code 2 detail)
     let held := s.rco.queue.length
     let asked : Trip := { target := k, origin := .con, merged := 1 }
     (s.rco.mode ≠ .service ∧ s.rco.mode ≠ .recovery → answered s .refusedMode []) ∧
     (s.rco.mode = .service ∨ s.rco.mode = .recovery →
       ((s.stopEntry k).present = false → answered s .refusedRange [2]) ∧
       ((s.stopEntry k).present = true →
         (∀ h, s.rco.tripInHand = some h → h.target = k →
           answered (s.withRco { s.rco with tripInHand := some { h with merged := satInc 255 h.merged } }) .merged (encCount held)) ∧
         ((∀ h, s.rco.tripInHand = some h → h.target ≠ k) →
           ((∃ q ∈ s.rco.queue, q.target = k) →
             answered (s.withRco { s.rco with
               queue := s.rco.queue.map (fun q => if q.target = k then { q with merged := satInc 255 q.merged } else q) })
               .merged (encCount held)) ∧
           ((∀ q ∈ s.rco.queue, q.target ≠ k) →
             (4 ≤ held → answered s .queueFull (encCount held)) ∧
             (held < 4 →
               (¬s.headGoes → ¬s.shortensTo k →
                 answered (s.withRco { s.rco with queue := s.rco.queue ++ [asked] }) .accepted (encCount (held + 1))) ∧
               (s.shortensTo k → ∀ h, s.rco.tripInHand = some h → ∃ t, exec (.trip (BitVec.ofNat 8 k.val)) s = .next t ∧
                 t.rco = { s.rco with
                   tripInHand := some asked, queue := h :: s.rco.queue, firstFailing := none
                   authority := { s.rco.authority with
                     targetStop := some k, targetPosition := some (s.stopEntry k).position } } ∧
                 t.ports.con.tx = s.ports.con.tx ++ [resultTelegram .retargeted s.attentionSummary 2 (encCount (held + 1))] ∧
                 t.bks = s.bks ∧ t.ssv = s.ssv ∧ t.msu = s.msu ∧ t.dou = s.dou ∧ t.adu = s.adu ∧ t.cfs = s.cfs) ∧
               (s.headGoes →
                 (∀ (head : Trip) (rest : List Trip),
                   (s.rco.queue ++ [asked]).dropWhile (fun q => s.rco.currentStop == some q.target) = head :: rest →
                   s.readiness.isSome = true → ∃ t, exec (.trip (BitVec.ofNat 8 k.val)) s = .next t ∧ s.tookHead t head rest ∧
                     t.ports.con.tx = s.ports.con.tx ++
                       [resultTelegram .accepted t.attentionSummary 2 (encCount rest.length)]) ∧
                 ((∀ q ∈ s.rco.queue ++ [asked], s.rco.currentStop = some q.target) →
                   answered (s.withRco { s.rco with queue := [] }) .accepted (encCount 0)))))))))

/-- A CANCEL removes the queued request for its stop, and is refused by the first of its three tests that fails, a stop number
beyond the table with REFUSED_RANGE; the other requests keep their order, and nothing else changes (R65). -/
def Obligations.CancelRemovesOneTarget : Prop :=
  ∀ s : State, s.takesNow .con = true → s.waits = true →
    (∀ k : Fin 6, exec (.cancel (BitVec.ofNat 8 k.val)) s = .next (
      if s.rco.mode ≠ .service ∧ s.rco.mode ≠ .recovery then s.concluded .refusedMode 3 []
      else if (s.stopEntry k).present = false then s.concluded .refusedRange 3 [2]
      else if ∀ q ∈ s.rco.queue, q.target ≠ k then s.concluded .refusedState 3 [3]
      else (s.withRco { s.rco with queue := s.rco.queue.filter (fun q => decide (q.target ≠ k)) }).concluded .accepted 3 [])) ∧
    (∀ b : Byte, 6 ≤ b.toNat → ∃ detail, exec (.cancel b) s = .next (s.concluded .refusedRange 3 detail))

/-- HOLD in a granted run retargets it to the nearest stop ahead that it can still reach, its own trip returning to the head of
the queue; in CLOSING at a stop it returns the trip and restarts the dwell; elsewhere it is refused. The stop found lies ahead of
the run and before its target, and no stop ahead that can be reached is nearer (section 4.8, R32, R66, R76). R76 numbers no tests:
the detail bytes 1 and 3 are the model's choice (log 25). -/
def Obligations.HoldEndsTheRunEarly : Prop :=
  (∀ s : State, s.takesNow .con = true →
     (s.rco.mode ≠ .service ∧ s.rco.mode ≠ .recovery → s.waits = true → exec .hold s = .next (s.concluded .refusedMode 4 [])) ∧
     (s.rco.mode = .service ∨ s.rco.mode = .recovery →
       (∀ (k : Fin 6) (h : Trip), s.rco.runState = .running → s.rco.authority.state = .granted → s.rco.jogRun = false →
         s.stopsAhead.find? s.reachable = some k → s.rco.tripInHand = some h → (∀ q ∈ s.rco.queue, q.target ≠ k) →
         s.rco.queue.length < 4 →
         ∃ t, exec .hold s = .next t ∧
           t.rco = { s.rco with
             tripInHand := some { target := k, origin := .con, merged := 1 }, queue := h :: s.rco.queue, firstFailing := none
             authority := { s.rco.authority with
               targetStop := some k, targetPosition := some (s.stopEntry k).position } } ∧
           t.ports.con.tx = s.ports.con.tx ++ [resultTelegram .retargeted s.attentionSummary 4 []] ∧
           t.bks = s.bks ∧ t.ssv = s.ssv ∧ t.msu = s.msu ∧ t.dou = s.dou ∧ t.adu = s.adu ∧ t.cfs = s.cfs) ∧
       (s.rco.runState = .running → s.rco.authority.state = .granted → s.rco.jogRun = false →
         s.stopsAhead.find? s.reachable = none → exec .hold s = .next (s.concluded .refusedState 4 [1])) ∧
       (∀ (h : Trip) (k : Fin 6), s.rco.runState = .closing → s.rco.tripInHand = some h → s.rco.queue.length < 4 →
         s.rco.currentStop = some k →
         exec .hold s = .next ((s.withRco { s.rco with
           tripInHand := none, queue := h :: s.rco.queue, runState := .atStop, dwellTimer := some (1000 * s.line.dwellMin)
           dwellElapsed := false }).concluded .accepted 4 [])) ∧
       (s.rco.runState ≠ .running → s.rco.runState ≠ .closing → exec .hold s = .next (s.concluded .refusedState 4 [3])))) ∧
  (∀ (s : State) (k : Fin 6) (p t : Int), s.msu.pSup = some p → s.rco.authority.targetPosition = some t →
     s.stopsAhead.find? s.reachable = some k →
     (s.stopEntry k).present = true ∧ s.reachable k = true ∧
       (s.rco.authority.dir = some .up → p < (s.stopEntry k).position ∧ (s.stopEntry k).position < t) ∧
       (s.rco.authority.dir = some .down → t < (s.stopEntry k).position ∧ (s.stopEntry k).position < p) ∧
       ∀ j, s.liesAhead j = true → s.reachable j = true →
         ((s.stopEntry k).position - p).natAbs ≤ ((s.stopEntry j).position - p).natAbs)

/-- A JOG at rest in MAINTENANCE starts a departure toward the next stop in its direction, whose step D1 takes the load snapshot and
completes at its start where both rail brakes are lifted; each further JOG of a granted run in its direction restarts the hold timer of
400 ms. It is refused outside MAINTENANCE, with no valid image, with no stop beyond, while readiness fails, in CLOSING, for the opposite
direction of a run, under a withdrawn authority, and in STOPPING and ARRESTED (R10, R35, R77, R78, R83, R84, R113, R114; log 25 and
log 33 for the numbers, log 49 for a current stop whose entry has been made absent).
The law of the demand record, which every step keeps, is supposed of the line that departs. -/
def Obligations.JogStartsAndHoldsARun : Prop :=
  ∀ (s : State) (d : Dir), s.takesNow .con = true → s.waits = true →
    (s.rco.mode ≠ .maintenance → exec (.jog d.code) s = .next (s.concluded .refusedMode 5 [])) ∧
    (s.rco.mode = .maintenance → s.cfs.workingValid = false → exec (.jog d.code) s = .next (s.concluded .refusedState 5 [0])) ∧
    (s.rco.mode = .maintenance → s.cfs.workingValid = true →
      (s.rco.runState = .atStop ∨ s.rco.runState = .offStop →
        (s.nextStop d = none → exec (.jog d.code) s = .next (s.concluded .refusedRange 5 [2])) ∧
        (∀ k c, s.nextStop d = some k → s.readiness = some c →
          exec (.jog d.code) s = .next (s.concluded .refusedState 5 [3, byte c.order])) ∧
        (∀ k, s.nextStop d = some k → s.readiness = none → s.bks.demand.lawful = true →
          ∃ t, exec (.jog d.code) s = .next t ∧
          (∀ c, (t.door c).railOrder = .lift) ∧ t.ssv.aG = none ∧ t.ssv.percent = none ∧
          (let tally := fun c => (s.load c).tally * s.line.personMass
           let down : Car := match d with | .up => .b | .down => .a
           let up : Car := match d with | .up => .a | .down => .b
           let heavy := match (s.load down).weigh with | some w => max (tally down) w | none => tally down
           let light := match (s.load up).weigh with | some w => min (tally up) w | none => tally up
           t.ssv.snapshot = some
             { descending := down, tallyA := (s.load .a).tally, tallyB := (s.load .b).tally, weighA := (s.load .a).weigh
               weighB := (s.load .b).weigh, massDescending := heavy, massAscending := light, deltaM := heavy - light
               loadUnits := (heavy - light + 99) / 100 }) ∧ t.msu = s.msu ∧
          t.cfs = s.cfs ∧ t.adu.load = s.adu.load ∧
          (s.bks.eblRisen = false ∨ ¬(s.dou.a.rail = .lifted ∧ s.dou.b.rail = .lifted) →
            t.rco = { s.rco with
              runState := .departing, jogRun := true, brakesSet := false, dwellTimer := none, dwellElapsed := false
              firstFailing := none
              authority := { s.rco.authority with
                targetStop := some k, targetPosition := some (s.stopEntry k).position, dir := some d } } ∧
            t.bks = (if s.dou.a.rail = .lifted ∧ s.dou.b.rail = .lifted then
                { s.bks with
                  slot := .departure .d2, ebHold := true, stepTimer := some { which := .ebLift, remaining := 2000 } }
              else { s.bks with slot := .departure .d1, stepTimer := some { which := .railConfirm, remaining := 3000 } }) ∧
            t.adu = s.adu ∧ t.ports.con.tx = s.ports.con.tx ++ [resultTelegram .accepted s.attentionSummary 5 []]))) ∧
      (s.rco.runState = .running → s.rco.authority.dir = some d →
        (s.rco.authority.state = .granted →
          exec (.jog d.code) s = .next ((s.withRco { s.rco with jogTimer := some 400 }).concluded .accepted 5 [])) ∧
        (s.rco.authority.state = .withdrawn → exec (.jog d.code) s = .next (s.concluded .refusedState 5 [4]))) ∧
      (s.rco.runState = .departing → s.rco.authority.dir = some d →
        exec (.jog d.code) s = .next (s.concluded .accepted 5 [])) ∧
      (s.rco.runState = .running ∨ s.rco.runState = .departing → s.rco.authority.dir = some d.opposite →
        exec (.jog d.code) s = .next (s.concluded .refusedState 5 [3])) ∧
      (s.rco.runState = .stopping ∨ s.rco.runState = .arrested →
        exec (.jog d.code) s = .next (s.concluded .refusedState 5 [if s.rco.jogRun then 5 else 1])) ∧
      (s.rco.runState = .closing → exec (.jog d.code) s = .next (s.concluded .refusedState 5 [1])))

/-- An EVACUATE that passes its tests orders an evacuation release of the side asked, and EVACUATE END withdraws it; a LOCKED line
refuses both. An EVACUATE is refused without confirmed standstill, with EB-HOLD energized, with an authority and with a release of that
car not NONE, by the first of these that holds, each named by its number in the list of R134 (R134, R135, R180). The detail byte 2 of a
refused EVACUATE END is the model's choice (log 25). -/
def Obligations.EvacuationIsOrderedAndEnded : Prop :=
  ∀ (s : State) (c : Car) (side : Side), s.takesNow .con = true →
    (s.rco.mode = .locked → s.waits = true → exec (.evacuate c.code side.code) s = .next (s.concluded .refusedMode 8 []) ∧
      exec (.evacuateEnd c.code) s = .next (s.concluded .refusedMode 9 [])) ∧
    (s.rco.mode ≠ .locked →
      (s.msu.standstill = true → s.bks.ebHold = false → s.rco.authority.state = .none → (s.door c).release = .none →
        ∃ t, exec (.evacuate c.code side.code) s = .next t ∧
          t.door c = { s.door c with
            counter := nextToken (s.door c).counter, token := nextToken (s.door c).counter, side := side
            kind := some .evacuation, release := .ordered, ackTimer := some s.line.ackTime, lastRefused := .none } ∧
          (∀ e, e ≠ c → t.door e = s.door e) ∧ t.bks = s.bks ∧ t.adu = s.adu ∧ t.msu = s.msu ∧ t.cfs = s.cfs ∧ t.att = s.att ∧
          t.ports.con.tx = s.ports.con.tx ++ [resultTelegram .accepted s.attentionSummary 8 []]) ∧
      (s.waits = true →
        (let refused := fun test : Byte => exec (.evacuate c.code side.code) s = .next (s.concluded .refusedState 8 [test])
         (s.msu.standstill = false → refused 3) ∧
         (s.msu.standstill = true → s.bks.ebHold = true → refused 4) ∧
         (s.msu.standstill = true → s.bks.ebHold = false → s.rco.authority.state ≠ .none → refused 5) ∧
         (s.msu.standstill = true → s.bks.ebHold = false → s.rco.authority.state = .none → (s.door c).release ≠ .none →
           refused 6))) ∧
      ((s.door c).kind = some .evacuation → (s.door c).given = true →
        ∃ t, exec (.evacuateEnd c.code) s = .next t ∧
          t.door c = { s.door c with
            token := 0, release := .withdrawing, ackTimer := none, closeTimer := some (1000 * s.line.closeTimeout), overdue := false
            lastWithdrawal := .evacuateEnd } ∧
          (∀ e, e ≠ c → t.door e = s.door e) ∧ t.bks = s.bks ∧ t.adu = s.adu ∧ t.msu = s.msu ∧ t.cfs = s.cfs ∧ t.att = s.att ∧
          t.ports.con.tx = s.ports.con.tx ++ [resultTelegram .accepted s.attentionSummary 9 []]) ∧
      (s.waits = true → ¬((s.door c).kind = some .evacuation ∧ (s.door c).given = true) →
        exec (.evacuateEnd c.code) s = .next (s.concluded .refusedState 9 [2])))

/-- GATE MASK and GATE UNMASK set the mask of a present gate in every line mode and are refused for an absent one; masking a
masked gate changes nothing, a gate that waited is taken out of the session with a REFUSE notice, and one that was RESERVED gives its
reservation up with a CANCEL notice (R143). The detail byte 1 of the refusal is the model's choice (log 25). -/
def Obligations.GateMaskFollowsTheConsole : Prop :=
  ∀ (s : State) (g : Fin 16), s.takesNow .con = true → s.waits = true →
    (let b : Byte := BitVec.ofNat 8 g.val
     ((s.gateEntry g).present = false →
       exec (.gateMask b) s = .next (s.concluded .refusedRange 10 [1]) ∧
         exec (.gateUnmask b) s = .next (s.concluded .refusedRange 11 [1])) ∧
     ((s.gateEntry g).present = true →
       exec (.gateUnmask b) s = .next ((s.withGate g { s.gate g with masked := false }).concluded .accepted 11 []) ∧
       ((s.gate g).masked = true → exec (.gateMask b) s = .next (s.concluded .accepted 10 [])) ∧
       ((s.gate g).masked = false → (s.gate g).state = .idle →
         exec (.gateMask b) s = .next ((s.withGate g { s.gate g with masked := true }).concluded .accepted 10 [])) ∧
       ((s.gate g).masked = false → (s.gate g).state = .waiting → (s.session (s.gateEntry g).platform).waiting = [g] →
         exec (.gateMask b) s = .next ((handNotice
           ((s.withSession (s.gateEntry g).platform { s.session (s.gateEntry g).platform with waiting := [] }).withGate g
             { s.gate g with masked := true, state := .idle, timer := none })
           (.gate { gate := g, answer := .refused, reason := .masked })).concluded .accepted 10 [])) ∧
       ((s.gate g).masked = false → (s.gate g).state = .reserved → (s.session (s.gateEntry g).platform).waiting = [] →
         exec (.gateMask b) s = .next ((handNotice
           ((s.withSession (s.gateEntry g).platform
             { s.session (s.gateEntry g).platform with
               reservations := (s.session (s.gateEntry g).platform).reservations - 1 }).withGate g
             { s.gate g with masked := true, state := .idle, timer := none })
           (.gate { gate := g, answer := .cancelled, reason := .none })).concluded .accepted 10 []))))

/-- TALLY SET gives a car its tally and evaluates its load flags, at a stop with the car's release NONE (R155, R156). -/
def Obligations.TallySetGivesTheTally : Prop :=
  ∀ (s : State) (c : Car) (n : Byte), s.takesNow .con = true →
    (s.rco.runState ≠ .atStop → s.waits = true → exec (.tallySet c.code n) s = .next (s.concluded .refusedState 12 [2])) ∧
    (s.rco.runState = .atStop → (s.door c).release ≠ .none →
      exec (.tallySet c.code n) s = .next (s.concluded .refusedState 12 [3])) ∧
    (s.rco.runState = .atStop → (s.door c).release = .none → ∃ t, exec (.tallySet c.code n) s = .next t ∧
      (t.load c).tally = n.toNat ∧ (t.load c).weigh = (s.load c).weigh ∧
      (t.load c).overload = (match (s.load c).weigh with
        | some w => decide (s.line.ratedLoad < w)
        | none => decide (s.line.carCapacity < n.toNat)) ∧
      (t.load c).tallyOver = (match (s.load c).weigh with
        | some w => decide (w ≤ s.line.ratedLoad ∧ s.line.carCapacity < n.toNat)
        | none => false) ∧
      (∀ e, e ≠ c → t.load e = s.load e) ∧ t.bks = s.bks ∧ t.dou = s.dou ∧ t.msu = s.msu ∧ t.cfs = s.cfs ∧
      t.rco.authority = s.rco.authority ∧
      t.ports.con.tx = s.ports.con.tx ++ [resultTelegram .accepted t.attentionSummary 12 []])

/-- A CONFIG WRITE of one segment stores the record it encodes, sets the uncommitted flag and clears working image valid, and a
ZONE write unsets the zone pointer; the segments of a LINE record are gathered in the write buffer, in order. It is refused while
WRITING, outside MAINTENANCE and away from rest (R10, R11, R178, R179; log 25 for the refusals' numbers, log 30 for the zone
pointer). -/
def Obligations.ConfigWriteStoresTheRecord : Prop :=
  (∀ s : State, s.takesNow .con = true → s.waits = true →
     (let write := fun (id : TableId) (n : Nat) (bytes : List Byte) =>
        exec (.configWrite id.code (BitVec.ofNat 8 n) 0 1 bytes) s
      let stored := fun (t : Tables) =>
        (s.withPc5 { s.pc5 with write := none }).withCfs { s.cfs with tables := t, uncommitted := true, workingValid := false }
      (∀ (id : TableId) (n : Nat) (bytes : List Byte),
        (s.cfs.commit = .writing → write id n bytes = .next (s.concluded .busy 13 [])) ∧
        (s.cfs.commit = .idle → s.rco.mode ≠ .maintenance → write id n bytes = .next (s.concluded .refusedMode 13 [])) ∧
        (s.cfs.commit = .idle → s.rco.mode = .maintenance → s.rco.runState ≠ .atStop → s.rco.runState ≠ .offStop →
          write id n bytes = .next (s.concluded .refusedState 13 [3]))) ∧
      (s.cfs.commit = .idle → s.rco.mode = .maintenance → (s.rco.runState = .atStop ∨ s.rco.runState = .offStop) →
        (∀ (k : Fin 6) (e : StopEntry), 0 ≤ e.position → e.position ≤ 4000000 → 50 ≤ e.halfWidth → e.halfWidth ≤ 500 →
          write .stop k.val (encStop e) =
            .next ((stored { s.cfs.tables with stops := s.cfs.tables.stops.set k.val e k.isLt }).concluded .accepted 13 [])) ∧
        (∀ (k : Fin 16) (e : ZoneEntry), 0 ≤ e.start → e.start ≤ 4000000 → 500 ≤ e.limit → e.limit ≤ 15000 → 50 ≤ e.percent →
          e.percent ≤ 100 → write .zone k.val (encZone e) =
            .next (((stored { s.cfs.tables with zones := s.cfs.tables.zones.set k.val e k.isLt }).withSsv
              { s.ssv with zone := none }).concluded .accepted 13 [])) ∧
        (∀ (k : Fin 8) (e : PlatformEntry), write .platform k.val (encPlatform e) =
            .next ((stored { s.cfs.tables with platforms := s.cfs.tables.platforms.set k.val e k.isLt }).concluded .accepted 13 [])) ∧
        (∀ (k : Fin 16) (e : GateEntry), write .gate k.val (encGate e) =
            .next ((stored { s.cfs.tables with gates := s.cfs.tables.gates.set k.val e k.isLt }).concluded .accepted 13 [])) ∧
        (∀ (k : Fin 4) (e : DatumEntry), 0 ≤ e.position → e.position ≤ 4000000 → write .datum k.val (encDatum e) =
            .next ((stored { s.cfs.tables with datums := s.cfs.tables.datums.set k.val e k.isLt }).concluded .accepted 13 [])) ∧
        (let turnedAway := fun (c : Instr) (detail : List Byte) =>
           exec c s = .next ((s.withPc5 { s.pc5 with write := none }).concluded .refusedRange 13 detail)
         (∀ (table n : Byte) (bytes : List Byte), 6 ≤ table.toNat → turnedAway (.configWrite table n 0 1 bytes) [2]) ∧
         (∀ (id : TableId) (n : Byte) (bytes : List Byte), id ≠ .line → id.size ≤ n.toNat →
           turnedAway (.configWrite id.code n 0 1 bytes) [4]) ∧
         (∀ (id : TableId) (n : Byte) (bytes : List Byte) (field : Nat), id ≠ .line → n.toNat < id.size →
           badField id bytes = some field → turnedAway (.configWrite id.code n 0 1 bytes) [5, BitVec.ofNat 8 field]))))) ∧
  (∀ (s : State) (index : Byte) (l : List Byte), s.takesNow .con = true → s.waits = true → s.cfs.commit = .idle →
     s.rco.mode = .maintenance → (s.rco.runState = .atStop ∨ s.rco.runState = .offStop) →
     exec (.configWrite 0 index 0 3 l) s =
       .next ((s.withPc5 { s.pc5 with write := some { table := .line, index := index.toNat, segments := 1, bytes := l } }).concluded
         .accepted 13 []) ∧
     (∀ before : List Byte,
       s.pc5.write = some { table := .line, index := index.toNat, segments := 1, bytes := before } →
       exec (.configWrite 0 index 1 3 l) s =
         .next ((s.withPc5 { s.pc5 with
           write := some { table := .line, index := index.toNat, segments := 2, bytes := before ++ l } }).concluded .accepted 13 []) ∧
       exec (.configWrite 0 index 2 3 l) s = .next ((s.withPc5 { s.pc5 with write := none }).concluded .refusedRange 13 [3])) ∧
     (∀ before : List Byte, index ≠ 0 →
       s.pc5.write = some { table := .line, index := index.toNat, segments := 2, bytes := before } →
       exec (.configWrite 0 index 2 3 l) s = .next ((s.withPc5 { s.pc5 with write := none }).concluded .refusedRange 13 [4])) ∧
     (∀ before : List Byte, index = 0 → s.pc5.write = some { table := .line, index := 0, segments := 2, bytes := before } →
       badField .line (before ++ l) = none → ∃ t, exec (.configWrite 0 index 2 3 l) s = .next t ∧
         t.cfs = { s.cfs with
           tables := putRecord s.cfs.tables .line 0 (before ++ l), uncommitted := true, workingValid := false } ∧
         t.pc5 = { s.pc5 with write := none } ∧
         (t.line.zero1 = s.line.zero1 → t.line.scale1 = s.line.scale1 → t.line.zero2 = s.line.zero2 →
           t.line.scale2 = s.line.scale2 → t.msu = s.msu) ∧
         t.ports.con.tx = s.ports.con.tx ++ [resultTelegram .accepted t.attentionSummary 13 []]))

/-- CONFIG READ and QUERY take a snapshot at segment 0 and answer with its first 19 bytes in every line mode; a later segment is
answered from the snapshot as it stands; a name or a segment out of range, and a snapshot of another kind, record or n, is refused, a
CONFIG READ with the configuration status, and nothing else changes (R15, R16, R181; log 25 for the numbers and their place). The bytes of
each query record are stated field by field in the order of its list (R20, R53, R79, R97, R121, R139, R159, R172, R181; log 26 for the
codes that R173 leaves open, log 22 for a value that does not fit its field). -/
def Obligations.ReadsAnswerFromSnapshot : Prop :=
  (∀ s : State, s.takesNow .con = true → s.waits = true →
    (let answer := fun (bytes : List Byte) (k : Byte) =>
       encCount k.toNat ++ encCount ((bytes.length + 18) / 19) ++ (bytes.drop (19 * k.toNat)).take 19
     (∀ (record n : Byte) (bytes : List Byte), record.toNat < 12 → queryRecord record.toNat n.toNat s = some bytes →
       exec (.query record n 0) s =
         .next ((s.withPc5 { s.pc5 with
           read := some { kind := .query, record := record.toNat, n := n.toNat, bytes := bytes } }).concluded .accepted 16
           (answer bytes 0))) ∧
     (∀ (id : TableId) (n : Byte), n.toNat < id.size →
       (let bytes := s.cfs.status ++ recordBytes s.cfs.tables id n.toNat
        exec (.configRead id.code n 0) s =
          .next ((s.withPc5 { s.pc5 with
            read := some { kind := .configRead, record := id.code.toNat, n := n.toNat, bytes := bytes } }).concluded .accepted 14
            (answer bytes 0)))) ∧
     (∀ (b : ReadBuffer) (record n k : Byte), s.pc5.read = some b → b.record = record.toNat → b.n = n.toNat → k ≠ 0 →
       k.toNat < (b.bytes.length + 18) / 19 → record.toNat < 12 →
       (b.kind = .query → exec (.query record n k) s = .next (s.concluded .accepted 16 (answer b.bytes k))) ∧
       (b.kind = .configRead → exec (.configRead record n k) s = .next (s.concluded .accepted 14 (answer b.bytes k)))) ∧
     (∀ record n k : Byte, k ≠ 0 →
       (record.toNat < 12 →
         (∀ b, s.pc5.read = some b → b.kind ≠ .query ∨ b.record ≠ record.toNat ∨ b.n ≠ n.toNat) →
         exec (.query record n k) s = .next (s.concluded .refusedState 16 [3])) ∧
       ((∀ b, s.pc5.read = some b → b.kind ≠ .configRead ∨ b.record ≠ record.toNat ∨ b.n ≠ n.toNat) →
         exec (.configRead record n k) s = .next (s.concluded .refusedState 14 (3 :: s.cfs.status)))) ∧
     (∀ record n : Byte, record.toNat < 12 →
       (record.toNat = 7 ∧ 8 ≤ n.toNat) ∨ (record.toNat = 8 ∧ 16 ≤ n.toNat) ∨ (record.toNat = 9 ∧ 6 ≤ n.toNat) ∨
         (record.toNat ≠ 7 ∧ record.toNat ≠ 8 ∧ record.toNat ≠ 9 ∧ n ≠ 0) →
       exec (.query record n 0) s = .next (s.concluded .refusedRange 16 [2])) ∧
     (∀ table n : Byte, 6 ≤ table.toNat →
       exec (.configRead table n 0) s = .next (s.concluded .refusedRange 14 (1 :: s.cfs.status))) ∧
     (∀ (id : TableId) (n : Byte), id.size ≤ n.toNat →
       exec (.configRead id.code n 0) s = .next (s.concluded .refusedRange 14 (2 :: s.cfs.status))) ∧
     (∀ (b : ReadBuffer) (record n k : Byte), s.pc5.read = some b → b.record = record.toNat → b.n = n.toNat → k ≠ 0 →
       (b.bytes.length + 18) / 19 ≤ k.toNat → record.toNat < 12 →
       (b.kind = .query → exec (.query record n k) s = .next (s.concluded .refusedRange 16 [4])) ∧
       (b.kind = .configRead → exec (.configRead record n k) s = .next (s.concluded .refusedRange 14 (4 :: s.cfs.status)))))) ∧
  (∀ s : State,
    (let one := fun n : Nat => [BitVec.ofNat 8 n]
     let no : List Byte := [0xFF]
     let noWord : List Byte := [0xFF, 0xFF]
     let noPos : List Byte := [0x80, 0, 0, 0]
     let motion := fun d : Option Dir => match d with | some .up => one 0 | some .down => one 1 | none => one 2
     let cause := fun c : Option Cause => match c with | some c => one (c.position - 1) | none => no
     let entry := fun e : CauseEntry => one (e.cause.position - 1) ++ [e.level.causeCode]
     let trip := fun q : Trip => one q.target.val ++ [q.origin.code] ++ encCount q.merged
     let maybeTrip := fun q : Option Trip => match q with | some q => trip q | none => no ++ no ++ no
     let driveReport := match s.rco.driveReport with | some r => [r.state.code, r.sb.code] | none => no ++ no
     let link := fun alive : Bool => if alive then one 0 else one 1
     let outcome := fun o : DatumOutcome => match o with
       | .none => one 0 ++ encPos 0
       | .corrected x => one 1 ++ encPos x
       | .mismatch x => one 2 ++ encPos x
       | .skipped => one 3 ++ encPos 0
     let channel := fun c : Channel =>
       [c.status.code] ++ encPos? c.position ++ encWord c.speed ++ motion c.dir ++ encPos c.offset ++ encCount c.ring.length ++
         encCount c.badRun ++ encWord c.badTotal ++ encFlag c.resynced ++ outcome c.lastDatum
     let term := fun x : LimitTerm => match x with
       | .target => one 0 ++ no
       | .zoneStart z => one 1 ++ one z.val
       | .zoneLimit => one 2 ++ no
       | .line => one 3 ++ no
       | .ceiling => one 4 ++ no
       | .none => one 5 ++ no
     let thresholds := fun v mSb mEb : Nat => encWord v ++ encWord (v + mSb) ++ encWord (v + mEb) ++ encWord (v + 2 * mEb)
     queryRecord 0 0 s = some (
       [s.rco.mode.code] ++
         [s.rco.modeChange.previous.code, s.rco.modeChange.new.code, s.rco.modeChange.cause.code] ++
         encList trip s.rco.modeChange.cancelled ++
         [s.rco.runState.code] ++ encIndex? s.rco.currentStop ++ maybeTrip s.rco.tripInHand ++ encFlag s.rco.jogRun ++
         encFlag s.rco.brakesSet ++ encFlag s.rco.dwellElapsed ++ encTimerSec s.rco.dwellTimer ++
         (match s.rco.firstFailing with | some c => one (c.order - 1) | none => no) ++
         [s.rco.authority.state.code] ++ encIndex? s.rco.authority.targetStop ++ encPos? s.rco.authority.targetPosition ++
         (match s.rco.authority.dir with | some d => [d.code] | none => no) ++ encWord s.rco.authority.ceiling ++
         encPos? s.rco.authority.withdrawalPoint ++ encCount s.rco.abortCount ++ driveReport) ∧
     queryRecord 1 0 s = some (
       channel s.msu.ch1 ++ channel s.msu.ch2 ++ encFlag s.msu.qualified ++ encFlag s.msu.standstill ++ encWord s.msu.vMeas ++
         encPos? s.msu.pSup ++ motion s.msu.motion ++ encFlag s.msu.positionDisagree ++ encCount s.msu.speedDisagree ++
         encFlag s.msu.outOfRange ++
         s.msu.datums.toList.flatMap (fun r => encCount r.edges ++ outcome r.outcome1 ++ outcome r.outcome2)) ∧
     queryRecord 2 0 s = some (
       [s.ssv.mode.code] ++ encIndex? s.ssv.zone ++
         (match s.ssv.snapshot with
           | some x => [x.descending.code] ++ encCount x.tallyA ++ encCount x.tallyB ++ encWord? x.weighA ++ encWord? x.weighB ++
               encWord x.massDescending ++ encWord x.massAscending ++ encWord x.deltaM ++ encWord x.loadUnits
           | none => no ++ no ++ no ++ noWord ++ noWord ++ noWord ++ noWord ++ noWord ++ noWord) ++
         encCount? s.ssv.percent ++ encWord? s.ssv.aZone ++ encWord? s.ssv.aG ++ encWord? s.ssv.target ++
         encList (fun z => one z.1.val ++ encWord z.2) s.ssv.zoneCandidates ++ encWord s.ssv.vPerm ++ term s.ssv.term ++
         encWord s.ssv.mSb ++ encWord s.ssv.mEb ++ thresholds s.ssv.vPerm s.ssv.mSb s.ssv.mEb ++ [s.ssv.asked.code] ++
         encFlag s.ssv.overrunFlag ++
         (match s.ssv.excursion with
           | some x => [x.mode.code] ++ encWord x.vMeas ++ encPos? x.pSup ++ motion x.motion ++ [x.authState.code] ++
               encPos? x.targetPosition ++ encWord x.vPerm ++ term x.term ++ encWord? x.aG ++ thresholds x.vPerm x.mSb x.mEb ++
               [x.asked.code, x.greatestLevel.code] ++ encWord x.greatestV
           | none => no ++ noWord ++ noPos ++ no ++ no ++ noPos ++ noWord ++ no ++ no ++ noWord ++ noWord ++ noWord ++ noWord ++
               noWord ++ no ++ no ++ noWord)) ∧
     queryRecord 3 0 s = some (
       encList entry s.bks.demand.causes ++ [s.bks.demand.latched.latchCode] ++ cause s.bks.demand.first ++
         encFlag s.bks.demand.caution ++ [s.bks.demand.current.code] ++ encFlag s.bks.sbDmd ++ encFlag s.bks.sbConfirmed ++
         encFlag s.bks.ebHold ++ encFlag s.bks.ebProved ++ encFlag s.bks.eblRisen ++
         [(s.door .a).railOrder.code, (s.door .a).rail.code, (s.door .b).railOrder.code, (s.door .b).rail.code] ++
         [s.bks.esc.stage.code] ++ encWord s.bks.esc.vEntry ++ encWord s.bks.esc.checkSpeed ++ encTimerMs s.bks.esc.timer ++
         (match s.bks.esc.last with
           | .none => one 0 ++ no
           | .passed x => one 1 ++ [x.code]
           | .failed x => one 2 ++ [x.code]) ++
         encFlag s.bks.estop.active ++ encTimerMs s.bks.estop.timer ++ encFlag s.bks.estop.qualified) ∧
     queryRecord 4 0 s = some (
       (match s.bks.slot with
         | .idle => one 0 ++ no
         | .departure x => one 1 ++ [x.code]
         | .stop x => one 2 ++ [x.code]) ++
         (match s.bks.stepTimer with
           | some x => [x.which.code] ++ one 1 ++ encWord x.remaining
           | none => no ++ one 0 ++ [0, 0]) ++
         (match s.bks.lastDeparture with
           | .none => one 0 ++ no ++ no
           | .completed => one 1 ++ no ++ no
           | .aborted c x => one 2 ++ [c.code, x.code]) ++
         (match s.bks.lastStop with
           | .none => one 0 ++ one 0
           | .completed => one 1 ++ one 0
           | .completedWithFault l => one 2 ++ encCount l.length ++ l.map StopFault.code) ++
         driveReport) ∧
     (∀ c : Car, queryRecord (match c with | .a => 5 | .b => 6) 0 s = some (
       (let x := s.door c
        [x.door.code] ++ one x.heldToken.val ++ [x.release.code] ++
          (match x.kind with
            | some (.platform k p) => one 0 ++ one k.val ++ one p.val
            | some .evacuation => one 1 ++ no ++ no
            | none => no ++ no ++ no) ++
          one x.counter.val ++ one x.token.val ++ [x.side.code] ++ encTimerMs x.ackTimer ++ encTimerSec x.closeTimer ++
          encFlag x.overdue ++ [x.lastWithdrawal.code, x.lastRefused.code, x.railOrder.code, x.rail.code] ++ encFlag x.carFault ++
          encCount x.stale ++ encCount (s.load c).tally ++ encWord? (s.load c).weigh ++ encFlag (s.load c).overload ++
          link (s.port c.port).alive ++ encFlag (s.load c).tallyOver))) ∧
     (∀ p : Fin 8, queryRecord 7 p.val s = some (
       (let x := s.session p
        encFlag x.isOpen ++ (match x.served with | some c => [c.code] | none => one 2) ++ encIndex? x.stop ++
          encCount x.reservations ++ encTimerSec x.quietTimer ++ encList (fun g => one g.val) x.waiting ++ encFlag x.shared ++
          encCount x.unreserved ++ [x.lastClose.code] ++ encFlag (s.policyAllows p) ++ encCount (s.policyIndex p) ++
          (match x.served with | some c => encCount (s.load c).tally | none => no) ++ encWord s.adu.unattributed))) ∧
     (∀ g : Fin 16, queryRecord 8 g.val s = some (
       (let x := s.gate g
        let e := s.gateEntry g
        encFlag e.present ++ one e.platform.val ++ (match e.dir with | .entry => one 0 | .exit => one 1) ++ [x.state.code] ++
          encFlag x.masked ++ encFlag x.fault ++ encCount x.admissions ++ encCount x.duplicates ++ encTimerSec x.timer ++
          (match (s.session e.platform).waiting.findIdx? (fun h => h == g) with | some i => encCount (i + 1) | none => no) ++
          link (s.port (gateSta g).port).alive))) ∧
     (∀ m : Fin 6, queryRecord 9 m.val s = some (
       (let i : PortId := match m with | 0 => .drv | 1 => .cra | 2 => .crb | 3 => .sta1 | 4 => .sta2 | 5 => .con
        let x := s.port i
        link x.alive ++ encTimerMs x.silence ++ encFlag x.aliveSince ++ encCount x.losses ++ encFlag x.degraded ++
          encCount x.badCrc ++ encCount x.oversize ++ encCount x.unknownKind ++ encCount x.overrun ++ encCount x.rx.length ++
          encCount x.tx.length ++ encCount (x.tx.countP (fun e => e.isNotice)) ++
          encCount ((if x.pendingOrder then 1 else 0) + x.pendingGates.length) ++
          (if x.pendingOrder then [if i = .drv then 0x91 else 0xA1, 0] ++ no ++ no else []) ++
          x.pendingGates.flatMap (fun y => [0xB4] ++ one y.gate.val ++ [y.answer.code, y.reason.code])))) ∧
     queryRecord 10 0 s = some (
       encList trip s.rco.queue ++ encCount s.rco.queue.length ++ encCount s.rco.droppedCount ++ maybeTrip s.rco.lastDropped) ∧
     queryRecord 11 0 s = some (
       (let x := s.cfs.resetCause
        encFlag x.present ++ cause x.firstCause ++ encList entry x.causes ++ [x.latched.latchCode, x.mode.code] ++
          encFlag x.commitInterrupted ++ encCount x.count))))

/-- A CONFIG COMMIT in MAINTENANCE validates the working tables: where they pass the check word is erased and the write begins,
and where they fail the storage stays; it is refused while WRITING and outside MAINTENANCE, and every reply carries the
configuration status (R13, R16, R17; log 11 for the contents stored at once). That a refusal's test number, table and index stand
before the status is the model's choice (log 25). -/
def Obligations.ConfigCommitValidatesFirst : Prop :=
  ∀ s : State, s.takesNow .con = true → s.waits = true →
    (s.cfs.commit = .writing → exec .configCommit s = .next (s.concluded .busy 15 s.cfs.status)) ∧
    (s.cfs.commit = .idle → s.rco.mode ≠ .maintenance →
      exec .configCommit s = .next (s.concluded .refusedMode 15 s.cfs.status)) ∧
    (s.cfs.commit = .idle → s.rco.mode = .maintenance →
      (validate s.cfs.tables = none →
        (let c := { s.cfs with
           lastValidation := .pass, workingValid := true, commit := .writing, checkWord := none, storedValid := false
           stored := s.cfs.tables }
         exec .configCommit s = .next ((s.withCfs c).concluded .accepted 15 c.status))) ∧
      (∀ (id : TableId) (n : Nat), validate s.cfs.tables = some (id, n) →
        (let c := { s.cfs with lastValidation := .failed id n, workingValid := false }
         exec .configCommit s =
           .next ((s.withCfs c).concluded .refusedState 15 ([3, id.code, BitVec.ofNat 8 n] ++ c.status)))))

/-- A CLEAR of an attention item clears it where its condition is gone, and leaves it set with REFUSED_STATE where the condition
still holds; that of PORT_DEGRADED clears every port's flag and bad-CRC counter too (R21, R54, R122, R138, R158, R171). R171 numbers
no tests: the detail of the refusal, 2 and the item, is the model's choice (log 25). -/
def Obligations.ClearTestsTheCondition : Prop :=
  ∀ s : State, s.takesNow .con = true → s.waits = true →
    (∀ i : Attention, i ≠ .portDegraded →
      (let code : Byte := BitVec.ofNat 8 (i.index.val + 1)
       (s.attentionCondition i = false → exec (.clear code) s = .next ((s.clearAttention i).concluded .accepted 17 [])) ∧
       (s.attentionCondition i = true →
         exec (.clear code) s = .next ((s.setAttention i).concluded .refusedState 17 [2, code])))) ∧
    (∃ t, exec (.clear 21) s = .next t ∧ t.att = (s.clearAttention .portDegraded).att ∧
      (∀ i, t.port i = { s.port i with
        degraded := false, badCrc := 0
        tx := (s.port i).tx ++ (if i = .con then [resultTelegram .accepted t.attentionSummary 17 []] else []) }) ∧
      t.rco = s.rested.rco ∧ t.bks = s.bks ∧ t.ssv = s.ssv ∧ t.msu = s.msu ∧ t.dou = s.dou ∧ t.adu = s.adu ∧ t.cfs = s.cfs)

/-- A command kind outside the table, and an argument outside its coding, are answered REFUSED_RANGE with the argument's place in
the detail, before every other test, and change nothing (R170, R179; log 25 for the detail). -/
def Obligations.UncodedCommandsAreRefused : Prop :=
  ∀ s : State, s.takesNow .con = true → s.waits = true →
    (let refused := fun (c : Instr) (kind : Byte) (detail : List Byte) => exec c s = .next (s.concluded .refusedRange kind detail)
     (∀ (kind : Byte) (args : List Byte), refused (.unknownCommand kind args) kind [1]) ∧
     ∀ b x y : Byte,
       (5 ≤ b.toNat → refused (.mode b) 1 [s.rco.mode.code, 0, 1]) ∧
       (6 ≤ b.toNat → refused (.trip b) 2 [0, 1] ∧ refused (.cancel b) 3 [0, 1]) ∧
       (2 ≤ b.toNat → refused (.jog b) 5 [0, 1] ∧ refused (.evacuate b x) 8 [0, 1] ∧ refused (.evacuateEnd b) 9 [0, 1] ∧
         refused (.tallySet b x) 12 [0, 1]) ∧
       (x.toNat < 2 → 3 ≤ b.toNat → refused (.evacuate x b) 8 [0, 2]) ∧
       (16 ≤ b.toNat → refused (.gateMask b) 10 [0, 1] ∧ refused (.gateUnmask b) 11 [0, 1]) ∧
       (12 ≤ b.toNat → refused (.query b x y) 16 [0, 1]) ∧
       (b.toNat = 0 ∨ 26 < b.toNat → refused (.clear b) 17 [0, 1]))
end

