-- ==== Sys2Proof/Laws/State.lean ====
section
/-! SUPPORT. What each update of State leaves in each field, by rfl, and the reads of a record just written. -/

namespace Sys2Proof.Machine

section
variable (s : State) (x : Bool)
@[simp] theorem State.withLoading_loading : (s.withLoading x).loading = x := rfl
@[simp] theorem State.withLoading_cfs : (s.withLoading x).cfs = s.cfs := rfl
@[simp] theorem State.withLoading_msu : (s.withLoading x).msu = s.msu := rfl
@[simp] theorem State.withLoading_rco : (s.withLoading x).rco = s.rco := rfl
@[simp] theorem State.withLoading_ssv : (s.withLoading x).ssv = s.ssv := rfl
@[simp] theorem State.withLoading_bks : (s.withLoading x).bks = s.bks := rfl
@[simp] theorem State.withLoading_dou : (s.withLoading x).dou = s.dou := rfl
@[simp] theorem State.withLoading_adu : (s.withLoading x).adu = s.adu := rfl
@[simp] theorem State.withLoading_ports : (s.withLoading x).ports = s.ports := rfl
@[simp] theorem State.withLoading_pc5 : (s.withLoading x).pc5 = s.pc5 := rfl
@[simp] theorem State.withLoading_att : (s.withLoading x).att = s.att := rfl
@[simp] theorem State.withLoading_answering : (s.withLoading x).answering = s.answering := rfl
@[simp] theorem State.withLoading_held : (s.withLoading x).held = s.held := rfl
@[simp] theorem State.withLoading_completing : (s.withLoading x).completing = s.completing := rfl
@[simp] theorem State.withLoading_pending : (s.withLoading x).pending = s.pending := rfl
end

section
variable (s : State) (x : Cfs)
@[simp] theorem State.withCfs_loading : (s.withCfs x).loading = s.loading := rfl
@[simp] theorem State.withCfs_cfs : (s.withCfs x).cfs = x := rfl
@[simp] theorem State.withCfs_msu : (s.withCfs x).msu = s.msu := rfl
@[simp] theorem State.withCfs_rco : (s.withCfs x).rco = s.rco := rfl
@[simp] theorem State.withCfs_ssv : (s.withCfs x).ssv = s.ssv := rfl
@[simp] theorem State.withCfs_bks : (s.withCfs x).bks = s.bks := rfl
@[simp] theorem State.withCfs_dou : (s.withCfs x).dou = s.dou := rfl
@[simp] theorem State.withCfs_adu : (s.withCfs x).adu = s.adu := rfl
@[simp] theorem State.withCfs_ports : (s.withCfs x).ports = s.ports := rfl
@[simp] theorem State.withCfs_pc5 : (s.withCfs x).pc5 = s.pc5 := rfl
@[simp] theorem State.withCfs_att : (s.withCfs x).att = s.att := rfl
@[simp] theorem State.withCfs_answering : (s.withCfs x).answering = s.answering := rfl
@[simp] theorem State.withCfs_held : (s.withCfs x).held = s.held := rfl
@[simp] theorem State.withCfs_completing : (s.withCfs x).completing = s.completing := rfl
@[simp] theorem State.withCfs_pending : (s.withCfs x).pending = s.pending := rfl
end

section
variable (s : State) (x : Msu)
@[simp] theorem State.withMsu_loading : (s.withMsu x).loading = s.loading := rfl
@[simp] theorem State.withMsu_cfs : (s.withMsu x).cfs = s.cfs := rfl
@[simp] theorem State.withMsu_msu : (s.withMsu x).msu = x := rfl
@[simp] theorem State.withMsu_rco : (s.withMsu x).rco = s.rco := rfl
@[simp] theorem State.withMsu_ssv : (s.withMsu x).ssv = s.ssv := rfl
@[simp] theorem State.withMsu_bks : (s.withMsu x).bks = s.bks := rfl
@[simp] theorem State.withMsu_dou : (s.withMsu x).dou = s.dou := rfl
@[simp] theorem State.withMsu_adu : (s.withMsu x).adu = s.adu := rfl
@[simp] theorem State.withMsu_ports : (s.withMsu x).ports = s.ports := rfl
@[simp] theorem State.withMsu_pc5 : (s.withMsu x).pc5 = s.pc5 := rfl
@[simp] theorem State.withMsu_att : (s.withMsu x).att = s.att := rfl
@[simp] theorem State.withMsu_answering : (s.withMsu x).answering = s.answering := rfl
@[simp] theorem State.withMsu_held : (s.withMsu x).held = s.held := rfl
@[simp] theorem State.withMsu_completing : (s.withMsu x).completing = s.completing := rfl
@[simp] theorem State.withMsu_pending : (s.withMsu x).pending = s.pending := rfl
end

section
variable (s : State) (x : Rco)
@[simp] theorem State.withRco_loading : (s.withRco x).loading = s.loading := rfl
@[simp] theorem State.withRco_cfs : (s.withRco x).cfs = s.cfs := rfl
@[simp] theorem State.withRco_msu : (s.withRco x).msu = s.msu := rfl
@[simp] theorem State.withRco_rco : (s.withRco x).rco = x := rfl
@[simp] theorem State.withRco_ssv : (s.withRco x).ssv = s.ssv := rfl
@[simp] theorem State.withRco_bks : (s.withRco x).bks = s.bks := rfl
@[simp] theorem State.withRco_dou : (s.withRco x).dou = s.dou := rfl
@[simp] theorem State.withRco_adu : (s.withRco x).adu = s.adu := rfl
@[simp] theorem State.withRco_ports : (s.withRco x).ports = s.ports := rfl
@[simp] theorem State.withRco_pc5 : (s.withRco x).pc5 = s.pc5 := rfl
@[simp] theorem State.withRco_att : (s.withRco x).att = s.att := rfl
@[simp] theorem State.withRco_answering : (s.withRco x).answering = s.answering := rfl
@[simp] theorem State.withRco_held : (s.withRco x).held = s.held := rfl
@[simp] theorem State.withRco_completing : (s.withRco x).completing = s.completing := rfl
@[simp] theorem State.withRco_pending : (s.withRco x).pending = s.pending := rfl
end

section
variable (s : State) (x : Ssv)
@[simp] theorem State.withSsv_loading : (s.withSsv x).loading = s.loading := rfl
@[simp] theorem State.withSsv_cfs : (s.withSsv x).cfs = s.cfs := rfl
@[simp] theorem State.withSsv_msu : (s.withSsv x).msu = s.msu := rfl
@[simp] theorem State.withSsv_rco : (s.withSsv x).rco = s.rco := rfl
@[simp] theorem State.withSsv_ssv : (s.withSsv x).ssv = x := rfl
@[simp] theorem State.withSsv_bks : (s.withSsv x).bks = s.bks := rfl
@[simp] theorem State.withSsv_dou : (s.withSsv x).dou = s.dou := rfl
@[simp] theorem State.withSsv_adu : (s.withSsv x).adu = s.adu := rfl
@[simp] theorem State.withSsv_ports : (s.withSsv x).ports = s.ports := rfl
@[simp] theorem State.withSsv_pc5 : (s.withSsv x).pc5 = s.pc5 := rfl
@[simp] theorem State.withSsv_att : (s.withSsv x).att = s.att := rfl
@[simp] theorem State.withSsv_answering : (s.withSsv x).answering = s.answering := rfl
@[simp] theorem State.withSsv_held : (s.withSsv x).held = s.held := rfl
@[simp] theorem State.withSsv_completing : (s.withSsv x).completing = s.completing := rfl
@[simp] theorem State.withSsv_pending : (s.withSsv x).pending = s.pending := rfl
end

section
variable (s : State) (x : Bks)
@[simp] theorem State.withBks_loading : (s.withBks x).loading = s.loading := rfl
@[simp] theorem State.withBks_cfs : (s.withBks x).cfs = s.cfs := rfl
@[simp] theorem State.withBks_msu : (s.withBks x).msu = s.msu := rfl
@[simp] theorem State.withBks_rco : (s.withBks x).rco = s.rco := rfl
@[simp] theorem State.withBks_ssv : (s.withBks x).ssv = s.ssv := rfl
@[simp] theorem State.withBks_bks : (s.withBks x).bks = x := rfl
@[simp] theorem State.withBks_dou : (s.withBks x).dou = s.dou := rfl
@[simp] theorem State.withBks_adu : (s.withBks x).adu = s.adu := rfl
@[simp] theorem State.withBks_ports : (s.withBks x).ports = s.ports := rfl
@[simp] theorem State.withBks_pc5 : (s.withBks x).pc5 = s.pc5 := rfl
@[simp] theorem State.withBks_att : (s.withBks x).att = s.att := rfl
@[simp] theorem State.withBks_answering : (s.withBks x).answering = s.answering := rfl
@[simp] theorem State.withBks_held : (s.withBks x).held = s.held := rfl
@[simp] theorem State.withBks_completing : (s.withBks x).completing = s.completing := rfl
@[simp] theorem State.withBks_pending : (s.withBks x).pending = s.pending := rfl
end

section
variable (s : State) (x : PerCar DoorRecord)
@[simp] theorem State.withDou_loading : (s.withDou x).loading = s.loading := rfl
@[simp] theorem State.withDou_cfs : (s.withDou x).cfs = s.cfs := rfl
@[simp] theorem State.withDou_msu : (s.withDou x).msu = s.msu := rfl
@[simp] theorem State.withDou_rco : (s.withDou x).rco = s.rco := rfl
@[simp] theorem State.withDou_ssv : (s.withDou x).ssv = s.ssv := rfl
@[simp] theorem State.withDou_bks : (s.withDou x).bks = s.bks := rfl
@[simp] theorem State.withDou_dou : (s.withDou x).dou = x := rfl
@[simp] theorem State.withDou_adu : (s.withDou x).adu = s.adu := rfl
@[simp] theorem State.withDou_ports : (s.withDou x).ports = s.ports := rfl
@[simp] theorem State.withDou_pc5 : (s.withDou x).pc5 = s.pc5 := rfl
@[simp] theorem State.withDou_att : (s.withDou x).att = s.att := rfl
@[simp] theorem State.withDou_answering : (s.withDou x).answering = s.answering := rfl
@[simp] theorem State.withDou_held : (s.withDou x).held = s.held := rfl
@[simp] theorem State.withDou_completing : (s.withDou x).completing = s.completing := rfl
@[simp] theorem State.withDou_pending : (s.withDou x).pending = s.pending := rfl
end

section
variable (s : State) (x : Adu)
@[simp] theorem State.withAdu_loading : (s.withAdu x).loading = s.loading := rfl
@[simp] theorem State.withAdu_cfs : (s.withAdu x).cfs = s.cfs := rfl
@[simp] theorem State.withAdu_msu : (s.withAdu x).msu = s.msu := rfl
@[simp] theorem State.withAdu_rco : (s.withAdu x).rco = s.rco := rfl
@[simp] theorem State.withAdu_ssv : (s.withAdu x).ssv = s.ssv := rfl
@[simp] theorem State.withAdu_bks : (s.withAdu x).bks = s.bks := rfl
@[simp] theorem State.withAdu_dou : (s.withAdu x).dou = s.dou := rfl
@[simp] theorem State.withAdu_adu : (s.withAdu x).adu = x := rfl
@[simp] theorem State.withAdu_ports : (s.withAdu x).ports = s.ports := rfl
@[simp] theorem State.withAdu_pc5 : (s.withAdu x).pc5 = s.pc5 := rfl
@[simp] theorem State.withAdu_att : (s.withAdu x).att = s.att := rfl
@[simp] theorem State.withAdu_answering : (s.withAdu x).answering = s.answering := rfl
@[simp] theorem State.withAdu_held : (s.withAdu x).held = s.held := rfl
@[simp] theorem State.withAdu_completing : (s.withAdu x).completing = s.completing := rfl
@[simp] theorem State.withAdu_pending : (s.withAdu x).pending = s.pending := rfl
end

section
variable (s : State) (x : Ports)
@[simp] theorem State.withPorts_loading : (s.withPorts x).loading = s.loading := rfl
@[simp] theorem State.withPorts_cfs : (s.withPorts x).cfs = s.cfs := rfl
@[simp] theorem State.withPorts_msu : (s.withPorts x).msu = s.msu := rfl
@[simp] theorem State.withPorts_rco : (s.withPorts x).rco = s.rco := rfl
@[simp] theorem State.withPorts_ssv : (s.withPorts x).ssv = s.ssv := rfl
@[simp] theorem State.withPorts_bks : (s.withPorts x).bks = s.bks := rfl
@[simp] theorem State.withPorts_dou : (s.withPorts x).dou = s.dou := rfl
@[simp] theorem State.withPorts_adu : (s.withPorts x).adu = s.adu := rfl
@[simp] theorem State.withPorts_ports : (s.withPorts x).ports = x := rfl
@[simp] theorem State.withPorts_pc5 : (s.withPorts x).pc5 = s.pc5 := rfl
@[simp] theorem State.withPorts_att : (s.withPorts x).att = s.att := rfl
@[simp] theorem State.withPorts_answering : (s.withPorts x).answering = s.answering := rfl
@[simp] theorem State.withPorts_held : (s.withPorts x).held = s.held := rfl
@[simp] theorem State.withPorts_completing : (s.withPorts x).completing = s.completing := rfl
@[simp] theorem State.withPorts_pending : (s.withPorts x).pending = s.pending := rfl
end

section
variable (s : State) (x : Pc5)
@[simp] theorem State.withPc5_loading : (s.withPc5 x).loading = s.loading := rfl
@[simp] theorem State.withPc5_cfs : (s.withPc5 x).cfs = s.cfs := rfl
@[simp] theorem State.withPc5_msu : (s.withPc5 x).msu = s.msu := rfl
@[simp] theorem State.withPc5_rco : (s.withPc5 x).rco = s.rco := rfl
@[simp] theorem State.withPc5_ssv : (s.withPc5 x).ssv = s.ssv := rfl
@[simp] theorem State.withPc5_bks : (s.withPc5 x).bks = s.bks := rfl
@[simp] theorem State.withPc5_dou : (s.withPc5 x).dou = s.dou := rfl
@[simp] theorem State.withPc5_adu : (s.withPc5 x).adu = s.adu := rfl
@[simp] theorem State.withPc5_ports : (s.withPc5 x).ports = s.ports := rfl
@[simp] theorem State.withPc5_pc5 : (s.withPc5 x).pc5 = x := rfl
@[simp] theorem State.withPc5_att : (s.withPc5 x).att = s.att := rfl
@[simp] theorem State.withPc5_answering : (s.withPc5 x).answering = s.answering := rfl
@[simp] theorem State.withPc5_held : (s.withPc5 x).held = s.held := rfl
@[simp] theorem State.withPc5_completing : (s.withPc5 x).completing = s.completing := rfl
@[simp] theorem State.withPc5_pending : (s.withPc5 x).pending = s.pending := rfl
end

section
variable (s : State) (x : Vector Bool 26)
@[simp] theorem State.withAtt_loading : (s.withAtt x).loading = s.loading := rfl
@[simp] theorem State.withAtt_cfs : (s.withAtt x).cfs = s.cfs := rfl
@[simp] theorem State.withAtt_msu : (s.withAtt x).msu = s.msu := rfl
@[simp] theorem State.withAtt_rco : (s.withAtt x).rco = s.rco := rfl
@[simp] theorem State.withAtt_ssv : (s.withAtt x).ssv = s.ssv := rfl
@[simp] theorem State.withAtt_bks : (s.withAtt x).bks = s.bks := rfl
@[simp] theorem State.withAtt_dou : (s.withAtt x).dou = s.dou := rfl
@[simp] theorem State.withAtt_adu : (s.withAtt x).adu = s.adu := rfl
@[simp] theorem State.withAtt_ports : (s.withAtt x).ports = s.ports := rfl
@[simp] theorem State.withAtt_pc5 : (s.withAtt x).pc5 = s.pc5 := rfl
@[simp] theorem State.withAtt_att : (s.withAtt x).att = x := rfl
@[simp] theorem State.withAtt_answering : (s.withAtt x).answering = s.answering := rfl
@[simp] theorem State.withAtt_held : (s.withAtt x).held = s.held := rfl
@[simp] theorem State.withAtt_completing : (s.withAtt x).completing = s.completing := rfl
@[simp] theorem State.withAtt_pending : (s.withAtt x).pending = s.pending := rfl
end

section
variable (s : State) (x : Option PortId)
@[simp] theorem State.withAnswering_loading : (s.withAnswering x).loading = s.loading := rfl
@[simp] theorem State.withAnswering_cfs : (s.withAnswering x).cfs = s.cfs := rfl
@[simp] theorem State.withAnswering_msu : (s.withAnswering x).msu = s.msu := rfl
@[simp] theorem State.withAnswering_rco : (s.withAnswering x).rco = s.rco := rfl
@[simp] theorem State.withAnswering_ssv : (s.withAnswering x).ssv = s.ssv := rfl
@[simp] theorem State.withAnswering_bks : (s.withAnswering x).bks = s.bks := rfl
@[simp] theorem State.withAnswering_dou : (s.withAnswering x).dou = s.dou := rfl
@[simp] theorem State.withAnswering_adu : (s.withAnswering x).adu = s.adu := rfl
@[simp] theorem State.withAnswering_ports : (s.withAnswering x).ports = s.ports := rfl
@[simp] theorem State.withAnswering_pc5 : (s.withAnswering x).pc5 = s.pc5 := rfl
@[simp] theorem State.withAnswering_att : (s.withAnswering x).att = s.att := rfl
@[simp] theorem State.withAnswering_answering : (s.withAnswering x).answering = x := rfl
@[simp] theorem State.withAnswering_held : (s.withAnswering x).held = s.held := rfl
@[simp] theorem State.withAnswering_completing : (s.withAnswering x).completing = s.completing := rfl
@[simp] theorem State.withAnswering_pending : (s.withAnswering x).pending = s.pending := rfl
end

section
variable (s : State) (x : List Notice)
@[simp] theorem State.withHeld_loading : (s.withHeld x).loading = s.loading := rfl
@[simp] theorem State.withHeld_cfs : (s.withHeld x).cfs = s.cfs := rfl
@[simp] theorem State.withHeld_msu : (s.withHeld x).msu = s.msu := rfl
@[simp] theorem State.withHeld_rco : (s.withHeld x).rco = s.rco := rfl
@[simp] theorem State.withHeld_ssv : (s.withHeld x).ssv = s.ssv := rfl
@[simp] theorem State.withHeld_bks : (s.withHeld x).bks = s.bks := rfl
@[simp] theorem State.withHeld_dou : (s.withHeld x).dou = s.dou := rfl
@[simp] theorem State.withHeld_adu : (s.withHeld x).adu = s.adu := rfl
@[simp] theorem State.withHeld_ports : (s.withHeld x).ports = s.ports := rfl
@[simp] theorem State.withHeld_pc5 : (s.withHeld x).pc5 = s.pc5 := rfl
@[simp] theorem State.withHeld_att : (s.withHeld x).att = s.att := rfl
@[simp] theorem State.withHeld_answering : (s.withHeld x).answering = s.answering := rfl
@[simp] theorem State.withHeld_held : (s.withHeld x).held = x := rfl
@[simp] theorem State.withHeld_completing : (s.withHeld x).completing = s.completing := rfl
@[simp] theorem State.withHeld_pending : (s.withHeld x).pending = s.pending := rfl
end

section
variable (s : State) (x : Option PortId)
@[simp] theorem State.withCompleting_loading : (s.withCompleting x).loading = s.loading := rfl
@[simp] theorem State.withCompleting_cfs : (s.withCompleting x).cfs = s.cfs := rfl
@[simp] theorem State.withCompleting_msu : (s.withCompleting x).msu = s.msu := rfl
@[simp] theorem State.withCompleting_rco : (s.withCompleting x).rco = s.rco := rfl
@[simp] theorem State.withCompleting_ssv : (s.withCompleting x).ssv = s.ssv := rfl
@[simp] theorem State.withCompleting_bks : (s.withCompleting x).bks = s.bks := rfl
@[simp] theorem State.withCompleting_dou : (s.withCompleting x).dou = s.dou := rfl
@[simp] theorem State.withCompleting_adu : (s.withCompleting x).adu = s.adu := rfl
@[simp] theorem State.withCompleting_ports : (s.withCompleting x).ports = s.ports := rfl
@[simp] theorem State.withCompleting_pc5 : (s.withCompleting x).pc5 = s.pc5 := rfl
@[simp] theorem State.withCompleting_att : (s.withCompleting x).att = s.att := rfl
@[simp] theorem State.withCompleting_answering : (s.withCompleting x).answering = s.answering := rfl
@[simp] theorem State.withCompleting_held : (s.withCompleting x).held = s.held := rfl
@[simp] theorem State.withCompleting_completing : (s.withCompleting x).completing = x := rfl
@[simp] theorem State.withCompleting_pending : (s.withCompleting x).pending = s.pending := rfl
end

section
variable (s : State) (x : List Instr)
@[simp] theorem State.withPending_loading : (s.withPending x).loading = s.loading := rfl
@[simp] theorem State.withPending_cfs : (s.withPending x).cfs = s.cfs := rfl
@[simp] theorem State.withPending_msu : (s.withPending x).msu = s.msu := rfl
@[simp] theorem State.withPending_rco : (s.withPending x).rco = s.rco := rfl
@[simp] theorem State.withPending_ssv : (s.withPending x).ssv = s.ssv := rfl
@[simp] theorem State.withPending_bks : (s.withPending x).bks = s.bks := rfl
@[simp] theorem State.withPending_dou : (s.withPending x).dou = s.dou := rfl
@[simp] theorem State.withPending_adu : (s.withPending x).adu = s.adu := rfl
@[simp] theorem State.withPending_ports : (s.withPending x).ports = s.ports := rfl
@[simp] theorem State.withPending_pc5 : (s.withPending x).pc5 = s.pc5 := rfl
@[simp] theorem State.withPending_att : (s.withPending x).att = s.att := rfl
@[simp] theorem State.withPending_answering : (s.withPending x).answering = s.answering := rfl
@[simp] theorem State.withPending_held : (s.withPending x).held = s.held := rfl
@[simp] theorem State.withPending_completing : (s.withPending x).completing = s.completing := rfl
@[simp] theorem State.withPending_pending : (s.withPending x).pending = x := rfl
end

section
variable (s : State) (i : PortId) (p : Port)
@[simp] theorem State.withPort_loading : (s.withPort i p).loading = s.loading := rfl
@[simp] theorem State.withPort_cfs : (s.withPort i p).cfs = s.cfs := rfl
@[simp] theorem State.withPort_msu : (s.withPort i p).msu = s.msu := rfl
@[simp] theorem State.withPort_rco : (s.withPort i p).rco = s.rco := rfl
@[simp] theorem State.withPort_ssv : (s.withPort i p).ssv = s.ssv := rfl
@[simp] theorem State.withPort_bks : (s.withPort i p).bks = s.bks := rfl
@[simp] theorem State.withPort_dou : (s.withPort i p).dou = s.dou := rfl
@[simp] theorem State.withPort_adu : (s.withPort i p).adu = s.adu := rfl
@[simp] theorem State.withPort_ports : (s.withPort i p).ports = s.ports.set i p := rfl
@[simp] theorem State.withPort_pc5 : (s.withPort i p).pc5 = s.pc5 := rfl
@[simp] theorem State.withPort_att : (s.withPort i p).att = s.att := rfl
@[simp] theorem State.withPort_answering : (s.withPort i p).answering = s.answering := rfl
@[simp] theorem State.withPort_held : (s.withPort i p).held = s.held := rfl
@[simp] theorem State.withPort_completing : (s.withPort i p).completing = s.completing := rfl
@[simp] theorem State.withPort_pending : (s.withPort i p).pending = s.pending := rfl
end

section
variable (s : State) (c : Car) (d : DoorRecord)
@[simp] theorem State.withDoor_loading : (s.withDoor c d).loading = s.loading := rfl
@[simp] theorem State.withDoor_cfs : (s.withDoor c d).cfs = s.cfs := rfl
@[simp] theorem State.withDoor_msu : (s.withDoor c d).msu = s.msu := rfl
@[simp] theorem State.withDoor_rco : (s.withDoor c d).rco = s.rco := rfl
@[simp] theorem State.withDoor_ssv : (s.withDoor c d).ssv = s.ssv := rfl
@[simp] theorem State.withDoor_bks : (s.withDoor c d).bks = s.bks := rfl
@[simp] theorem State.withDoor_dou : (s.withDoor c d).dou = s.dou.set c d := rfl
@[simp] theorem State.withDoor_adu : (s.withDoor c d).adu = s.adu := rfl
@[simp] theorem State.withDoor_ports : (s.withDoor c d).ports = s.ports := rfl
@[simp] theorem State.withDoor_pc5 : (s.withDoor c d).pc5 = s.pc5 := rfl
@[simp] theorem State.withDoor_att : (s.withDoor c d).att = s.att := rfl
@[simp] theorem State.withDoor_answering : (s.withDoor c d).answering = s.answering := rfl
@[simp] theorem State.withDoor_held : (s.withDoor c d).held = s.held := rfl
@[simp] theorem State.withDoor_completing : (s.withDoor c d).completing = s.completing := rfl
@[simp] theorem State.withDoor_pending : (s.withDoor c d).pending = s.pending := rfl
end

section
variable (s : State) (c : Car) (l : LoadRecord)
@[simp] theorem State.withLoad_loading : (s.withLoad c l).loading = s.loading := rfl
@[simp] theorem State.withLoad_cfs : (s.withLoad c l).cfs = s.cfs := rfl
@[simp] theorem State.withLoad_msu : (s.withLoad c l).msu = s.msu := rfl
@[simp] theorem State.withLoad_rco : (s.withLoad c l).rco = s.rco := rfl
@[simp] theorem State.withLoad_ssv : (s.withLoad c l).ssv = s.ssv := rfl
@[simp] theorem State.withLoad_bks : (s.withLoad c l).bks = s.bks := rfl
@[simp] theorem State.withLoad_dou : (s.withLoad c l).dou = s.dou := rfl
@[simp] theorem State.withLoad_adu : (s.withLoad c l).adu = { s.adu with load := s.adu.load.set c l } := rfl
@[simp] theorem State.withLoad_ports : (s.withLoad c l).ports = s.ports := rfl
@[simp] theorem State.withLoad_pc5 : (s.withLoad c l).pc5 = s.pc5 := rfl
@[simp] theorem State.withLoad_att : (s.withLoad c l).att = s.att := rfl
@[simp] theorem State.withLoad_answering : (s.withLoad c l).answering = s.answering := rfl
@[simp] theorem State.withLoad_held : (s.withLoad c l).held = s.held := rfl
@[simp] theorem State.withLoad_completing : (s.withLoad c l).completing = s.completing := rfl
@[simp] theorem State.withLoad_pending : (s.withLoad c l).pending = s.pending := rfl
end

section
variable (s : State) (g : Fin 16) (x : GateChannel)
@[simp] theorem State.withGate_loading : (s.withGate g x).loading = s.loading := rfl
@[simp] theorem State.withGate_cfs : (s.withGate g x).cfs = s.cfs := rfl
@[simp] theorem State.withGate_msu : (s.withGate g x).msu = s.msu := rfl
@[simp] theorem State.withGate_rco : (s.withGate g x).rco = s.rco := rfl
@[simp] theorem State.withGate_ssv : (s.withGate g x).ssv = s.ssv := rfl
@[simp] theorem State.withGate_bks : (s.withGate g x).bks = s.bks := rfl
@[simp] theorem State.withGate_dou : (s.withGate g x).dou = s.dou := rfl
@[simp] theorem State.withGate_adu : (s.withGate g x).adu = { s.adu with gates := s.adu.gates.set g.val x g.isLt } := rfl
@[simp] theorem State.withGate_ports : (s.withGate g x).ports = s.ports := rfl
@[simp] theorem State.withGate_pc5 : (s.withGate g x).pc5 = s.pc5 := rfl
@[simp] theorem State.withGate_att : (s.withGate g x).att = s.att := rfl
@[simp] theorem State.withGate_answering : (s.withGate g x).answering = s.answering := rfl
@[simp] theorem State.withGate_held : (s.withGate g x).held = s.held := rfl
@[simp] theorem State.withGate_completing : (s.withGate g x).completing = s.completing := rfl
@[simp] theorem State.withGate_pending : (s.withGate g x).pending = s.pending := rfl
end

section
variable (s : State) (p : Fin 8) (x : Session)
@[simp] theorem State.withSession_loading : (s.withSession p x).loading = s.loading := rfl
@[simp] theorem State.withSession_cfs : (s.withSession p x).cfs = s.cfs := rfl
@[simp] theorem State.withSession_msu : (s.withSession p x).msu = s.msu := rfl
@[simp] theorem State.withSession_rco : (s.withSession p x).rco = s.rco := rfl
@[simp] theorem State.withSession_ssv : (s.withSession p x).ssv = s.ssv := rfl
@[simp] theorem State.withSession_bks : (s.withSession p x).bks = s.bks := rfl
@[simp] theorem State.withSession_dou : (s.withSession p x).dou = s.dou := rfl
@[simp] theorem State.withSession_adu : (s.withSession p x).adu = { s.adu with sessions := s.adu.sessions.set p.val x p.isLt } := rfl
@[simp] theorem State.withSession_ports : (s.withSession p x).ports = s.ports := rfl
@[simp] theorem State.withSession_pc5 : (s.withSession p x).pc5 = s.pc5 := rfl
@[simp] theorem State.withSession_att : (s.withSession p x).att = s.att := rfl
@[simp] theorem State.withSession_answering : (s.withSession p x).answering = s.answering := rfl
@[simp] theorem State.withSession_held : (s.withSession p x).held = s.held := rfl
@[simp] theorem State.withSession_completing : (s.withSession p x).completing = s.completing := rfl
@[simp] theorem State.withSession_pending : (s.withSession p x).pending = s.pending := rfl
end

section
variable (s : State) (d : Demand)
@[simp] theorem State.withDemand_loading : (s.withDemand d).loading = s.loading := rfl
@[simp] theorem State.withDemand_cfs : (s.withDemand d).cfs = s.cfs := rfl
@[simp] theorem State.withDemand_msu : (s.withDemand d).msu = s.msu := rfl
@[simp] theorem State.withDemand_rco : (s.withDemand d).rco = s.rco := rfl
@[simp] theorem State.withDemand_ssv : (s.withDemand d).ssv = s.ssv := rfl
@[simp] theorem State.withDemand_bks : (s.withDemand d).bks = { s.bks with demand := d } := rfl
@[simp] theorem State.withDemand_dou : (s.withDemand d).dou = s.dou := rfl
@[simp] theorem State.withDemand_adu : (s.withDemand d).adu = s.adu := rfl
@[simp] theorem State.withDemand_ports : (s.withDemand d).ports = s.ports := rfl
@[simp] theorem State.withDemand_pc5 : (s.withDemand d).pc5 = s.pc5 := rfl
@[simp] theorem State.withDemand_att : (s.withDemand d).att = s.att := rfl
@[simp] theorem State.withDemand_answering : (s.withDemand d).answering = s.answering := rfl
@[simp] theorem State.withDemand_held : (s.withDemand d).held = s.held := rfl
@[simp] theorem State.withDemand_completing : (s.withDemand d).completing = s.completing := rfl
@[simp] theorem State.withDemand_pending : (s.withDemand d).pending = s.pending := rfl
end

section
variable (s : State) (i : Attention)
@[simp] theorem State.setAttention_loading : (s.setAttention i).loading = s.loading := rfl
@[simp] theorem State.setAttention_cfs : (s.setAttention i).cfs = s.cfs := rfl
@[simp] theorem State.setAttention_msu : (s.setAttention i).msu = s.msu := rfl
@[simp] theorem State.setAttention_rco : (s.setAttention i).rco = s.rco := rfl
@[simp] theorem State.setAttention_ssv : (s.setAttention i).ssv = s.ssv := rfl
@[simp] theorem State.setAttention_bks : (s.setAttention i).bks = s.bks := rfl
@[simp] theorem State.setAttention_dou : (s.setAttention i).dou = s.dou := rfl
@[simp] theorem State.setAttention_adu : (s.setAttention i).adu = s.adu := rfl
@[simp] theorem State.setAttention_ports : (s.setAttention i).ports = s.ports := rfl
@[simp] theorem State.setAttention_pc5 : (s.setAttention i).pc5 = s.pc5 := rfl
@[simp] theorem State.setAttention_att : (s.setAttention i).att = s.att.set i.index.val true i.index.isLt := rfl
@[simp] theorem State.setAttention_answering : (s.setAttention i).answering = s.answering := rfl
@[simp] theorem State.setAttention_held : (s.setAttention i).held = s.held := rfl
@[simp] theorem State.setAttention_completing : (s.setAttention i).completing = s.completing := rfl
@[simp] theorem State.setAttention_pending : (s.setAttention i).pending = s.pending := rfl
end

section
variable (s : State) (i : Attention)
@[simp] theorem State.clearAttention_loading : (s.clearAttention i).loading = s.loading := rfl
@[simp] theorem State.clearAttention_cfs : (s.clearAttention i).cfs = s.cfs := rfl
@[simp] theorem State.clearAttention_msu : (s.clearAttention i).msu = s.msu := rfl
@[simp] theorem State.clearAttention_rco : (s.clearAttention i).rco = s.rco := rfl
@[simp] theorem State.clearAttention_ssv : (s.clearAttention i).ssv = s.ssv := rfl
@[simp] theorem State.clearAttention_bks : (s.clearAttention i).bks = s.bks := rfl
@[simp] theorem State.clearAttention_dou : (s.clearAttention i).dou = s.dou := rfl
@[simp] theorem State.clearAttention_adu : (s.clearAttention i).adu = s.adu := rfl
@[simp] theorem State.clearAttention_ports : (s.clearAttention i).ports = s.ports := rfl
@[simp] theorem State.clearAttention_pc5 : (s.clearAttention i).pc5 = s.pc5 := rfl
@[simp] theorem State.clearAttention_att : (s.clearAttention i).att = s.att.set i.index.val false i.index.isLt := rfl
@[simp] theorem State.clearAttention_answering : (s.clearAttention i).answering = s.answering := rfl
@[simp] theorem State.clearAttention_held : (s.clearAttention i).held = s.held := rfl
@[simp] theorem State.clearAttention_completing : (s.clearAttention i).completing = s.completing := rfl
@[simp] theorem State.clearAttention_pending : (s.clearAttention i).pending = s.pending := rfl
end

/-! ### Reading back -/

@[simp] theorem PerCar.get_set_same {α : Type} (p : PerCar α) (c : Car) (x : α) : (p.set c x).get c = x := by cases c <;> rfl

theorem PerCar.get_set_other {α : Type} (p : PerCar α) {c d : Car} (x : α) (h : c ≠ d) : (p.set d x).get c = p.get c := by
  cases c <;> cases d <;> first | rfl | exact absurd rfl h

@[simp] theorem Ports.get_set_same (p : Ports) (i : PortId) (x : Port) : (p.set i x).get i = x := by cases i <;> rfl

theorem Ports.get_set_other (p : Ports) {i j : PortId} (x : Port) (h : i ≠ j) : (p.set j x).get i = p.get i := by
  cases i <;> cases j <;> first | rfl | exact absurd rfl h

@[simp] theorem State.port_withPort_same (s : State) (i : PortId) (p : Port) : (s.withPort i p).port i = p := by
  simp [State.port]

theorem State.port_withPort_other (s : State) {i j : PortId} (p : Port) (h : i ≠ j) : (s.withPort j p).port i = s.port i := by
  simp [State.port, Ports.get_set_other _ _ h]

@[simp] theorem State.door_withDoor_same (s : State) (c : Car) (d : DoorRecord) : (s.withDoor c d).door c = d := by
  simp [State.door]

theorem State.door_withDoor_other (s : State) {c e : Car} (d : DoorRecord) (h : c ≠ e) : (s.withDoor e d).door c = s.door c := by
  simp [State.door, PerCar.get_set_other _ _ h]

@[simp] theorem State.load_withLoad_same (s : State) (c : Car) (l : LoadRecord) : (s.withLoad c l).load c = l := by
  simp [State.load]

theorem State.load_withLoad_other (s : State) {c e : Car} (l : LoadRecord) (h : c ≠ e) : (s.withLoad e l).load c = s.load c := by
  simp [State.load, PerCar.get_set_other _ _ h]

/-- An entry of a table as an indexed read. -/
theorem get_eq_getElem {α : Type} {n : Nat} (v : Vector α n) (i : Fin n) : v.get i = v[i.val] := rfl

@[simp] theorem get_set_same {α : Type} {n : Nat} (v : Vector α n) (i : Fin n) (x : α) : (v.set i.val x i.isLt).get i = x := by
  simp [get_eq_getElem]

theorem get_set_other {α : Type} {n : Nat} (v : Vector α n) {i j : Fin n} (x : α) (h : i ≠ j) :
    (v.set j.val x j.isLt).get i = v.get i := by
  simp [get_eq_getElem, Fin.val_ne_of_ne h.symm]

@[simp] theorem get_mapVec {α β : Type} {n : Nat} (f : α → β) (v : Vector α n) (i : Fin n) :
    (mapVec f v).get i = f (v.get i) := by
  simp [mapVec, get_eq_getElem]

@[simp] theorem State.gate_withGate_same (s : State) (g : Fin 16) (x : GateChannel) : (s.withGate g x).gate g = x := by
  simp [State.gate]

theorem State.gate_withGate_other (s : State) {g h : Fin 16} (x : GateChannel) (n : g ≠ h) :
    (s.withGate h x).gate g = s.gate g := by
  simp [State.gate, get_set_other _ _ n]

@[simp] theorem State.session_withSession_same (s : State) (p : Fin 8) (x : Session) : (s.withSession p x).session p = x := by
  simp [State.session]

theorem State.session_withSession_other (s : State) {p q : Fin 8} (x : Session) (n : p ≠ q) :
    (s.withSession q x).session p = s.session p := by
  simp [State.session, get_set_other _ _ n]

@[simp] theorem State.session_withGate (s : State) (g : Fin 16) (x : GateChannel) (p : Fin 8) :
    (s.withGate g x).session p = s.session p := rfl

@[simp] theorem State.gate_withSession (s : State) (p : Fin 8) (x : Session) (g : Fin 16) :
    (s.withSession p x).gate g = s.gate g := rfl

@[simp] theorem State.load_withGate (s : State) (g : Fin 16) (x : GateChannel) (c : Car) :
    (s.withGate g x).load c = s.load c := rfl

@[simp] theorem State.load_withSession (s : State) (p : Fin 8) (x : Session) (c : Car) :
    (s.withSession p x).load c = s.load c := rfl

/-- An item just set is set. -/
@[simp] theorem State.attention_setAttention_same (s : State) (i : Attention) : (s.setAttention i).attention i = true := by
  simp [State.attention]

/-- Setting an item leaves every item that was set. -/
theorem State.attention_setAttention (s : State) (i j : Attention) (h : s.attention i = true) :
    (s.setAttention j).attention i = true := by
  by_cases e : i.index = j.index
  · simp [State.attention, e]
  · simpa [State.attention, get_set_other _ _ e] using h

/-- An item just cleared is clear. -/
@[simp] theorem State.attention_clearAttention_same (s : State) (i : Attention) :
    (s.clearAttention i).attention i = false := by
  simp [State.attention]

end Sys2Proof.Machine
end

