-- ==== Sys2Proof/Laws/Events.lean ====
section
/-! SUPPORT. The ends of an event, said once: the readiness stage where nothing departs, and what a request that is taken at once does. -/

namespace Sys2Proof.Machine

/-- Where nothing departs, an event's end records the first failing condition and no more. -/
theorem endEvent_of_waits {s : State} (h : s.waits = true) : endEvent s = s.rested := by
  unfold endEvent readinessStage State.rested
  by_cases hr : s.rco.runState = .closing
  · simp only [State.waits, hr, bne_self_eq_false, Bool.false_or, Bool.or_eq_true] at h
    simp only [hr, if_true]
    split
    · simp_all
    · rfl
  · simp [hr]

/-- The condition that waits for no departure holds still after the event's end. -/
theorem rested_waits (s : State) : s.rested.waits = s.waits := rfl

/-- A record put back into the port it stands in changes nothing. -/
theorem withPort_port (s : State) (i : PortId) : s.withPort i (s.port i) = s := by
  cases i <;> rfl

/-- Of two updates of one port the later stands. -/
theorem withPort_withPort (s : State) (i : PortId) (p q : Port) : (s.withPort i p).withPort i q = s.withPort i q := by
  cases i <;> rfl

/-- What a request that is decided now leaves: the decision, the end of the event, the reply, and the notices that waited for it. -/
def answered (i : PortId) (r : Request) (s : State) : State :=
  let d := decideRequest i r (s.withAnswering (some i))
  let s2 := (endEvent d.1).withAnswering none
  releaseNotices (placeReply i (d.2.form s2) s2)

/-- A request offered to a port that takes it now is decided and answered in the same event (R163, R164). -/
theorem offerRequest_of_takesNow {s : State} {i : PortId} (r : Request) (h : s.takesNow i = true) :
    offerRequest i r s = answered i r s := by
  simp only [State.takesNow, Bool.and_eq_true, beq_iff_eq] at h
  obtain ⟨⟨⟨_, _⟩, hrx⟩, hm⟩ := h
  have hport : ∀ p, (s.withPort i p).port i = p := fun p => by cases i <;> rfl
  have htake : ({ s.port i with rx := [r] } : Port).mayTake = true := hm
  simp only [offerRequest, hrx, List.length_nil, List.nil_append, takeAll, hport, List.length_singleton, takeRequests, htake,
    if_true, answerRequest, withPort_withPort]
  rw [if_pos (by decide)]
  have hback : s.withPort i { s.port i with rx := [] } = s := by
    rw [← hrx]
    exact withPort_port s i
  simp only [hback]
  rfl

/-- An operating part takes an event. -/
theorem whileOperating_of_operating {s : State} (f : State → State) (h : s.operating = true) : whileOperating s f = f s := by
  simp [whileOperating, h]

/-- A request taken now finds the part operating. -/
theorem operating_of_takesNow {s : State} {i : PortId} (h : s.takesNow i = true) : s.operating = true := by
  simp only [State.takesNow, Bool.and_eq_true] at h
  exact h.1.1.1

/-! ### Requests for a stop -/

/-- The statements' test of a shortened run is that of the operations (R75). -/
theorem shortensTo_iff (s : State) (k : Fin 6) :
    s.shortensTo k ↔ (s.mayRetarget && s.liesAhead k && s.reachable k) = true := by
  simp only [State.shortensTo, State.mayRetarget, State.liesAhead, State.reachable, Bool.and_eq_true, beq_iff_eq,
    Bool.not_eq_true', decide_eq_true_eq]
  rcases s.msu.pSup with _ | p <;> rcases s.rco.authority.targetPosition with _ | t <;>
    rcases s.rco.authority.dir with _ | (_ | _) <;> simp [Dir.beyond]
  all_goals
    constructor
    · rintro ⟨h1, h2, h3, h4, h5, h6, h7, h8⟩
      simp only [h1, h2, h3, h4, h5, h6, h7, h8, and_self]
    · rintro ⟨⟨⟨⟨h1, h2⟩, h3⟩, ⟨h4, h5⟩, h6⟩, h7, h8⟩
      simp only [h1, h2, h3, h4, h5, h6, h7, h8, and_self]

/-- The statements' test of a head that goes is that of the operations (R68). -/
theorem headGoes_iff (s : State) : s.headGoes ↔ s.mayTake = true := by
  unfold State.headGoes State.mayTake
  cases s.rco.mode <;> cases s.rco.runState <;> simp

end Sys2Proof.Machine
end

