-- ==== Sys2Proof/Laws/Notices.lean ====
section
/-! SUPPORT. What a notice can do to a port and to the part (R164, R166): `Port.Noticed` and `Calm` say it once, and every operation
that touches the ports by notices alone is shown to be calm in Laws/Frames.lean. -/

namespace Sys2Proof.Machine

/-- What notices leave of a port: everything but its notices, and all of it while its link is LOST. -/
structure Port.Noticed (p q : Port) : Prop where
  frame : q.frame = p.frame
  rx : q.rx = p.rx
  degraded : q.degraded = p.degraded
  badCrc : q.badCrc = p.badCrc
  oversize : q.oversize = p.oversize
  unknownKind : q.unknownKind = p.unknownKind
  overrun : q.overrun = p.overrun
  alive : q.alive = p.alive
  silence : q.silence = p.silence
  aliveSince : q.aliveSince = p.aliveSince
  losses : q.losses = p.losses
  replies : (q.tx.filter fun e => !e.isNotice) = p.tx.filter fun e => !e.isNotice
  grows : p.tx.length ≤ q.tx.length
  capacity : p.tx.length ≤ txCapacity → q.tx.length ≤ txCapacity
  place : ∀ (k : Nat) (e : TxEntry), p.tx[k]? = some e → e.isNotice = false → q.tx[k]? = some e
  lost : p.alive = false → q = p

theorem Port.Noticed.refl (p : Port) : p.Noticed p := by
  constructor <;> first | rfl | exact Nat.le_refl _ | (intros; assumption) | (intro _; rfl)

theorem Port.Noticed.trans {p q r : Port} (a : p.Noticed q) (b : q.Noticed r) : p.Noticed r where
  frame := b.frame.trans a.frame
  rx := b.rx.trans a.rx
  degraded := b.degraded.trans a.degraded
  badCrc := b.badCrc.trans a.badCrc
  oversize := b.oversize.trans a.oversize
  unknownKind := b.unknownKind.trans a.unknownKind
  overrun := b.overrun.trans a.overrun
  alive := b.alive.trans a.alive
  silence := b.silence.trans a.silence
  aliveSince := b.aliveSince.trans a.aliveSince
  losses := b.losses.trans a.losses
  replies := b.replies.trans a.replies
  grows := Nat.le_trans a.grows b.grows
  capacity h := b.capacity (a.capacity h)
  place k e h n := b.place k e (a.place k e h n) n
  lost h := (b.lost (a.alive.trans h)).trans (a.lost h)

/-- What replacing the newest entry that `p` picks can do to a queue. -/
theorem replaceLast_spec (p : TxEntry → Bool) (e : TxEntry) (hp : ∀ x, p x = true → x.isNotice = true) (he : e.isNotice = true)
    (l l' : List TxEntry) (h : replaceLast p e l = some l') :
    l'.length = l.length ∧ (l'.filter fun e => !e.isNotice) = (l.filter fun e => !e.isNotice) ∧
      ∀ (k : Nat) (x : TxEntry), l[k]? = some x → x.isNotice = false → l'[k]? = some x := by
  induction l generalizing l' with
  | nil => simp [replaceLast] at h
  | cons y rest ih =>
    simp only [replaceLast] at h
    split at h
    · rename_i r hr
      obtain ⟨a, b, c⟩ := ih r hr
      cases h
      refine ⟨by simp [a], by simp [List.filter_cons, b], ?_⟩
      intro k x hk hx
      cases k with
      | zero => simpa using hk
      | succ k => simpa using c k x (by simpa using hk) hx
    · split at h
      · rename_i hy
        cases h
        refine ⟨rfl, by simp [hp y hy, he], ?_⟩
        intro k x hk hx
        cases k with
        | zero => simp at hk; subst hk; simp [hp _ hy] at hx
        | succ k => simpa using hk
      · cases h

theorem replaceQueued_spec (b : Bool) (e : TxEntry) (he : e.isNotice = true) (l l' : List TxEntry)
    (h : replaceQueued b e l = some l') :
    l'.length = l.length ∧ (l'.filter fun e => !e.isNotice) = (l.filter fun e => !e.isNotice) ∧
      ∀ (k : Nat) (x : TxEntry), l[k]? = some x → x.isNotice = false → l'[k]? = some x := by
  have notice : ∀ x, sameKey e x = true → x.isNotice = true := fun x hx => by simp [sameKey] at hx; exact hx.1.1
  cases b with
  | false => exact replaceLast_spec (sameKey e) e notice he l l' (by simpa [replaceQueued] using h)
  | true =>
  cases l with
  | nil => simp [replaceQueued] at h
  | cons y rest =>
    simp only [replaceQueued, Option.map_eq_some_iff] at h
    obtain ⟨r, hr, rfl⟩ := h
    obtain ⟨a, b, c⟩ := replaceLast_spec (sameKey e) e notice he rest r hr
    refine ⟨by simp [a], by simp [List.filter_cons, b], ?_⟩
    intro k x hk hx
    cases k with
    | zero => simpa using hk
    | succ k => simpa using c k x (by simpa using hk) hx

theorem Port.setPending_noticed (p : Port) (h : p.alive ≠ false) (n : Notice) : p.Noticed (p.setPending n) := by
  cases n <;> constructor <;>
    first | rfl | exact Nat.le_refl _ | (intros; assumption) | (intro a; exact absurd a h)

theorem Port.offer_noticed (p : Port) (b : Bool) (n : Notice) (e : TxEntry) (he : e.isNotice = true) :
    p.Noticed (p.offer b n e) := by
  unfold Port.offer
  split
  · exact .refl p
  · rename_i h
    have ha : p.alive ≠ false := by simpa using h
    split
    · rename_i hf
      have hlt : p.tx.length < txCapacity := by simp [Port.freePlace] at hf; exact hf.1
      constructor <;> try rfl
      · simp [List.filter_append, he]
      · simp
      · intro _; simp; omega
      · intro k x hk _
        have hk' := (List.getElem?_eq_some_iff.mp hk).1
        simp [List.getElem?_append_left hk', hk]
      · intro a; exact absurd a ha
    · split
      · rename_i tx ht
        obtain ⟨a, b, c⟩ := replaceQueued_spec _ e he p.tx tx ht
        constructor <;> first | rfl | skip
        · exact b
        · simp [a]
        · intro h'; simpa [a] using h'
        · exact c
        · intro a'; exact absurd a' ha
      · exact p.setPending_noticed ha n

theorem Notice.entry_isNotice (s : State) (n : Notice) : (n.entry s).isNotice = true := by cases n <;> rfl

/-- What is the same after an operation that acts on the ports by notices alone, and where no load, no measurement, no
configuration, no report and no pin changes. -/
structure Calm (s t : State) : Prop where
  loading : t.loading = s.loading
  cfs : t.cfs = s.cfs
  msu : t.msu = s.msu
  pc5 : t.pc5 = s.pc5
  answering : t.answering = s.answering
  completing : t.completing = s.completing
  pending : t.pending = s.pending
  load : t.adu.load = s.adu.load
  unattributed : t.adu.unattributed = s.adu.unattributed
  driveReport : t.rco.driveReport = s.rco.driveReport
  estop : t.bks.estop = s.bks.estop
  eblRisen : t.bks.eblRisen = s.bks.eblRisen
  attention : ∀ a, s.attention a = true → t.attention a = true
  ports : ∀ i, (s.port i).Noticed (t.port i)
  own : ∀ i, s.answering = some i → t.port i = s.port i
  held : s.answering = none → t.held = s.held
  doors : ∀ c, (t.door c).door = (s.door c).door ∧ (t.door c).rail = (s.door c).rail ∧
    (t.door c).carFault = (s.door c).carFault ∧ (t.door c).heldToken = (s.door c).heldToken ∧
    (t.door c).stale = (s.door c).stale
  gates : ∀ g, (t.gate g).masked = (s.gate g).masked ∧ (t.gate g).fault = (s.gate g).fault ∧
    (t.gate g).duplicates = (s.gate g).duplicates

theorem Calm.refl (s : State) : Calm s s := by
  constructor <;> first | rfl | (intros; assumption) | (intro i; exact .refl _) | (intros; rfl) | (intros; exact ⟨rfl, rfl, rfl, rfl, rfl⟩) | (intros; exact ⟨rfl, rfl, rfl⟩)

theorem Calm.trans {s t u : State} (a : Calm s t) (b : Calm t u) : Calm s u where
  loading := b.loading.trans a.loading
  cfs := b.cfs.trans a.cfs
  msu := b.msu.trans a.msu
  pc5 := b.pc5.trans a.pc5
  answering := b.answering.trans a.answering
  completing := b.completing.trans a.completing
  pending := b.pending.trans a.pending
  load := b.load.trans a.load
  unattributed := b.unattributed.trans a.unattributed
  driveReport := b.driveReport.trans a.driveReport
  estop := b.estop.trans a.estop
  eblRisen := b.eblRisen.trans a.eblRisen
  attention x h := b.attention x (a.attention x h)
  ports i := (a.ports i).trans (b.ports i)
  own i h := (b.own i (a.answering.trans h)).trans (a.own i h)
  held h := (b.held (a.answering.trans h)).trans (a.held h)
  doors c := by
    obtain ⟨a1, a2, a3, a4, a5⟩ := a.doors c
    obtain ⟨b1, b2, b3, b4, b5⟩ := b.doors c
    exact ⟨b1.trans a1, b2.trans a2, b3.trans a3, b4.trans a4, b5.trans a5⟩
  gates g := by
    obtain ⟨a1, a2, a3⟩ := a.gates g
    obtain ⟨b1, b2, b3⟩ := b.gates g
    exact ⟨b1.trans a1, b2.trans a2, b3.trans a3⟩

/-- Two calm operations, the later one first. -/
theorem Calm.after {s t u : State} (b : Calm t u) (a : Calm s t) : Calm s u := a.trans b

theorem Calm.foldl {α : Type} {f : State → α → State} (hf : ∀ s x, Calm s (f s x)) (l : List α) (s : State) :
    Calm s (l.foldl f s) := by
  induction l generalizing s with
  | nil => exact .refl s
  | cons x l ih => exact (hf s x).trans (ih _)

/-- An update of the run record that leaves the latest drive report. -/
theorem Calm.withRco (s : State) (x : Rco) (h : x.driveReport = s.rco.driveReport) : Calm s (s.withRco x) :=
  { Calm.refl s with
    driveReport := h }

theorem Calm.withSsv (s : State) (x : Ssv) : Calm s (s.withSsv x) := { Calm.refl s with }

/-- An update of the Brake Sequencer that leaves its two pins. -/
theorem Calm.withBks (s : State) (x : Bks) (h : x.estop = s.bks.estop) (e : x.eblRisen = s.bks.eblRisen) :
    Calm s (s.withBks x) :=
  { Calm.refl s with
    estop := h
    eblRisen := e }

/-- An update of a door record that leaves what the car reported. -/
theorem Calm.withDoor (s : State) (c : Car) (d : DoorRecord) (h1 : d.door = (s.door c).door) (h2 : d.rail = (s.door c).rail)
    (h3 : d.carFault = (s.door c).carFault) (h4 : d.heldToken = (s.door c).heldToken) (h5 : d.stale = (s.door c).stale) :
    Calm s (s.withDoor c d) :=
  { Calm.refl s with
    doors := fun e => by
      by_cases h : e = c
      · subst h; simp [h1, h2, h3, h4, h5]
      · simp [State.door_withDoor_other _ _ h] }

/-- An update of a gate channel that leaves its mask, its fault and its duplicate count. -/
theorem Calm.withGate (s : State) (g : Fin 16) (x : GateChannel) (h1 : x.masked = (s.gate g).masked)
    (h2 : x.fault = (s.gate g).fault) (h3 : x.duplicates = (s.gate g).duplicates) : Calm s (s.withGate g x) :=
  { Calm.refl s with
    gates := fun e => by
      by_cases h : e = g
      · subst h; simp [h1, h2, h3]
      · simp [State.gate_withGate_other _ _ h] }

theorem Calm.withSession (s : State) (p : Fin 8) (x : Session) : Calm s (s.withSession p x) := { Calm.refl s with }

theorem Calm.setAttention (s : State) (i : Attention) : Calm s (s.setAttention i) :=
  { Calm.refl s with
    attention := fun a h => s.attention_setAttention a i h }

theorem Calm.offerNotice (s : State) (n : Notice) (h : s.answering ≠ some n.port) : Calm s (offerNotice s n) :=
  { Calm.refl s with
    ports := fun i => by
      unfold Machine.offerNotice
      by_cases hi : i = n.port
      · subst hi; simpa using Port.offer_noticed _ _ n _ (n.entry_isNotice s)
      · simpa [State.port_withPort_other _ _ hi] using Port.Noticed.refl _
    own := fun i hi => by
      unfold Machine.offerNotice
      by_cases e : i = n.port
      · subst e; exact absurd hi h
      · simp [State.port_withPort_other _ _ e] }

theorem Calm.handNotice (s : State) (n : Notice) : Calm s (handNotice s n) := by
  unfold Machine.handNotice
  split
  · rename_i h
    exact { Calm.refl s with held := fun a => by simp [a] at h }
  · rename_i h; exact Calm.offerNotice s n h

/-- A choice between two states, each calm. -/
theorem Calm.ite {s a b : State} {c : Prop} [Decidable c] (ha : c → Calm s a) (hb : ¬c → Calm s b) :
    Calm s (if c then a else b) := by
  split
  · exact ha ‹_›
  · exact hb ‹_›

end Sys2Proof.Machine
end

