-- ==== Sys2Proof/Laws/Footprints.lean ====
section
/-! SUPPORT. The footprints of the Admission Unit's and the Door Unit's operations: the blocks that each leaves as they are. -/

namespace Sys2Proof.Machine


theorem foldl_rco {α : Type} {f : State → α → State} (h : ∀ s x, (f s x).rco = s.rco) (l : List α) (s : State) :
    (l.foldl f s).rco = s.rco := by
  induction l generalizing s with
  | nil => rfl
  | cons x l ih => simp [ih, h]

theorem foldl_ssv {α : Type} {f : State → α → State} (h : ∀ s x, (f s x).ssv = s.ssv) (l : List α) (s : State) :
    (l.foldl f s).ssv = s.ssv := by
  induction l generalizing s with
  | nil => rfl
  | cons x l ih => simp [ih, h]

theorem foldl_bks {α : Type} {f : State → α → State} (h : ∀ s x, (f s x).bks = s.bks) (l : List α) (s : State) :
    (l.foldl f s).bks = s.bks := by
  induction l generalizing s with
  | nil => rfl
  | cons x l ih => simp [ih, h]

theorem foldl_dou {α : Type} {f : State → α → State} (h : ∀ s x, (f s x).dou = s.dou) (l : List α) (s : State) :
    (l.foldl f s).dou = s.dou := by
  induction l generalizing s with
  | nil => rfl
  | cons x l ih => simp [ih, h]

@[simp] theorem handNotice_rco (s : State) (n : Notice) : (handNotice s n).rco = s.rco := by unfold handNotice; split <;> simp [offerNotice]

@[simp] theorem handNotice_ssv (s : State) (n : Notice) : (handNotice s n).ssv = s.ssv := by unfold handNotice; split <;> simp [offerNotice]

@[simp] theorem handNotice_bks (s : State) (n : Notice) : (handNotice s n).bks = s.bks := by unfold handNotice; split <;> simp [offerNotice]

@[simp] theorem handNotice_dou (s : State) (n : Notice) : (handNotice s n).dou = s.dou := by unfold handNotice; split <;> simp [offerNotice]

@[simp] theorem noticeGate_rco (g : Fin 16) (a : NoticeAnswer) (r : Reason) (s : State) : (noticeGate g a r s).rco = s.rco := by
  unfold noticeGate
  simp [*]

@[simp] theorem noticeGate_ssv (g : Fin 16) (a : NoticeAnswer) (r : Reason) (s : State) : (noticeGate g a r s).ssv = s.ssv := by
  unfold noticeGate
  simp [*]

@[simp] theorem noticeGate_bks (g : Fin 16) (a : NoticeAnswer) (r : Reason) (s : State) : (noticeGate g a r s).bks = s.bks := by
  unfold noticeGate
  simp [*]

@[simp] theorem noticeGate_dou (g : Fin 16) (a : NoticeAnswer) (r : Reason) (s : State) : (noticeGate g a r s).dou = s.dou := by
  unfold noticeGate
  simp [*]

@[simp] theorem idleGate_rco (g : Fin 16) (s : State) : (idleGate g s).rco = s.rco := by
  unfold idleGate; (try dsimp only)
  simp [*]

@[simp] theorem idleGate_ssv (g : Fin 16) (s : State) : (idleGate g s).ssv = s.ssv := by
  unfold idleGate; (try dsimp only)
  simp [*]

@[simp] theorem idleGate_bks (g : Fin 16) (s : State) : (idleGate g s).bks = s.bks := by
  unfold idleGate; (try dsimp only)
  simp [*]

@[simp] theorem idleGate_dou (g : Fin 16) (s : State) : (idleGate g s).dou = s.dou := by
  unfold idleGate; (try dsimp only)
  simp [*]

@[simp] theorem closeWaiting_rco (s : State) (g : Fin 16) : (closeWaiting s g).rco = s.rco := by
  unfold closeWaiting
  simp [*]

@[simp] theorem closeWaiting_ssv (s : State) (g : Fin 16) : (closeWaiting s g).ssv = s.ssv := by
  unfold closeWaiting
  simp [*]

@[simp] theorem closeWaiting_bks (s : State) (g : Fin 16) : (closeWaiting s g).bks = s.bks := by
  unfold closeWaiting
  simp [*]

@[simp] theorem closeWaiting_dou (s : State) (g : Fin 16) : (closeWaiting s g).dou = s.dou := by
  unfold closeWaiting
  simp [*]

@[simp] theorem closeReserved_rco (p : Fin 8) (s : State) (g : Fin 16) : (closeReserved p s g).rco = s.rco := by
  unfold closeReserved; repeat' split
  all_goals simp [*]

@[simp] theorem closeReserved_ssv (p : Fin 8) (s : State) (g : Fin 16) : (closeReserved p s g).ssv = s.ssv := by
  unfold closeReserved; repeat' split
  all_goals simp [*]

@[simp] theorem closeReserved_bks (p : Fin 8) (s : State) (g : Fin 16) : (closeReserved p s g).bks = s.bks := by
  unfold closeReserved; repeat' split
  all_goals simp [*]

@[simp] theorem closeReserved_dou (p : Fin 8) (s : State) (g : Fin 16) : (closeReserved p s g).dou = s.dou := by
  unfold closeReserved; repeat' split
  all_goals simp [*]

@[simp] theorem closeSession_rco (r : CloseReason) (s : State) (p : Fin 8) : (closeSession r s p).rco = s.rco := by
  unfold closeSession; repeat' split
  all_goals simp [foldl_rco, *]

@[simp] theorem closeSession_ssv (r : CloseReason) (s : State) (p : Fin 8) : (closeSession r s p).ssv = s.ssv := by
  unfold closeSession; repeat' split
  all_goals simp [foldl_ssv, *]

@[simp] theorem closeSession_bks (r : CloseReason) (s : State) (p : Fin 8) : (closeSession r s p).bks = s.bks := by
  unfold closeSession; repeat' split
  all_goals simp [foldl_bks, *]

@[simp] theorem closeSession_dou (r : CloseReason) (s : State) (p : Fin 8) : (closeSession r s p).dou = s.dou := by
  unfold closeSession; repeat' split
  all_goals simp [foldl_dou, *]

@[simp] theorem closeAll_rco (r : CloseReason) (s : State) : (closeAll r s).rco = s.rco := by
  unfold closeAll
  simp [foldl_rco, *]

@[simp] theorem closeAll_ssv (r : CloseReason) (s : State) : (closeAll r s).ssv = s.ssv := by
  unfold closeAll
  simp [foldl_ssv, *]

@[simp] theorem closeAll_bks (r : CloseReason) (s : State) : (closeAll r s).bks = s.bks := by
  unfold closeAll
  simp [foldl_bks, *]

@[simp] theorem closeAll_dou (r : CloseReason) (s : State) : (closeAll r s).dou = s.dou := by
  unfold closeAll
  simp [foldl_dou, *]

@[simp] theorem releaseLost_rco (c : Car) (s : State) : (releaseLost c s).rco = s.rco := by
  unfold releaseLost
  refine (foldl_rco (fun s x => by (try split) <;> simp) _ _).trans ?_
  rfl

@[simp] theorem releaseLost_ssv (c : Car) (s : State) : (releaseLost c s).ssv = s.ssv := by
  unfold releaseLost
  refine (foldl_ssv (fun s x => by (try split) <;> simp) _ _).trans ?_
  rfl

@[simp] theorem releaseLost_bks (c : Car) (s : State) : (releaseLost c s).bks = s.bks := by
  unfold releaseLost
  refine (foldl_bks (fun s x => by (try split) <;> simp) _ _).trans ?_
  rfl

@[simp] theorem releaseLost_dou (c : Car) (s : State) : (releaseLost c s).dou = s.dou := by
  unfold releaseLost
  refine (foldl_dou (fun s x => by (try split) <;> simp) _ _).trans ?_
  rfl

@[simp] theorem reserve_rco (p : Fin 8) (g : Fin 16) (s : State) : (reserve p g s).rco = s.rco := by
  unfold reserve; (try dsimp only)
  simp [*]

@[simp] theorem reserve_ssv (p : Fin 8) (g : Fin 16) (s : State) : (reserve p g s).ssv = s.ssv := by
  unfold reserve; (try dsimp only)
  simp [*]

@[simp] theorem reserve_bks (p : Fin 8) (g : Fin 16) (s : State) : (reserve p g s).bks = s.bks := by
  unfold reserve; (try dsimp only)
  simp [*]

@[simp] theorem reserve_dou (p : Fin 8) (g : Fin 16) (s : State) : (reserve p g s).dou = s.dou := by
  unfold reserve; (try dsimp only)
  simp [*]

@[simp] theorem grant_rco (p : Fin 8) (g : Fin 16) (s : State) : (grant p g s).rco = s.rco := by
  unfold grant; (try dsimp only)
  simp [*]

@[simp] theorem grant_ssv (p : Fin 8) (g : Fin 16) (s : State) : (grant p g s).ssv = s.ssv := by
  unfold grant; (try dsimp only)
  simp [*]

@[simp] theorem grant_bks (p : Fin 8) (g : Fin 16) (s : State) : (grant p g s).bks = s.bks := by
  unfold grant; (try dsimp only)
  simp [*]

@[simp] theorem grant_dou (p : Fin 8) (g : Fin 16) (s : State) : (grant p g s).dou = s.dou := by
  unfold grant; (try dsimp only)
  simp [*]

@[simp] theorem grantWaiting_rco (p : Fin 8) (n : Nat) (s : State) : (grantWaiting p n s).rco = s.rco := by
  induction n generalizing s with
  | zero => rfl
  | succ n ih =>
    unfold grantWaiting; repeat' split
    all_goals simp [ih]

@[simp] theorem grantWaiting_ssv (p : Fin 8) (n : Nat) (s : State) : (grantWaiting p n s).ssv = s.ssv := by
  induction n generalizing s with
  | zero => rfl
  | succ n ih =>
    unfold grantWaiting; repeat' split
    all_goals simp [ih]

@[simp] theorem grantWaiting_bks (p : Fin 8) (n : Nat) (s : State) : (grantWaiting p n s).bks = s.bks := by
  induction n generalizing s with
  | zero => rfl
  | succ n ih =>
    unfold grantWaiting; repeat' split
    all_goals simp [ih]

@[simp] theorem grantWaiting_dou (p : Fin 8) (n : Nat) (s : State) : (grantWaiting p n s).dou = s.dou := by
  induction n generalizing s with
  | zero => rfl
  | succ n ih =>
    unfold grantWaiting; repeat' split
    all_goals simp [ih]

@[simp] theorem evaluatePolicy_rco (s : State) (p : Fin 8) : (evaluatePolicy s p).rco = s.rco := by
  unfold evaluatePolicy
  simp [*]

@[simp] theorem evaluatePolicy_ssv (s : State) (p : Fin 8) : (evaluatePolicy s p).ssv = s.ssv := by
  unfold evaluatePolicy
  simp [*]

@[simp] theorem evaluatePolicy_bks (s : State) (p : Fin 8) : (evaluatePolicy s p).bks = s.bks := by
  unfold evaluatePolicy
  simp [*]

@[simp] theorem evaluatePolicy_dou (s : State) (p : Fin 8) : (evaluatePolicy s p).dou = s.dou := by
  unfold evaluatePolicy
  simp [*]

@[simp] theorem evaluateLoad_rco (s : State) (c : Car) : (evaluateLoad s c).rco = s.rco := by
  unfold evaluateLoad; (try dsimp only); repeat' split
  all_goals simp [*]

@[simp] theorem evaluateLoad_ssv (s : State) (c : Car) : (evaluateLoad s c).ssv = s.ssv := by
  unfold evaluateLoad; (try dsimp only); repeat' split
  all_goals simp [*]

@[simp] theorem evaluateLoad_bks (s : State) (c : Car) : (evaluateLoad s c).bks = s.bks := by
  unfold evaluateLoad; (try dsimp only); repeat' split
  all_goals simp [*]

@[simp] theorem evaluateLoad_dou (s : State) (c : Car) : (evaluateLoad s c).dou = s.dou := by
  unfold evaluateLoad; (try dsimp only); repeat' split
  all_goals simp [*]

@[simp] theorem afterTally_rco (c : Car) (s : State) : (afterTally c s).rco = s.rco := by
  unfold afterTally
  refine (foldl_rco (fun s x => by (try split) <;> simp) _ _).trans ?_
  simp

@[simp] theorem afterTally_ssv (c : Car) (s : State) : (afterTally c s).ssv = s.ssv := by
  unfold afterTally
  refine (foldl_ssv (fun s x => by (try split) <;> simp) _ _).trans ?_
  simp

@[simp] theorem afterTally_bks (c : Car) (s : State) : (afterTally c s).bks = s.bks := by
  unfold afterTally
  refine (foldl_bks (fun s x => by (try split) <;> simp) _ _).trans ?_
  simp

@[simp] theorem afterTally_dou (c : Car) (s : State) : (afterTally c s).dou = s.dou := by
  unfold afterTally
  refine (foldl_dou (fun s x => by (try split) <;> simp) _ _).trans ?_
  simp

@[simp] theorem setTally_rco (c : Car) (n : Nat) (s : State) : (setTally c n s).rco = s.rco := by
  unfold setTally; (try dsimp only)
  simp [*]

@[simp] theorem setTally_ssv (c : Car) (n : Nat) (s : State) : (setTally c n s).ssv = s.ssv := by
  unfold setTally; (try dsimp only)
  simp [*]

@[simp] theorem setTally_bks (c : Car) (n : Nat) (s : State) : (setTally c n s).bks = s.bks := by
  unfold setTally; (try dsimp only)
  simp [*]

@[simp] theorem setTally_dou (c : Car) (n : Nat) (s : State) : (setTally c n s).dou = s.dou := by
  unfold setTally; (try dsimp only)
  simp [*]

@[simp] theorem takeWeigh_rco (c : Car) (w : Option Nat) (s : State) : (takeWeigh c w s).rco = s.rco := by
  unfold takeWeigh; (try dsimp only)
  simp [*]

@[simp] theorem takeWeigh_ssv (c : Car) (w : Option Nat) (s : State) : (takeWeigh c w s).ssv = s.ssv := by
  unfold takeWeigh; (try dsimp only)
  simp [*]

@[simp] theorem takeWeigh_bks (c : Car) (w : Option Nat) (s : State) : (takeWeigh c w s).bks = s.bks := by
  unfold takeWeigh; (try dsimp only)
  simp [*]

@[simp] theorem takeWeigh_dou (c : Car) (w : Option Nat) (s : State) : (takeWeigh c w s).dou = s.dou := by
  unfold takeWeigh; (try dsimp only)
  simp [*]

@[simp] theorem clearAdmissions_rco (p : Fin 8) (s : State) (g : Fin 16) : (clearAdmissions p s g).rco = s.rco := by
  unfold clearAdmissions; (try dsimp only); repeat' split
  all_goals simp [*]

@[simp] theorem clearAdmissions_ssv (p : Fin 8) (s : State) (g : Fin 16) : (clearAdmissions p s g).ssv = s.ssv := by
  unfold clearAdmissions; (try dsimp only); repeat' split
  all_goals simp [*]

@[simp] theorem clearAdmissions_bks (p : Fin 8) (s : State) (g : Fin 16) : (clearAdmissions p s g).bks = s.bks := by
  unfold clearAdmissions; (try dsimp only); repeat' split
  all_goals simp [*]

@[simp] theorem clearAdmissions_dou (p : Fin 8) (s : State) (g : Fin 16) : (clearAdmissions p s g).dou = s.dou := by
  unfold clearAdmissions; (try dsimp only); repeat' split
  all_goals simp [*]

@[simp] theorem releaseHeld_rco (c : Car) (k : Fin 6) (p : Fin 8) (s : State) : (releaseHeld c k p s).rco = s.rco := by
  unfold releaseHeld; repeat' split
  all_goals simp [foldl_rco, *]

@[simp] theorem releaseHeld_ssv (c : Car) (k : Fin 6) (p : Fin 8) (s : State) : (releaseHeld c k p s).ssv = s.ssv := by
  unfold releaseHeld; repeat' split
  all_goals simp [foldl_ssv, *]

@[simp] theorem releaseHeld_bks (c : Car) (k : Fin 6) (p : Fin 8) (s : State) : (releaseHeld c k p s).bks = s.bks := by
  unfold releaseHeld; repeat' split
  all_goals simp [foldl_bks, *]

@[simp] theorem releaseHeld_dou (c : Car) (k : Fin 6) (p : Fin 8) (s : State) : (releaseHeld c k p s).dou = s.dou := by
  unfold releaseHeld; repeat' split
  all_goals simp [foldl_dou, *]

@[simp] theorem clearServed_rco (s : State) : (clearServed s).rco = s.rco := by
  unfold clearServed; (try dsimp only)
  simp [*]

@[simp] theorem clearServed_ssv (s : State) : (clearServed s).ssv = s.ssv := by
  unfold clearServed; (try dsimp only)
  simp [*]

@[simp] theorem clearServed_bks (s : State) : (clearServed s).bks = s.bks := by
  unfold clearServed; (try dsimp only)
  simp [*]

@[simp] theorem clearServed_dou (s : State) : (clearServed s).dou = s.dou := by
  unfold clearServed; (try dsimp only)
  simp [*]

@[simp] theorem leaveList_rco (g : Fin 16) (s : State) : (leaveList g s).rco = s.rco := by
  unfold leaveList; (try dsimp only)
  simp [*]

@[simp] theorem leaveList_ssv (g : Fin 16) (s : State) : (leaveList g s).ssv = s.ssv := by
  unfold leaveList; (try dsimp only)
  simp [*]

@[simp] theorem leaveList_bks (g : Fin 16) (s : State) : (leaveList g s).bks = s.bks := by
  unfold leaveList; (try dsimp only)
  simp [*]

@[simp] theorem leaveList_dou (g : Fin 16) (s : State) : (leaveList g s).dou = s.dou := by
  unfold leaveList; (try dsimp only)
  simp [*]

@[simp] theorem giveUp_rco (g : Fin 16) (s : State) : (giveUp g s).rco = s.rco := by
  unfold giveUp; (try dsimp only)
  simp [*]

@[simp] theorem giveUp_ssv (g : Fin 16) (s : State) : (giveUp g s).ssv = s.ssv := by
  unfold giveUp; (try dsimp only)
  simp [*]

@[simp] theorem giveUp_bks (g : Fin 16) (s : State) : (giveUp g s).bks = s.bks := by
  unfold giveUp; (try dsimp only)
  simp [*]

@[simp] theorem giveUp_dou (g : Fin 16) (s : State) : (giveUp g s).dou = s.dou := by
  unfold giveUp; (try dsimp only)
  simp [*]

@[simp] theorem takeOut_rco (g : Fin 16) (r : Reason) (s : State) : (takeOut g r s).rco = s.rco := by
  unfold takeOut; repeat' split
  all_goals simp [*]

@[simp] theorem takeOut_ssv (g : Fin 16) (r : Reason) (s : State) : (takeOut g r s).ssv = s.ssv := by
  unfold takeOut; repeat' split
  all_goals simp [*]

@[simp] theorem takeOut_bks (g : Fin 16) (r : Reason) (s : State) : (takeOut g r s).bks = s.bks := by
  unfold takeOut; repeat' split
  all_goals simp [*]

@[simp] theorem takeOut_dou (g : Fin 16) (r : Reason) (s : State) : (takeOut g r s).dou = s.dou := by
  unfold takeOut; repeat' split
  all_goals simp [*]

@[simp] theorem stationLost_rco (x : Sta) (s : State) : (stationLost x s).rco = s.rco := by
  unfold stationLost
  refine (foldl_rco (fun s x => by simp) _ _).trans ?_
  exact (foldl_rco (fun s x => by (try split) <;> simp) _ _)

@[simp] theorem stationLost_ssv (x : Sta) (s : State) : (stationLost x s).ssv = s.ssv := by
  unfold stationLost
  refine (foldl_ssv (fun s x => by simp) _ _).trans ?_
  exact (foldl_ssv (fun s x => by (try split) <;> simp) _ _)

@[simp] theorem stationLost_bks (x : Sta) (s : State) : (stationLost x s).bks = s.bks := by
  unfold stationLost
  refine (foldl_bks (fun s x => by simp) _ _).trans ?_
  exact (foldl_bks (fun s x => by (try split) <;> simp) _ _)

@[simp] theorem stationLost_dou (x : Sta) (s : State) : (stationLost x s).dou = s.dou := by
  unfold stationLost
  refine (foldl_dou (fun s x => by simp) _ _).trans ?_
  exact (foldl_dou (fun s x => by (try split) <;> simp) _ _)

@[simp] theorem setDoor_rco (c : Car) (d : DoorRecord) (s : State) : (setDoor c d s).rco = s.rco := by
  unfold setDoor; repeat' split
  all_goals simp [*]

@[simp] theorem setDoor_ssv (c : Car) (d : DoorRecord) (s : State) : (setDoor c d s).ssv = s.ssv := by
  unfold setDoor; repeat' split
  all_goals simp [*]

@[simp] theorem setDoor_bks (c : Car) (d : DoorRecord) (s : State) : (setDoor c d s).bks = s.bks := by
  unfold setDoor; repeat' split
  all_goals simp [*]

@[simp] theorem orderRelease_rco (c : Car) (d : Side) (k : ReleaseKind) (s : State) : (orderRelease c d k s).rco = s.rco := by
  unfold orderRelease; (try dsimp only)
  simp [*]

@[simp] theorem orderRelease_ssv (c : Car) (d : Side) (k : ReleaseKind) (s : State) : (orderRelease c d k s).ssv = s.ssv := by
  unfold orderRelease; (try dsimp only)
  simp [*]

@[simp] theorem orderRelease_bks (c : Car) (d : Side) (k : ReleaseKind) (s : State) : (orderRelease c d k s).bks = s.bks := by
  unfold orderRelease; (try dsimp only)
  simp [*]

@[simp] theorem askRelease_rco (s : State) (c : Car) : (askRelease s c).rco = s.rco := by
  unfold askRelease; (try dsimp only); repeat' split
  all_goals simp [*]

@[simp] theorem askRelease_ssv (s : State) (c : Car) : (askRelease s c).ssv = s.ssv := by
  unfold askRelease; (try dsimp only); repeat' split
  all_goals simp [*]

@[simp] theorem askRelease_bks (s : State) (c : Car) : (askRelease s c).bks = s.bks := by
  unfold askRelease; (try dsimp only); repeat' split
  all_goals simp [*]

@[simp] theorem withdraw_rco (c : Car) (w : WithdrawalCause) (s : State) : (withdraw c w s).rco = s.rco := by
  unfold withdraw; (try dsimp only); repeat' split
  all_goals simp [*]

@[simp] theorem withdraw_ssv (c : Car) (w : WithdrawalCause) (s : State) : (withdraw c w s).ssv = s.ssv := by
  unfold withdraw; (try dsimp only); repeat' split
  all_goals simp [*]

@[simp] theorem withdraw_bks (c : Car) (w : WithdrawalCause) (s : State) : (withdraw c w s).bks = s.bks := by
  unfold withdraw; (try dsimp only); repeat' split
  all_goals simp [*]

@[simp] theorem withdrawPlatform_rco (w : WithdrawalCause) (s : State) (c : Car) : (withdrawPlatform w s c).rco = s.rco := by
  unfold withdrawPlatform; repeat' split
  all_goals simp [*]

@[simp] theorem withdrawPlatform_ssv (w : WithdrawalCause) (s : State) (c : Car) : (withdrawPlatform w s c).ssv = s.ssv := by
  unfold withdrawPlatform; repeat' split
  all_goals simp [*]

@[simp] theorem withdrawPlatform_bks (w : WithdrawalCause) (s : State) (c : Car) : (withdrawPlatform w s c).bks = s.bks := by
  unfold withdrawPlatform; repeat' split
  all_goals simp [*]

@[simp] theorem withdrawGiven_rco (w : WithdrawalCause) (s : State) (c : Car) : (withdrawGiven w s c).rco = s.rco := by
  unfold withdrawGiven; repeat' split
  all_goals simp [*]

@[simp] theorem withdrawGiven_ssv (w : WithdrawalCause) (s : State) (c : Car) : (withdrawGiven w s c).ssv = s.ssv := by
  unfold withdrawGiven; repeat' split
  all_goals simp [*]

@[simp] theorem withdrawGiven_bks (w : WithdrawalCause) (s : State) (c : Car) : (withdrawGiven w s c).bks = s.bks := by
  unfold withdrawGiven; repeat' split
  all_goals simp [*]

@[simp] theorem countStale_rco (c : Car) (s : State) : (countStale c s).rco = s.rco := by
  unfold countStale; (try dsimp only)
  simp [*]

@[simp] theorem countStale_ssv (c : Car) (s : State) : (countStale c s).ssv = s.ssv := by
  unfold countStale; (try dsimp only)
  simp [*]

@[simp] theorem countStale_bks (c : Car) (s : State) : (countStale c s).bks = s.bks := by
  unfold countStale; (try dsimp only)
  simp [*]

@[simp] theorem takeUp_rco (c : Car) (s : State) : (takeUp c s).rco = s.rco := by
  unfold takeUp; (try dsimp only); repeat' split
  all_goals simp [*]

@[simp] theorem takeUp_ssv (c : Car) (s : State) : (takeUp c s).ssv = s.ssv := by
  unfold takeUp; (try dsimp only); repeat' split
  all_goals simp [*]

@[simp] theorem takeUp_bks (c : Car) (s : State) : (takeUp c s).bks = s.bks := by
  unfold takeUp; (try dsimp only); repeat' split
  all_goals simp [*]

@[simp] theorem completeWithdrawal_rco (c : Car) (s : State) : (completeWithdrawal c s).rco = s.rco := by
  unfold completeWithdrawal; (try dsimp only); repeat' split
  all_goals simp [*]

@[simp] theorem completeWithdrawal_ssv (c : Car) (s : State) : (completeWithdrawal c s).ssv = s.ssv := by
  unfold completeWithdrawal; (try dsimp only); repeat' split
  all_goals simp [*]

@[simp] theorem completeWithdrawal_bks (c : Car) (s : State) : (completeWithdrawal c s).bks = s.bks := by
  unfold completeWithdrawal; (try dsimp only); repeat' split
  all_goals simp [*]

@[simp] theorem judgeToken_rco (c : Car) (k : Option (Fin 16)) (s : State) : (judgeToken c k s).rco = s.rco := by
  unfold judgeToken; (try dsimp only); repeat' split
  all_goals simp [*]

@[simp] theorem judgeToken_ssv (c : Car) (k : Option (Fin 16)) (s : State) : (judgeToken c k s).ssv = s.ssv := by
  unfold judgeToken; (try dsimp only); repeat' split
  all_goals simp [*]

@[simp] theorem judgeToken_bks (c : Car) (k : Option (Fin 16)) (s : State) : (judgeToken c k s).bks = s.bks := by
  unfold judgeToken; (try dsimp only); repeat' split
  all_goals simp [*]

@[simp] theorem setRailOrder_rco (o : RailOrder) (s : State) : (setRailOrder o s).rco = s.rco := by
  unfold setRailOrder
  simp [foldl_rco, *]

@[simp] theorem setRailOrder_ssv (o : RailOrder) (s : State) : (setRailOrder o s).ssv = s.ssv := by
  unfold setRailOrder
  simp [foldl_ssv, *]

@[simp] theorem setRailOrder_bks (o : RailOrder) (s : State) : (setRailOrder o s).bks = s.bks := by
  unfold setRailOrder
  simp [foldl_bks, *]

end Sys2Proof.Machine
end

