-- ==== Sys2Proof/Laws/Frames.lean ====
section
/-! SUPPORT. Every operation of the Admission Unit, the Door Unit, the Run Coordinator and the Brake Sequencer that handles no report,
no load and no measurement is calm: it acts on the ports by notices alone, and the end of an event is calm too. -/

namespace Sys2Proof.Machine

/-! ### Admission Unit -/

theorem Calm.noticeGate (g : Fin 16) (a : NoticeAnswer) (r : Reason) (s : State) : Calm s (noticeGate g a r s) := .handNotice _ _

theorem Calm.idleGate (g : Fin 16) (s : State) : Calm s (idleGate g s) := .withGate _ _ _ rfl rfl rfl

theorem Calm.closeWaiting (s : State) (g : Fin 16) : Calm s (closeWaiting s g) := Calm.after (.noticeGate ..) (Calm.idleGate g s)

theorem Calm.closeReserved (p : Fin 8) (s : State) (g : Fin 16) : Calm s (closeReserved p s g) :=
  .ite (fun _ => Calm.after (.noticeGate ..) (Calm.idleGate g s)) fun _ => .refl s

theorem Calm.closeSession (r : CloseReason) (s : State) (p : Fin 8) : Calm s (closeSession r s p) :=
  .ite (fun _ => Calm.after (.withSession ..) (Calm.after (Calm.foldl (.closeReserved p) _ _) (Calm.foldl .closeWaiting _ s))) fun _ => .refl s

theorem Calm.closeAll (r : CloseReason) (s : State) : Calm s (closeAll r s) := Calm.foldl (.closeSession r) _ s

theorem Calm.releaseLost (c : Car) (s : State) : Calm s (releaseLost c s) :=
  Calm.foldl (fun s p => .ite (fun _ => .closeSession _ s p) fun _ => .refl s) _ s

theorem Calm.reserve (p : Fin 8) (g : Fin 16) (s : State) : Calm s (reserve p g s) :=
  Calm.after (.withGate _ _ _ rfl rfl rfl) (Calm.withSession s p _)

theorem Calm.grant (p : Fin 8) (g : Fin 16) (s : State) : Calm s (grant p g s) :=
  Calm.after (.noticeGate ..) (Calm.after (.reserve ..) (Calm.withSession s p _))

theorem Calm.grantWaiting (p : Fin 8) (n : Nat) (s : State) : Calm s (grantWaiting p n s) := by
  induction n generalizing s with
  | zero => exact .refl s
  | succ n ih =>
    unfold Machine.grantWaiting
    repeat' split
    · exact Calm.after (ih _) (Calm.grant ..)
    · exact .refl s
    · exact .refl s

theorem Calm.evaluatePolicy (s : State) (p : Fin 8) : Calm s (evaluatePolicy s p) := .grantWaiting ..

theorem Calm.clearAdmissions (p : Fin 8) (s : State) (g : Fin 16) : Calm s (clearAdmissions p s g) :=
  .ite (fun _ => .withGate _ _ _ rfl rfl rfl) fun _ => .refl s

theorem Calm.releaseHeld (c : Car) (k : Fin 6) (p : Fin 8) (s : State) : Calm s (releaseHeld c k p s) := by
  unfold Machine.releaseHeld
  repeat' split
  · exact .refl s
  · exact Calm.after (.evaluatePolicy ..) (Calm.after (Calm.foldl (.clearAdmissions p) _ _) (Calm.withSession s p _))
  · exact Calm.after (.setAttention ..) (Calm.withSession s p _)
  · exact .refl s

theorem Calm.clearServed (s : State) : Calm s (clearServed s) := { Calm.refl s with }

theorem Calm.leaveList (g : Fin 16) (s : State) : Calm s (leaveList g s) := Calm.after (.idleGate ..) (Calm.withSession ..)

theorem Calm.giveUp (g : Fin 16) (s : State) : Calm s (giveUp g s) := Calm.after (.idleGate ..) (Calm.withSession ..)

theorem Calm.takeOut (g : Fin 16) (r : Reason) (s : State) : Calm s (takeOut g r s) := by
  unfold Machine.takeOut
  split
  · exact Calm.after (.evaluatePolicy ..) (Calm.after (.noticeGate ..) (Calm.leaveList ..))
  · exact Calm.after (.evaluatePolicy ..) (Calm.after (.noticeGate ..) (Calm.giveUp ..))
  · exact .refl s

theorem Calm.stationLost (x : Sta) (s : State) : Calm s (stationLost x s) :=
  Calm.after (Calm.foldl .evaluatePolicy _ _) (Calm.foldl (fun _ _ => .ite (fun _ => .leaveList ..) fun _ => .refl _) _ _)

theorem Calm.reservationExpiry (g : Fin 16) (s : State) : Calm s (reservationExpiry g s) :=
  .ite (fun _ => Calm.after (.evaluatePolicy ..) (Calm.after (.noticeGate ..) (Calm.giveUp ..))) fun _ => .refl s

theorem Calm.exitQuietExpiry (p : Fin 8) (s : State) : Calm s (exitQuietExpiry p s) :=
  .ite (fun _ => Calm.after (.evaluatePolicy ..) (Calm.withSession ..)) fun _ => .refl s

/-! ### Door Unit -/

/-- A door record set with what the car reported unchanged. -/
theorem Calm.setDoor (c : Car) (d : DoorRecord) (s : State) (h1 : d.door = (s.door c).door) (h2 : d.rail = (s.door c).rail)
    (h3 : d.carFault = (s.door c).carFault) (h4 : d.heldToken = (s.door c).heldToken) (h5 : d.stale = (s.door c).stale) :
    Calm s (setDoor c d s) :=
  .ite (fun _ => .withDoor s c d h1 h2 h3 h4 h5) fun _ => Calm.after (.handNotice ..) (Calm.withDoor s c d h1 h2 h3 h4 h5)

theorem Calm.orderRelease (c : Car) (d : Side) (k : ReleaseKind) (s : State) : Calm s (orderRelease c d k s) :=
  .setDoor _ _ _ rfl rfl rfl rfl rfl

theorem Calm.askRelease (s : State) (c : Car) : Calm s (askRelease s c) := by
  unfold Machine.askRelease
  split
  · exact .withDoor _ _ _ rfl rfl rfl rfl rfl
  · exact .orderRelease ..

theorem Calm.withdraw (c : Car) (w : WithdrawalCause) (s : State) : Calm s (withdraw c w s) := by
  unfold Machine.withdraw
  have h := Calm.setDoor c
    { s.door c with
      token := 0, release := .withdrawing, ackTimer := none, closeTimer := startSec s.line.closeTimeout, overdue := false
      lastWithdrawal := w } s rfl rfl rfl rfl rfl
  exact .ite (fun _ => Calm.after (.releaseLost ..) h) fun _ => h

theorem Calm.withdrawPlatform (w : WithdrawalCause) (s : State) (c : Car) : Calm s (withdrawPlatform w s c) :=
  .ite (fun _ => .withdraw ..) fun _ => .refl s

theorem Calm.withdrawGiven (w : WithdrawalCause) (s : State) (c : Car) : Calm s (withdrawGiven w s c) :=
  .ite (fun _ => .withdraw ..) fun _ => .refl s

theorem Calm.setRailOrder (o : RailOrder) (s : State) : Calm s (setRailOrder o s) :=
  Calm.foldl (f := fun s c => Machine.setDoor c { s.door c with railOrder := o } s)
    (fun _ _ => .setDoor _ _ _ rfl rfl rfl rfl rfl) _ s

theorem Calm.ackExpiry (c : Car) (s : State) : Calm s (ackExpiry c s) :=
  .ite (fun _ => Calm.after (.setAttention ..) (Calm.withdraw ..)) fun _ => .refl s

theorem Calm.closeExpiry (c : Car) (s : State) : Calm s (closeExpiry c s) :=
  .ite (fun _ => Calm.after (.setAttention ..) (Calm.withDoor _ _ _ rfl rfl rfl rfl rfl)) fun _ => .refl s

/-! ### Run Coordinator -/

theorem Calm.setAuthority (a : Authority) (s : State) : Calm s (setAuthority a s) :=
  .ite (fun _ => .withRco s _ rfl) fun _ => Calm.after (.handNotice ..) (Calm.withRco s _ rfl)

theorem Calm.clearAuthority (s : State) : Calm s (clearAuthority s) := .setAuthority ..

theorem Calm.withdrawAuthority (s : State) : Calm s (withdrawAuthority s) := .ite (fun _ => .setAuthority ..) fun _ => .refl s

theorem Calm.setRunState (r : RunState) (s : State) : Calm s (setRunState r s) :=
  .ite (fun _ => .withRco s _ rfl) fun _ => .withRco s _ rfl

theorem Calm.startDwell (s : State) : Calm s (startDwell s) := .withRco s _ rfl

theorem Calm.askReleases (s : State) : Calm s (askReleases s) := by
  unfold Machine.askReleases
  split
  · exact Calm.foldl (fun _ _ => .ite (fun _ => .askRelease ..) fun _ => .refl _) _ s
  · exact .refl s

theorem Calm.returnTrip (s : State) : Calm s (returnTrip s) := by
  unfold Machine.returnTrip
  repeat' split
  · exact .refl s
  · exact .withRco s _ rfl
  · exact Calm.after (.setAttention ..) (Calm.withRco s _ rfl)

theorem Calm.beginClosing (s : State) : Calm s (beginClosing s) :=
  Calm.after (Calm.foldl (.withdrawPlatform _) _ _) (Calm.after (.closeAll ..) (Calm.setRunState ..))

theorem Calm.takeTrip (t : Trip) (rest : List Trip) (s : State) : Calm s (takeTrip t rest s) :=
  Calm.after (.beginClosing ..) (Calm.withRco s _ rfl)

theorem Calm.takeFrom (q : List Trip) (s : State) : Calm s (takeFrom q s) := by
  induction q with
  | nil => exact .withRco s _ rfl
  | cons t rest ih => exact .ite (fun _ => ih) fun _ => .takeTrip ..

theorem Calm.takeHead (s : State) : Calm s (takeHead s) := .ite (fun _ => .takeFrom ..) fun _ => .refl s

theorem Calm.changeMode (m : LineMode) (c : ModeCause) (l : List Trip) (s : State) : Calm s (changeMode m c l s) := .withRco s _ rfl

theorem Calm.enterStandby (c : ModeCause) (s : State) : Calm s (enterStandby c s) :=
  Calm.after (Calm.foldl (.withdrawPlatform _) _ _) (Calm.after (.closeAll ..) (Calm.after (.withRco _ _ rfl) (Calm.changeMode ..)))

theorem Calm.enterService (s : State) : Calm s (enterService s) :=
  Calm.after (.askReleases ..) (Calm.after (.startDwell ..) (Calm.changeMode ..))

theorem Calm.enterMaintenance (s : State) : Calm s (enterMaintenance s) := .changeMode ..

theorem Calm.settleAuthority (b : Bool) (s : State) : Calm s (settleAuthority b s) := by
  cases b
  · exact .withRco s _ rfl
  · exact Calm.after (.withRco _ _ rfl) (Calm.clearAuthority s)

theorem Calm.settleWindow (s : State) : Calm s (settleWindow s) := by
  unfold Machine.settleWindow
  split <;> exact Calm.after (.setRunState ..) (Calm.withRco s _ rfl)

theorem Calm.settleTrip (s : State) : Calm s (settleTrip s) := by
  unfold Machine.settleTrip
  cases s.rco.tripInHand with
  | none => exact .withRco s _ rfl
  | some t =>
    dsimp only
    split
    · exact Calm.after (.withRco _ _ rfl) (Calm.withRco s _ rfl)
    · exact Calm.after (.withRco _ _ rfl) (Calm.returnTrip s)

theorem Calm.settleRecovery (b : Bool) (s : State) : Calm s (settleRecovery b s) := .ite (fun _ => .changeMode ..) fun _ => .refl s

theorem Calm.settleEffects (s : State) : Calm s (settleEffects s) :=
  .ite (fun _ => Calm.after (.askReleases ..) (Calm.startDwell s)) fun _ => .ite (fun _ => .takeHead s) fun _ => .refl s

theorem Calm.settle (b : Bool) (s : State) : Calm s (settle b s) :=
  Calm.after (.settleEffects ..) (Calm.after (.settleRecovery ..) (Calm.after (.settleTrip ..) (Calm.after (.settleWindow ..) (Calm.settleAuthority b s))))

theorem Calm.retarget (t : Trip) (s : State) : Calm s (retarget t s) :=
  Calm.after (.setAuthority ..) (Calm.after (.withRco _ _ rfl) (Calm.after (.returnTrip ..) (Calm.withRco s _ rfl)))

theorem Calm.insertTrip (k : Fin 6) (o : Origin) (s : State) : Calm s (insertTrip k o s).1 := by
  unfold Machine.insertTrip
  dsimp only
  split
  · exact Calm.after (.takeHead ..) (Calm.after (.retarget ..) (Calm.withRco s _ rfl))
  · exact Calm.after (.takeHead ..) (Calm.withRco s _ rfl)

theorem Calm.joinTrip (k : Fin 6) (o : Origin) (s : State) : Calm s (joinTrip k o s).1 := by
  unfold Machine.joinTrip
  repeat' split
  · exact .withRco s _ rfl
  · exact .withRco s _ rfl
  · exact .refl s
  · exact .insertTrip ..

theorem Calm.requestStop (k : Fin 6) (o : Origin) (s : State) : Calm s (requestStop k o s).1 := by
  unfold Machine.requestStop
  repeat' split
  · exact .refl s
  · exact .refl s
  · exact .joinTrip ..

theorem Calm.requestCall (p : Fin 8) (o : Origin) (s : State) : Calm s (requestCall p o s).1 := by
  unfold Machine.requestCall
  repeat' split
  all_goals first | exact .refl s | exact .requestStop ..

theorem Calm.holdRunning (s : State) : Calm s (holdRunning s).1 := by
  unfold Machine.holdRunning
  repeat' split
  all_goals first | exact .refl s | exact .retarget ..

theorem Calm.holdClosing (s : State) : Calm s (holdClosing s) := by
  unfold Machine.holdClosing
  dsimp only
  split
  · exact Calm.after (.takeHead ..) (Calm.after (.startDwell ..) (Calm.after (.setRunState ..) (Calm.returnTrip s)))
  · exact Calm.after (.takeHead ..) (Calm.after (.setRunState ..) (Calm.returnTrip s))

theorem Calm.dwellExpiry (s : State) : Calm s (dwellExpiry s) :=
  .ite (fun _ => Calm.after (.takeHead ..) (Calm.withRco s _ rfl)) fun _ => .refl s

/-! ### Brake Sequencer -/

theorem Calm.assertSb (s : State) : Calm s (assertSb s) := .ite (fun _ => .refl s) fun _ => .withBks s _ rfl rfl
theorem Calm.releaseSb (s : State) : Calm s (releaseSb s) := .withBks s _ rfl rfl
theorem Calm.setStepTimer (t : Option RunningStep) (s : State) : Calm s (setStepTimer t s) := .withBks s _ rfl rfl
theorem Calm.startStep (w : StepTimer) (n : Nat) (s : State) : Calm s (startStep w n s) := .withBks s _ rfl rfl
theorem Calm.setSlot (x : Slot) (s : State) : Calm s (setSlot x s) := .withBks s _ rfl rfl
theorem Calm.dropEbHold (s : State) : Calm s (dropEbHold s) := .withBks s _ rfl rfl

theorem Calm.completeStop (s : State) : Calm s (completeStop s) := Calm.after (.settle ..) (Calm.withBks s _ rfl rfl)

theorem Calm.awaitDrop (s : State) : Calm s (awaitDrop s) := .ite (fun _ => .startStep ..) fun _ => .completeStop s

theorem Calm.deenergizeEb (s : State) : Calm s (deenergizeEb s) :=
  .ite (fun _ => .ite (fun _ => Calm.after (.awaitDrop ..) (Calm.after (.setStepTimer ..) (Calm.dropEbHold s))) fun _ => .dropEbHold s)
    fun _ => .dropEbHold s

theorem Calm.startS2 (s : State) : Calm s (startS2 s) := by
  unfold Machine.startS2
  have h := Calm.after (.setStepTimer none _) (Calm.setSlot (.stop .s2) s)
  exact .ite (fun _ => .ite (fun _ => Calm.after (.deenergizeEb ..) h) fun _ => Calm.after (.startStep ..) h) fun _ => Calm.after (.awaitDrop ..) h

theorem Calm.startStop (s : State) : Calm s (startStop s) := by
  unfold Machine.startStop
  have h := Calm.after (.assertSb _) (Calm.withBks s { s.bks with slot := .stop .s1, faults := [], stepTimer := none } rfl rfl)
  exact .ite (fun _ => Calm.after (.startS2 ..) h) fun _ => Calm.after (.startStep ..) h

theorem Calm.beginStop (s : State) : Calm s (beginStop s) :=
  Calm.after (.startStop ..) (Calm.after (.withRco _ _ rfl) (Calm.setRunState ..))

theorem Calm.countAbort (s : State) : Calm s (countAbort s) :=
  .ite (fun _ => Calm.after (.setAttention ..) (Calm.after (.enterStandby ..) (Calm.withRco s _ rfl))) fun _ => .withRco s _ rfl

theorem Calm.abortAtRco (s : State) : Calm s (abortAtRco s) := by
  unfold Machine.abortAtRco
  dsimp only
  split
  · exact .after (.settle ..)
      (.after (.countAbort _) (.after (.withRco _ _ rfl) (.after (.returnTrip _) (.after (.withRco _ _ rfl) (.clearAuthority s)))))
  · exact .after (.setRunState ..)
      (.after (.countAbort _) (.after (.withRco _ _ rfl) (.after (.returnTrip _) (.after (.withRco _ _ rfl) (.clearAuthority s)))))

theorem Calm.abortDeparture (c : AbortCause) (s : State) : Calm s (abortDeparture c s) := by
  unfold Machine.abortDeparture
  split
  · exact .after (.abortAtRco ..) (.after (.setAttention ..)
      (.after (.withBks _ _ rfl rfl) (.after (.dropEbHold _) (.after (.assertSb _) (.setStepTimer none s)))))
  · exact .refl s

theorem Calm.startCheck (x : EscStage) (n : Nat) (s : State) : Calm s (startCheck x n s) := .withBks s _ rfl rfl
theorem Calm.cancelCheck (s : State) : Calm s (cancelCheck s) := .withBks s _ rfl rfl

theorem Calm.startCheckFor (l : Level) (s : State) : Calm s (startCheckFor l s) := by
  unfold Machine.startCheckFor
  split <;> first | exact .startCheck .. | exact .refl s

theorem Calm.escalateTo (l : Level) (s : State) : Calm s (escalateTo l s) :=
  .ite (fun _ => .cancelCheck s) fun _ => .ite (fun _ => .refl s) fun _ => .startCheckFor ..

theorem Calm.setDemand (d : Demand) (s : State) : Calm s (setDemand d s) :=
  .ite (fun _ => .withBks s _ rfl rfl) fun _ => Calm.after (.handNotice ..) (Calm.withBks s _ rfl rfl)

theorem Calm.arrest (s : State) : Calm s (arrest s) := by
  unfold Machine.arrest
  repeat' split
  · exact .beginStop s
  · exact Calm.after (.withRco _ _ rfl) (Calm.setRunState ..)
  · exact .refl s
  · exact .setRunState ..
  · exact .refl s
  · exact .setRunState ..
  · exact .refl s
  · exact Calm.after (.returnTrip _) (Calm.setRunState ..)
  all_goals exact .refl s

theorem Calm.reachService (c : AbortCause) (s : State) : Calm s (reachService c s) :=
  (Calm.after (.abortDeparture ..) (Calm.after (.closeAll ..) (Calm.after (.arrest _) (Calm.after (.withdrawAuthority _) (Calm.assertSb s))))).trans
    (.setAttention ..)

theorem Calm.latchRise (before : Level) (c : AbortCause) (s : State) : Calm s (latchRise before c s) := by
  unfold Machine.latchRise
  refine .ite (fun _ => .refl s) fun _ => ?_
  dsimp only
  refine Calm.trans ?_ (.escalateTo ..)
  have h1 : Calm s (if before.rank < 2 ∧ 2 ≤ s.bks.demand.latched.rank then Machine.reachService c s else s) :=
    .ite (fun _ => .reachService ..) fun _ => .refl s
  generalize (if before.rank < 2 ∧ 2 ≤ s.bks.demand.latched.rank then Machine.reachService c s else s) = s1 at h1 ⊢
  have h2 : Calm s (if before.rank < 3 ∧ 3 ≤ s.bks.demand.latched.rank then Machine.deenergizeEb s1 else s1) :=
    .ite (fun _ => Calm.after (.deenergizeEb s1) h1) fun _ => h1
  generalize (if before.rank < 3 ∧ 3 ≤ s.bks.demand.latched.rank then Machine.deenergizeEb s1 else s1) = s2 at h2 ⊢
  exact .ite (fun _ => Calm.after (.setRailOrder ..) h2) fun _ => h2

theorem Calm.raiseAs (a : AbortCause) (c : Cause) (l : Level) (s : State) : Calm s (raiseAs a c l s) :=
  Calm.after (.latchRise ..) (Calm.setDemand ..)

theorem Calm.raise (c : Cause) (l : Level) (s : State) : Calm s (raise c l s) := .raiseAs ..

theorem Calm.raiseEbFault (s : State) : Calm s (raiseEbFault s) := Calm.after (.raise ..) (Calm.setAttention ..)

theorem Calm.startD3 (s : State) : Calm s (startD3 s) :=
  Calm.after (.startStep ..) (Calm.after (Calm.foldl (.withdrawGiven _) _ _) (Calm.after (.setAuthority ..) (Calm.setSlot _ s)))

theorem Calm.startD2 (s : State) : Calm s (startD2 s) := by
  unfold Machine.startD2
  have h := Calm.after (.setStepTimer none _) (Calm.setSlot (.departure .d2) s)
  exact .ite (fun _ => Calm.after (.raiseEbFault ..) h) fun _ => Calm.after (.startStep ..) (Calm.after (.withBks _ _ rfl rfl) h)

theorem Calm.testD1 (s : State) : Calm s (testD1 s) := .ite (fun _ => .startD2 s) fun _ => .refl s

theorem Calm.takeSnapshot (s : State) : Calm s (takeSnapshot s) := .withSsv ..

theorem Calm.startD1 (s : State) : Calm s (startD1 s) :=
  Calm.after (.testD1 _) (Calm.after (.startStep ..) (Calm.after (.setRailOrder ..) (Calm.after (.takeSnapshot _) (Calm.setSlot _ s))))

theorem Calm.startD4 (s : State) : Calm s (startD4 s) := Calm.after (.startStep ..) (Calm.after (.releaseSb _) (Calm.setSlot _ s))

theorem Calm.grantAuthority (s : State) : Calm s (grantAuthority s) :=
  Calm.after (.clearServed _) (Calm.after (.withRco _ _ rfl) (Calm.after (.setRunState ..) (Calm.after (.setAuthority ..) (Calm.withBks s _ rfl rfl))))

theorem Calm.completeD4 (s : State) : Calm s (completeD4 s) := .ite (fun _ => .grantAuthority s) fun _ => .abortDeparture ..

theorem Calm.startDeparture (k : Fin 6) (d : Dir) (s : State) : Calm s (startDeparture k d s) :=
  Calm.after (.startD1 _) (Calm.after (.withRco _ _ rfl) (Calm.after (.setRunState ..) (Calm.setAuthority ..)))

theorem Calm.readinessStage (n : Nat) (s : State) : Calm s (readinessStage n s) := by
  induction n generalizing s with
  | zero => exact .refl s
  | succ n ih =>
    unfold Machine.readinessStage
    repeat' split
    · exact Calm.after (ih _) (Calm.after (.startDeparture ..) (Calm.withRco s _ rfl))
    · exact .withRco s _ rfl
    · exact .withRco s _ rfl

/-- The end of an event is calm, a departure that it starts and a latch that follows included. -/
theorem Calm.endEvent (s : State) : Calm s (endEvent s) := .readinessStage ..

theorem Calm.standstillAtRco (s : State) : Calm s (standstillAtRco s) := by
  unfold Machine.standstillAtRco
  repeat' split
  all_goals first | exact .refl s | exact .settle .. | exact .beginStop s

theorem Calm.lossAtRco (s : State) : Calm s (lossAtRco s) := by
  unfold Machine.lossAtRco
  repeat' split
  all_goals first | exact .refl s | exact .setRunState .. | exact Calm.after (.returnTrip _) (Calm.setRunState ..)

theorem Calm.lossAtBks (s : State) : Calm s (lossAtBks s) := .ite (fun _ => .startCheckFor ..) fun _ => .refl s

theorem Calm.retestArrival (s : State) : Calm s (retestArrival s) := by
  unfold Machine.retestArrival
  repeat' split
  all_goals first | exact .refl s | exact .beginStop s

theorem Calm.jogExpiry (s : State) : Calm s (jogExpiry s) := by
  unfold Machine.jogExpiry
  dsimp only
  repeat' split
  · exact Calm.after (.beginStop _) (Calm.after (.setAuthority ..) (Calm.withRco s _ rfl))
  · exact Calm.after (.setAuthority ..) (Calm.withRco s _ rfl)
  · exact .withRco s _ rfl
  · exact .refl s

theorem Calm.stepTimeout (w : StepTimer) (s : State) : Calm s (stepTimeout w s) :=
  .ite (fun _ => Calm.after (.abortDeparture ..) (Calm.setStepTimer ..)) fun _ => .refl s

theorem Calm.ebSettleEnd (s : State) : Calm s (ebSettleEnd s) := .ite (fun _ => Calm.after (.startD3 _) (Calm.setStepTimer ..)) fun _ => .refl s

theorem Calm.sbConfirmEnd (s : State) : Calm s (sbConfirmEnd s) :=
  .ite (fun _ => Calm.after (.startS2 _) (Calm.after (.raise ..) (Calm.after (.setAttention ..) (Calm.withBks s _ rfl rfl)))) fun _ => .refl s

theorem Calm.stopDelayEnd (s : State) : Calm s (stopDelayEnd s) :=
  .ite (fun _ => Calm.after (.deenergizeEb _) (Calm.setStepTimer ..)) fun _ => .refl s

theorem Calm.ebDropEnd (s : State) : Calm s (ebDropEnd s) :=
  .ite (fun _ => Calm.after (.completeStop _) (Calm.after (.withBks _ _ rfl rfl) (Calm.after (.raiseEbFault _) (Calm.setStepTimer none s)))) fun _ => .refl s

theorem Calm.escalationExpiry (s : State) : Calm s (escalationExpiry s) := by
  unfold Machine.escalationExpiry
  dsimp only
  split
  · split
    · exact Calm.after (.raise ..) (Calm.after (.setAttention ..) (Calm.withBks s _ rfl rfl))
    · exact .withBks s _ rfl rfl
  · exact .refl s

theorem Calm.followSb (x : SbCondition) (s : State) : Calm s (followSb x s) := .ite (fun _ => .withBks s _ rfl rfl) fun _ => .refl s

theorem Calm.driveStep (r : DriveReport) (s : State) : Calm s (driveStep r s) := by
  unfold Machine.driveStep
  repeat' split
  all_goals first
    | exact .refl s
    | exact Calm.after (.startD4 _) (Calm.setStepTimer ..)
    | exact Calm.after (.completeD4 _) (Calm.setStepTimer ..)
    | exact .startS2 s

theorem Calm.takeBrakeReset (s : State) : Calm s (takeBrakeReset s) := by
  unfold Machine.takeBrakeReset
  have h := Calm.after (.setDemand s.bks.demand.cleared _) (Calm.withBks s { s.bks with esc := Escalation.reset } rfl rfl)
  exact .ite (fun _ => Calm.after (.takeHead _) (Calm.after (.changeMode ..) h)) fun _ => h

end Sys2Proof.Machine
end

