-- ==== Sys2Proof/WellFormed.lean ====
section
/-! DEFINITION. Which commands a line can carry: the lengths that R177 and R179 let a COMMAND have. Every other operand is within
its coding by its type. The meanings are total, and say nothing of a command that is not well formed beyond being defined. -/

namespace Sys2Proof

/-- The LEN of a CONFIG WRITE's record bytes (R179): those of the segment, or anything that fits a frame where the table or the
segment is unknown. -/
def writeFits (table segment : Byte) (bytes : List Byte) : Bool :=
  match (Machine.TableId.ofCode table).bind (·.segmentBytes segment.toNat) with
  | some n => bytes.length == n
  | none => bytes.length ≤ 19

/-- An unknown command: a kind outside R177's table, in a frame of at most 24 payload bytes (R170, R179). -/
def unknownFits (kind : Byte) (args : List Byte) : Bool := (kind.toNat == 0 || 17 < kind.toNat) && args.length ≤ 23

/-- The command can reach the part. -/
def Instr.wellFormed : Instr → Bool
  | .configWrite table _ segment _ bytes => writeFits table segment bytes
  | .unknownCommand kind args => unknownFits kind args
  | .powerOnReset => true
  | .externalReset => true
  | .imageLoadEnd _ _ => true
  | .commitCompletion _ => true
  | .sampleEvent _ _ => true
  | .standstillTimerExpiry => true
  | .escalationTimerExpiry => true
  | .datumEvent _ => true
  | .estopFallingEdge => true
  | .estopRisingEdge => true
  | .estopQualifyExpiry => true
  | .eblRise => true
  | .eblFall => true
  | .railConfirmExpiry => true
  | .ebLiftConfirmExpiry => true
  | .ebSettleExpiry => true
  | .torqueProveExpiry => true
  | .sbLiftConfirmExpiry => true
  | .sbConfirmExpiry => true
  | .stopEbDelayEnd => true
  | .ebDropConfirmExpiry => true
  | .dwellTimerExpiry => true
  | .jogHoldExpiry => true
  | .ackTimerExpiry _ => true
  | .closeTimerExpiry _ => true
  | .reservationTimerExpiry _ => true
  | .exitQuietTimerExpiry _ => true
  | .receiveFrame _ _ => true
  | .frameTimeout _ => true
  | .transmissionCompletion _ => true
  | .silenceTimerExpiry _ => true
  | .driveReport _ _ => true
  | .carReport _ _ _ _ _ _ _ => true
  | .validate _ _ => true
  | .passage _ _ => true
  | .call _ _ => true
  | .gateReport _ _ _ => true
  | .mode _ => true
  | .trip _ => true
  | .cancel _ => true
  | .hold => true
  | .jog _ => true
  | .stop => true
  | .brakeReset => true
  | .evacuate _ _ => true
  | .evacuateEnd _ => true
  | .gateMask _ => true
  | .gateUnmask _ => true
  | .tallySet _ _ => true
  | .configRead _ _ _ => true
  | .configCommit => true
  | .query _ _ _ => true
  | .clear _ => true
  | .byteFramingError _ => true

end Sys2Proof
end

