-- ==== Sys2Proof/Tests/Slice0.lean ====
section
/-! SUPPORT. The model's own tests: refusals of ill-formed commands, single steps with results taken from the spec's examples, and a
witness for each statement that has hypotheses, at the boundaries of its clauses. -/

open Sys2Proof Sys2Proof.Machine

namespace Sys2Proof.Tests

/-! ### Small states -/

def stop (k : Int) (a : Option (Fin 8)) (sa : Side) (b : Option (Fin 8)) (sb : Side) : StopEntry :=
  { present := true, position := k, halfWidth := 300, platformA := a, sideA := sa, platformB := b, sideB := sb }

/-- The line of chapter 11, with a datum of 3.14's number. -/
def tables : Tables :=
  { Tables.empty with
    line := { LineConsts.default with length := 2400000 }
    stops := (((Tables.empty.stops.set 0 (stop 0 (some 0) .left (some 6) .right)).set 1 (stop 600000 (some 1) .right none .left)).set 2
      (stop 1850000 (some 2) .left (some 3) .left)).set 3 (stop 2400000 (some 6) .left (some 0) .right)
    zones := (((Tables.empty.zones.set 0 ⟨true, 0, 10000, 100⟩).set 1 ⟨true, 1200000, 8000, 90⟩).set 2 ⟨true, 1845000, 3000, 95⟩).set 3
      ⟨true, 1860000, 10000, 100⟩
    platforms := ((((Tables.empty.platforms.set 0 ⟨true, 0x80⟩).set 1 ⟨true, 0x80⟩).set 2 ⟨true, 0x80⟩).set 3 ⟨true, 0x80⟩).set 6
      ⟨true, 0x80⟩
    gates := (((Tables.empty.gates.set 1 ⟨true, 1, .entry⟩).set 2 ⟨true, 1, .entry⟩).set 3 ⟨true, 1, .entry⟩).set 4 ⟨true, 1, .exit⟩
    datums := Tables.empty.datums.set 2 ⟨true, 1200000⟩ }

/-- A GOOD channel that has stood at a position. -/
def channelAt (p : Int) : Channel :=
  { Channel.reset with position := some p, status := .good, ring := List.replicate 9 { position := p, held := false } }

def noDemand : Demand := { causes := [], latched := .none, first := none, caution := false, current := .none }

def doorShut : DoorRecord := { DoorRecord.reset with door := .closedLocked, rail := .applied }

def linkUp : Port := { Port.reset with alive := true, silence := some 500 }

/-- The line of chapter 11 in SERVICE, AT_STOP at stop 0, ready to depart. -/
def ready : State :=
  { State.reset with
    loading := false
    cfs := { Cfs.blank with tables := tables }
    msu :=
      { Msu.reset with
        ch1 := channelAt 0, ch2 := channelAt 0, sampleTimer := some 10, qualified := true, pSup := some 0, standstill := true }
    rco :=
      { Rco.reset .locked with
        mode := .service, runState := .atStop, currentStop := some 0, driveReport := some { state := .idle, sb := .applied } }
    bks := { Bks.reset false false with demand := noDemand, sbConfirmed := true }
    dou := { a := doorShut, b := doorShut }
    ports := { drv := linkUp, cra := linkUp, crb := linkUp, sta1 := linkUp, sta2 := linkUp, con := linkUp } }

def inMode (m : LineMode) (r : RunState) (s : State) : State := s.withRco { s.rco with mode := m, runState := r }
def latched (l : Level) (s : State) : State :=
  s.withDemand { causes := [{ cause := .console, level := l }], latched := l, first := some .console, caution := false, current := l }
def inSlot (x : Slot) (t : StepTimer) (s : State) : State :=
  s.withBks { s.bks with slot := x, stepTimer := some { which := t, remaining := 0 } }

/-- A run from stop 0 toward stop 3 at a position and a speed, in SERVICE. -/
def running (p : Int) (v : Nat) : State :=
  { ready with
    msu :=
      { ready.msu with
        ch1 := { channelAt p with speed := v, dir := some .up }, ch2 := { channelAt p with speed := v, dir := some .up }
        pSup := some p, vMeas := v, motion := some .up, standstill := false }
    rco :=
      { ready.rco with
        runState := .running, currentStop := none, tripInHand := some { target := 3, origin := .con, merged := 1 }
        brakesSet := false, driveReport := some { state := .running, sb := .lifted }
        authority := { state := .granted, targetStop := some 3, targetPosition := some 2400000, dir := some .up, ceiling := 10000
                       withdrawalPoint := none } }
    ssv := { Ssv.reset with mode := .curve, aG := some 920, percent := some 90, aZone := some 1080 }
    bks := { ready.bks with sbDmd := false, sbConfirmed := false, ebHold := true, ebProved := true, eblRisen := true }
    dou := { a := { doorShut with rail := .lifted, railOrder := .lift }, b := { doorShut with rail := .lifted, railOrder := .lift } } }


/-- The state that an outcome goes on in. -/
def after (o : Host.Outcome State Fault Refusal) (s : State) : State :=
  match o with
  | .next t => t
  | .fault _ => s
  | .refused _ => s

/-! ### Commands that no line can carry -/

/-- A STOP record of fewer bytes than R178 gives it. -/
theorem test_wellFormed_write_length : (Instr.configWrite 1 0 0 1 [1, 2, 3]).wellFormed = false := by decide
theorem test_wellFormed_write : (Instr.configWrite 5 0 0 1 [1, 0, 0, 0, 0]).wellFormed = true := by decide
/-- A kind of the table of R177 is no unknown command. -/
theorem test_wellFormed_known_kind : (Instr.unknownCommand 17 []).wellFormed = false := by decide
theorem test_wellFormed_unknown_length : (Instr.unknownCommand 18 (List.replicate 24 0)).wellFormed = false := by decide

/-! ### No word spells a command (log 9) -/

theorem test_decode_none : decodeTableWord 8 0x51 = none := by decide
theorem test_withFetchWord : ready.withFetchWord 8 0x51 = ready := rfl

/-! ### Values that the spec gives -/

/-- R174: the check word of the nine digits. -/
theorem test_crc : crc16 [0x31, 0x32, 0x33, 0x34, 0x35, 0x36, 0x37, 0x38, 0x39] = 0x29B1 := by decide +kernel
/-- Chapter 4's example of a call: isqrt(33,120,000). -/
theorem test_target_candidate : targetCandidate tables.line 920 20000 = 5754 := by decide
/-- Section 5.11: isqrt(220,320), and isqrt(209,520). -/
theorem test_target_candidate_jog : targetCandidate tables.line 1080 2102 = 469 ∧ targetCandidate tables.line 1080 2097 = 457 := by
  decide
/-- The line of chapter 11 has passed global validation (11.1). -/
theorem test_validation_passes : validate tables = none := by decide
/-- Section 3.6: the difference of 50 at 6,200 and 6,150 is within its limit of 387. -/
theorem test_speeds_agree : speedLimit 6200 6150 = 387 ∧ speedsDisagree 6200 6150 = false := by decide

/-- The ring of section 3.13 at sample 102, and its channel at sample 103: the speed computed over 400 mm. -/
theorem test_short_sensor_fault :
    (({ channelAt 10000 with
        badRun := 2, speed := 5000, dir := some .up
        ring := [⟨9700, false⟩, ⟨9750, false⟩, ⟨9800, false⟩, ⟨9850, false⟩, ⟨9900, false⟩, ⟨9950, false⟩, ⟨10000, false⟩,
          ⟨10000, true⟩, ⟨10000, true⟩] } : Channel).takeGood 10150).settleSpeed =
      { channelAt 10150 with
        speed := 5000, dir := some .up
        ring := [⟨9750, false⟩, ⟨9800, false⟩, ⟨9850, false⟩, ⟨9900, false⟩, ⟨9950, false⟩, ⟨10000, false⟩, ⟨10000, true⟩,
          ⟨10000, true⟩, ⟨10150, false⟩] } := by decide

/-! ### Steps that the spec's examples tell -/

/-- Section 3.14. -/
def atDatum : State :=
  { running 1199870 500 with
    msu :=
      { (running 1199870 500).msu with
        ch1 := { channelAt 1199870 with offset := -20, resynced := true }
        ch2 := { channelAt 1200350 with offset := 40, resynced := true } } }
theorem test_datum_event :
    let t := after (exec (.datumEvent 2) atDatum) atDatum
    t.msu.ch1.offset = 110 ∧ t.msu.ch1.position = some 1200000 ∧ t.msu.ch1.lastDatum = .corrected 130 ∧ t.msu.ch2.offset = 40 ∧
      t.msu.ch2.resynced = false ∧ t.msu.ch2.lastDatum = .mismatch (-350) ∧ t.bks.demand.first = some .datumMismatch := by decide

/-- The call of 11.2: the run for stop 3 is retargeted to stop 1. -/
theorem test_call_retargets :
    let s := { running 520000 8000 with ssv := { (running 520000 8000).ssv with aG := some 1080 } }
    let t := after (exec (.call .sta1 1) s) s
    t.rco.tripInHand = some { target := 1, origin := .sta1, merged := 1 } ∧
      t.rco.queue = [{ target := 3, origin := .con, merged := 1 }] ∧ t.rco.authority.targetPosition = some 600000 := by decide

/-- The end of the jog of chapter 4's example. -/
def jogging : State :=
  let s := running 902200 480
  { s with
    cfs := { s.cfs with tables := { tables with stops := tables.stops.set 1 (stop 900000 none .left none .left) } }
    rco :=
      { s.rco with
        mode := .maintenance, jogRun := true, jogTimer := some 0, tripInHand := none
        authority := { s.rco.authority with targetStop := some 1, targetPosition := some 900000, dir := some .down } }
    ssv := { s.ssv with aG := some 1080 } }
theorem test_jog_withdrawal_point :
    let t := after (exec .jogHoldExpiry jogging) jogging
    t.rco.authority.state = .withdrawn ∧ t.rco.authority.targetPosition = some 900093 ∧
      t.rco.authority.withdrawalPoint = some 900093 := by decide

/-- The arrival of 11.2 at its delay's end, with EBL risen. -/
theorem test_stop_delay_end :
    let s := inSlot (.stop .s2) .stopEbDelay (inMode .service .stopping (running 600060 0))
    let t := after (exec .stopEbDelayEnd s) s
    t.bks.ebHold = false ∧ t.bks.ebProved = false ∧ t.bks.stepTimer = some { which := .ebDrop, remaining := 1000 } := by decide

/-- Section 7.11: car B's controller restarts and reports token 3. -/
theorem test_stale_token :
    let s := ready.withDoor .b { doorShut with counter := 4 }
    let d := (after (exec (.carReport .b 1 3 0 0 0 0) s) s).door .b
    d.release = .withdrawing ∧ d.stale = 1 ∧ d.token = 0 ∧ d.lastWithdrawal = .stale ∧ d.closeTimer = some 20000 := by decide

/-- The session of chapter 8's example, on platform 1 of this line: two gates wait for a quiet exit. -/
def twoWaiting : State :=
  let s := ready.withSession 1 { Session.reset with isOpen := true, served := some .a, stop := some 1, quietTimer := some 0, waiting := [1, 2] }
  (((s.withGate 1 { GateChannel.reset with state := .waiting }).withGate 2 { GateChannel.reset with state := .waiting }).withLoad .a
    { tally := 19, weigh := none, overload := false, tallyOver := false })
theorem test_exit_quiet_grants_both :
    let t := after (exec (.exitQuietTimerExpiry 1) twoWaiting) twoWaiting
    (t.session 1).reservations = 2 ∧ (t.session 1).waiting = [] ∧ (t.gate 1).timer = some 10000 ∧ (t.gate 2).state = .reserved := by
  decide

/-- Section 6.12: an emergency brake that does not lift. -/
theorem test_lift_not_confirmed :
    let s := inSlot (.departure .d2) .ebLift (inMode .service .departing
      (ready.withBks { ready.bks with ebHold := true }))
    let t := after (exec .ebLiftConfirmExpiry s) s
    t.bks.lastDeparture = .aborted .stepTimeout .d2 ∧ t.bks.ebHold = false ∧ t.rco.abortCount = 1 ∧ t.rco.runState = .atStop := by decide

/-- The dwell's end of 11.2. -/
theorem test_dwell_expiry :
    let s := ((ready.withRco { ready.rco with
      dwellTimer := some 0, queue := [{ target := 3, origin := .con, merged := 1 }] }).withDoor .a
      { doorShut with release := .held, kind := some (.platform 0 0), counter := 4, token := 4 })
    let t := after (exec .dwellTimerExpiry s) s
    t.rco.runState = .closing ∧ t.rco.tripInHand = some { target := 3, origin := .con, merged := 1 } ∧
      (t.door .a).release = .withdrawing ∧ t.rco.firstFailing = some .releases := by decide

/-! ### Witnesses: states and operands that meet the hypotheses of the statements, clause by clause -/

/-- A STOP waits to be taken. -/
def asked : State := ready.withPending [.stop]

theorem witness_StepTakesFrontCommand : asked.pending = .stop :: [] := rfl
theorem witness_StepKeepsDemandLaw : asked.bks.demand.lawful = true ∧ ∃ t, step asked = .next t := ⟨by decide, _, rfl⟩
theorem witness_StepKeepsBrakeLaw : asked.brakesLawful = true ∧ ∃ t, step asked = .next t := ⟨by decide, _, rfl⟩
theorem witness_StepKeepsReleaseLaw : asked.releasesLawful = true ∧ ∃ t, step asked = .next t := ⟨by decide, _, rfl⟩
theorem witness_StepKeepsTripLaw :
    (asked.brakesLawful = true ∧ asked.rco.tripsLawful = true ∧ asked.runLawful = true ∧ ∃ t, step asked = .next t) ∧
      let s := (running 520000 8000).withPending [.call .sta1 1]
      s.brakesLawful = true ∧ s.rco.tripsLawful = true ∧ s.runLawful = true ∧ ∃ t, step s = .next t :=
  ⟨⟨by decide, by decide, by decide, _, rfl⟩, by decide, by decide, by decide, _, rfl⟩
theorem witness_StepKeepsGateLaw :
    (asked.gatesLawful = true ∧ ∃ t, step asked = .next t) ∧
      let s := twoWaiting.withPending [.exitQuietTimerExpiry 1]
      s.gatesLawful = true ∧ ∃ t, step s = .next t := ⟨⟨by decide, _, rfl⟩, by decide, _, rfl⟩
theorem witness_StepKeepsPortCapacities :
    asked.settled = true ∧ asked.ports.withinCapacity = true ∧ ∃ t, step asked = .next t := ⟨by decide, by decide, _, rfl⟩
theorem witness_StepKeepsConfigurationLaw : asked.cfs.lawful = true ∧ ∃ t, step asked = .next t := ⟨by decide, _, rfl⟩
theorem witness_StepKeepsMeasurementLaw : asked.msu.lawful = true ∧ ∃ t, step asked = .next t := ⟨by decide, _, rfl⟩

theorem witness_ResetsLoadImageAndCause :
    ready.cfs.resetCause.count ≤ 255 ∧ (∃ t, exec .powerOnReset ready = .next t) ∧ ∃ t, exec .externalReset ready = .next t :=
  ⟨by decide, ⟨_, rfl⟩, ⟨_, rfl⟩⟩
theorem witness_LoadEndStartsTheBlocks : State.reset.loading = true := rfl
theorem witness_LoadHoldsEverythingElse : State.reset.loading = true := rfl

def writing : State := ready.withCfs { ready.cfs with commit := .writing }
theorem witness_CommitCompletionJudgesReadBack : writing.loading = false ∧ writing.cfs.commit = .writing ∧ writing.waits = true := by
  decide

/-- A good read of a count. -/
def read (count : Nat) : SensorRead :=
  let w : BitVec 26 := BitVec.ofNat 26 (4 * count)
  { idleBefore := true, bits := if oddOnes w 26 then w ||| 1 else w, idleAfter := true }

theorem witness_SampleEventTakesBothReads :
    ready.loading = false ∧ ready.msu.sampleTimer.isSome = true ∧ ready.msu.lawful = true ∧ ready.line.scale1 ≠ 0 ∧
      ready.line.scale2 ≠ 0 := by decide
theorem witness_SampleEventSettlesStandstill :
    ready.loading = false ∧ ready.msu.sampleTimer.isSome = true ∧ ready.msu.lawful = true := by decide

/-- Two channels that have stood at a position with two disagreements counted, and what one sample event with two reads leaves. -/
def sampled (p : Nat) (c1 c2 : Nat) : State :=
  let s := ready.withMsu { ready.msu with ch1 := channelAt p, ch2 := channelAt p, speedDisagree := 2 }
  after (exec (.sampleEvent (read c1) (read c2)) s) s
/-- Speeds of 150 and 0, which agree, and of 162 and 0, which do not; the ends of the measurable range, and 1 mm beyond. -/
theorem witness_SampleEvent_comparisons :
    (let t := sampled 5000 5012 5000
     t.msu.ch1.recomputed = true ∧ t.msu.ch2.recomputed = true ∧ t.msu.ch1.speed = 150 ∧ t.msu.speedDisagree = 0) ∧
    (let t := sampled 5000 5013 5000
     t.msu.ch1.speed = 162 ∧ t.msu.speedDisagree = 3 ∧ holdsCause t.bks.demand.causes .speedDisagree = true) ∧
    (sampled 2401000 2401000 2401000).msu.outOfRange = false ∧
    (let t := sampled 2401000 2401001 2401000
     t.msu.ch1.inRange = false ∧ t.msu.ch2.inRange = true ∧ t.msu.outOfRange = true ∧
       holdsCause t.bks.demand.causes .overrun = true) := by decide +kernel
theorem witness_SampleEventSetsThresholds :
    ready.loading = false ∧ ready.msu.sampleTimer.isSome = true ∧ ready.runLawful = true ∧
      (let s := running 1200000 0
       let s := s.withSsv { s.ssv with snapshot := some (s.snapshotFor .up) }
       let t := after (exec (.sampleEvent (read 1199999) (read 1199999)) s) s
       s.loading = false ∧ s.msu.sampleTimer.isSome = true ∧ s.runLawful = true ∧ t.ssv.mode = .curve ∧
         t.rco.authority.state.running = s.rco.authority.state.running ∧ t.rco.authority.state.running = true ∧
         t.rco.authority.dir = some .up ∧ t.msu.pSup = some 1199999 ∧ t.rco.authority.targetPosition = some 2400000 ∧
         t.ssv.zone = some 0 ∧ t.ssv.percent = some 90 ∧ t.ssv.zoneCandidates.map (·.1) = [1, 2, 3] ∧
         s.ssv.zone = none ∧ validate s.cfs.tables = none ∧ t.msu.qualified = true ∧ t.ssv.asked.brakes = false) ∧
      (let s := (running 2401000 0).withSsv { (running 0 0).ssv with zone := some 3 }
       let t := after (exec (.sampleEvent (read 2401001) (read 2401001)) s) s
       s.runLawful = true ∧ s.ssv.overrunFlag = false ∧ t.ssv.mode = .curve ∧ t.ssv.overrunFlag = true) ∧
      (let s := ready.withMsu { ready.msu with ch1 := channelAt 5000, ch2 := channelAt 5000 }
       let t := after (exec (.sampleEvent (read 5017) (read 5017)) s) s
       s.ssv.asked.brakes = false ∧ t.msu.vMeas = 212 ∧ t.ssv.asked = .service ∧
         t.rco.authority.state = s.rco.authority.state) := by decide +kernel
/-- The stop margin of 2,000 mm and one more. -/
theorem witness_TargetCandidateIsGreatestSpeed :
    (2000 : Int) ≤ LineConsts.default.mStop ∧ LineConsts.default.mStop < 2001 ∧ targetCandidate LineConsts.default 1000 2001 = 44 := by
  decide

/-- A line that has come to rest with its standstill timer running. -/
def resting (p : Int) : State :=
  { running p 0 with msu := { (running p 0).msu with ch1 := channelAt p, ch2 := channelAt p, standstillTimer := some 0, motion := none } }
/-- A line that a latch has arrested, come to rest. -/
def arrestedAt (confirmed hold risen : Bool) : State :=
  let r := latched .service (inMode .service .arrested (resting 700000))
  r.withBks { r.bks with sbDmd := true, sbConfirmed := confirmed, ebHold := hold, ebProved := false, eblRisen := risen }
theorem witness_StandstillExpiryConfirms :
    (let s := resting 2399700
     s.loading = false ∧ s.msu.standstillTimer.isSome = true ∧ s.rco.runState = .running ∧ s.rco.authority.state = .granted ∧
       s.rco.authority.targetStop = some 3 ∧ s.insideWindow 3 = true ∧ s.bks.sbDmd = false) ∧
    (let s := (resting 700000).withRco { (resting 700000).rco with
       mode := .maintenance, jogRun := true, authority := { (resting 700000).rco.authority with state := .withdrawn } }
     s.loading = false ∧ s.msu.standstillTimer.isSome = true ∧ s.rco.runState = .running ∧ s.rco.authority.state = .withdrawn ∧
       s.rco.jogRun = true ∧ s.bks.sbDmd = false) ∧
    (∀ s ∈ [arrestedAt false true true, arrestedAt true true true, arrestedAt true false true, arrestedAt true false false],
      s.loading = false ∧ s.msu.standstillTimer.isSome = true ∧ s.rco.runState = .arrested ∧ s.rco.brakesSet = false ∧
        s.line.stopEbDelay ≠ 0 ∧ s.rco.mode ≠ .recovery ∧ s.brakesLawful = true) ∧
    (let r := inMode .service .arrested (resting 700000)
     let s := r.withRco { r.rco with brakesSet := true, authority := Authority.reset }
     s.loading = false ∧ s.msu.standstillTimer.isSome = true ∧ s.rco.runState = .arrested ∧ s.rco.brakesSet = true ∧
       s.rco.authority.state = .none ∧ s.rco.mode ≠ .recovery) := by decide

/-- Entry 2 is present and entry 0 is not; the tolerance is 300 mm: within, at 300, and beyond, at 301; a FAILED channel. -/
theorem witness_DatumEventJudgesChannels :
    (ready.loading = false ∧ ready.waits = true ∧ (ready.datumEntry 0).present = false) ∧
    (let s := atDatum.withMsu { atDatum.msu with ch1 := channelAt 1199700, ch2 := channelAt 1200301 }
     s.loading = false ∧ (s.datumEntry 2).present = true ∧ s.msu.ch1.status ≠ .failed ∧ s.msu.ch1.ring ≠ [] ∧
       ((s.datumEntry 2).position - 1199700).natAbs ≤ s.line.datumTolerance ∧ s.msu.ch2.status ≠ .failed ∧ s.msu.ch2.ring ≠ [] ∧
       s.line.datumTolerance < ((s.datumEntry 2).position - 1200301).natAbs) ∧
    (let s := atDatum.withMsu { atDatum.msu with ch1 := { channelAt 0 with status := .failed, ring := [] } }
     s.loading = false ∧ (s.datumEntry 2).present = true ∧ s.msu.ch1.status = .failed) := by decide

theorem witness_StopLatchesEmergency :
    (running 0 9000).takesNow .con = true ∧ (running 0 9000).brakesLawful = true ∧ (running 0 9000).bks.demand.latched = .none := by
  decide

/-- Each of the three refusals; a reset that is taken in SERVICE with an empty queue, and in MAINTENANCE. -/
theorem witness_BrakeResetClearsTheRecord :
    (let s := running 0 9000
     s.takesNow .con = true ∧ s.waits = true ∧ s.msu.standstill = false) ∧
    (let s := inSlot (.stop .s1) .sbConfirm (inMode .service .stopping ready)
     s.takesNow .con = true ∧ s.waits = true ∧ s.msu.standstill = true ∧ s.bks.slot ≠ .idle) ∧
    (let s := { latched .emergency ready with bks := { (latched .emergency ready).bks with
       demand := { (latched .emergency ready).bks.demand with causes := [⟨.estop, .emergency⟩] }
       estop := { active := true, timer := none, qualified := true } } }
     s.takesNow .con = true ∧ s.waits = true ∧ s.msu.standstill = true ∧ s.bks.slot = .idle ∧ s.firstPresent = some .estop) ∧
    (let s := latched .emergency ready
     s.takesNow .con = true ∧ s.msu.standstill = true ∧ s.bks.slot = .idle ∧ s.firstPresent = none ∧ s.rco.runState ≠ .closing ∧
       s.rco.queue = []) ∧
    (let s := inMode .maintenance .offStop (latched .emergency ready)
     s.takesNow .con = true ∧ s.msu.standstill = true ∧ s.bks.slot = .idle ∧ s.firstPresent = none ∧ s.rco.runState ≠ .closing ∧
       s.rco.mode ≠ .service) := by decide

theorem witness_EstopLoopQualifies :
    (ready.loading = false ∧ ready.waits = true ∧
      (ready.withBks { ready.bks with estop := { active := false, timer := none, qualified := false } }).waits = true) ∧
    (let s := inSlot (.departure .d3) .torqueProve (inMode .service .departing
       (ready.withBks { ready.bks with ebHold := true, ebProved := true, eblRisen := true, estop := ⟨true, some 0, false⟩ }))
     s.loading = false ∧ s.bks.estop.timer.isSome = true ∧ s.brakesLawful = true ∧ s.bks.slot = .departure .d3) := by decide

theorem witness_EblEdgesAct :
    (let s := inSlot (.departure .d2) .ebLift (inMode .service .departing (ready.withBks { ready.bks with ebHold := true }))
     s.loading = false ∧ s.bks.ebHold = true ∧ s.bks.slot = .departure .d2 ∧ s.stepTimerIs .ebLift = true ∧ s.waits = true ∧
       s.bks.ebProved = false) ∧
    (let s := running 0 9000
     s.loading = false ∧ s.bks.ebHold = true ∧ ¬(s.bks.slot = .departure .d2 ∧ s.stepTimerIs .ebLift = true) ∧ s.waits = true ∧
       s.bks.ebProved = true ∧ s.brakesLawful = true) ∧
    (let s := inSlot (.stop .s2) .ebDrop (inMode .service .stopping ready)
     s.loading = false ∧ s.bks.ebHold = false ∧ s.bks.slot = .stop .s2 ∧ s.stepTimerIs .ebDrop = true) ∧
    (ready.loading = false ∧ ready.bks.ebHold = false ∧ ¬(ready.bks.slot = .stop .s2 ∧ ready.stepTimerIs .ebDrop = true) ∧
      ready.waits = true) := by decide

/-- A check at its check speed of 5,750 mm/s, and one above it from each stage. -/
def checking (stage : EscStage) (v : Nat) : State :=
  let s := running 0 v
  s.withBks { s.bks with esc := { stage := stage, vEntry := 6200, checkSpeed := 5750, timer := some 0, last := .none } }
theorem witness_EscalationComparesSpeed :
    (let s := checking .sbCheck 5750
     s.loading = false ∧ s.bks.esc.timer.isSome = true ∧ s.msu.vMeas ≤ s.bks.esc.checkSpeed ∧ s.waits = true) ∧
    (let s := checking .sbCheck 5751
     s.loading = false ∧ s.bks.esc.timer.isSome = true ∧ s.bks.esc.checkSpeed < s.msu.vMeas) ∧
    (let s := checking .ebCheck 5751
     s.bks.esc.timer.isSome = true ∧ s.bks.esc.checkSpeed < s.msu.vMeas ∧ s.bks.esc.stage = .ebCheck ∧
       s.bks.demand.latched.rank < 4) ∧
    (let s := checking .sbCheck 5751
     s.bks.esc.stage = .sbCheck ∧ s.msu.standstill = false ∧ s.bks.demand.latched.rank < 3 ∧
       ∀ e ∈ s.bks.demand.causes, e.level.rank < 3) := by decide

/-- An abort that is counted, and the third in a row. -/
theorem witness_StepTimeoutAbortsDeparture :
    (let s := inSlot (.departure .d1) .railConfirm (inMode .service .departing ready)
     s.loading = false ∧ s.bks.slot = .departure .d1 ∧ s.stepTimerIs .railConfirm = true ∧ s.rco.mode ≠ .recovery ∧
       s.rco.abortCount < 2) ∧
    (let s := inSlot (.departure .d4) .sbLift (inMode .service .departing (ready.withRco { ready.rco with abortCount := 2 }))
     s.loading = false ∧ s.bks.slot = .departure .d4 ∧ s.stepTimerIs .sbLift = true ∧ s.rco.mode ≠ .recovery ∧
       2 ≤ s.rco.abortCount) := by decide

/-- A departure whose rail brakes are ordered to lift, with car B's rail condition and EBL as given. -/
def liftingRails (rail : RailCond) (risen : Bool) : State :=
  let r := inSlot (.departure .d1) .railConfirm (inMode .service .departing ready)
  (r.withBks { r.bks with eblRisen := risen }).withDoor .b { doorShut with rail := rail }
theorem witness_DepartureStepsProceed :
    (∀ s ∈ [liftingRails .applied false, liftingRails .lifted false, liftingRails .lifted true],
      s.takesNow (Car.port .a) = true ∧ s.rco.runState = .departing ∧ s.bks.slot = .departure .d1 ∧ s.bks.demand.latched = .none ∧
        (s.door .a).release = .none) ∧
    ((liftingRails .applied false).door .b).rail ≠ .lifted ∧ ((liftingRails .lifted true).door .b).rail = .lifted ∧
    (let s := inSlot (.departure .d2) .ebSettle (inMode .service .departing ready)
     s.loading = false ∧ s.bks.slot = .departure .d2 ∧ s.stepTimerIs .ebSettle = true ∧ s.rco.runState = .departing) ∧
    (let s := inSlot (.departure .d3) .torqueProve (inMode .service .departing ready)
     s.takesNow .drv = true ∧ s.rco.runState = .departing ∧ s.bks.slot = .departure .d3) ∧
    (let s := inSlot (.departure .d4) .sbLift (inMode .service .departing ready)
     s.takesNow .drv = true ∧ s.rco.runState = .departing ∧ s.bks.slot = .departure .d4 ∧ (3 : Byte).toNat < 4 ∧ s.lawHolds = true) ∧
    (let s := (inSlot (.departure .d4) .sbLift (inMode .service .departing ready)).withDoor .a { doorShut with door := .opened }
     s.takesNow .drv = true ∧ s.rco.runState = .departing ∧ s.bks.slot = .departure .d4 ∧ s.lawHolds = false ∧
       s.rco.mode ≠ .recovery) := by decide

theorem witness_UnconfirmedBrakesAreListed :
    (let s := inSlot (.stop .s1) .sbConfirm (inMode .service .stopping
       (ready.withBks { ready.bks with ebHold := true, ebProved := true, eblRisen := true, sbConfirmed := false }))
     s.loading = false ∧ s.stepTimerIs .sbConfirm = true ∧ s.brakesLawful = true ∧ s.bks.eblRisen = true) ∧
    (let s := inSlot (.stop .s1) .sbConfirm (inMode .service .stopping ready)
     s.loading = false ∧ s.stepTimerIs .sbConfirm = true ∧ s.brakesLawful = true ∧ s.bks.eblRisen = false) ∧
    (let s := inSlot (.stop .s2) .ebDrop (inMode .service .stopping ready)
     s.loading = false ∧ s.stepTimerIs .ebDrop = true ∧ s.brakesLawful = true ∧ s.bks.ebHold = false) := by decide

theorem witness_StopDelayEndDropsEmergencyBrake :
    (let s := inSlot (.stop .s2) .stopEbDelay (inMode .service .stopping
       (ready.withBks { ready.bks with ebHold := true, ebProved := true, eblRisen := true }))
     s.loading = false ∧ s.stepTimerIs .stopEbDelay = true ∧ s.bks.slot = .stop .s2 ∧ s.bks.ebHold = true ∧ s.bks.eblRisen = true ∧
       s.waits = true) ∧
    (let s := inSlot (.stop .s2) .stopEbDelay (inMode .service .stopping (ready.withBks { ready.bks with ebHold := true }))
     s.loading = false ∧ s.stepTimerIs .stopEbDelay = true ∧ s.bks.slot = .stop .s2 ∧ s.bks.ebHold = true ∧ s.bks.eblRisen = false ∧
       s.rco.mode ≠ .recovery ∧ s.windowTest = some 0) ∧
    (∀ p ∈ [(80 : Int), 81],
      let r := inSlot (.stop .s2) .stopEbDelay (inMode .recovery .stopping (ready.withBks { ready.bks with ebHold := true }))
      let s := r.withMsu { r.msu with
        ch1 := { channelAt 0 with resynced := true }, ch2 := { channelAt p with resynced := true }
        pSup := some 0 }
      s.loading = false ∧ s.stepTimerIs .stopEbDelay = true ∧ s.bks.slot = .stop .s2 ∧ s.bks.ebHold = true ∧ s.bks.eblRisen = false ∧
        s.rco.mode = .recovery ∧ s.windowTest = some 0 ∧ s.msu.qualified = true) := by decide

/-- The dwell's end: a head behind a request for the stop at hand, with a release that fails the readiness test; an empty queue. -/
def dwelling (q : List Trip) : State :=
  (ready.withRco { ready.rco with dwellTimer := some 0, queue := q }).withDoor .a
    { doorShut with release := .held, kind := some (.platform 0 0), counter := 4, token := 4 }
theorem witness_DwellExpiryTakesHead :
    (let s := dwelling [⟨0, .con, 1⟩, ⟨3, .con, 255⟩]
     s.loading = false ∧ s.rco.dwellTimer.isSome = true ∧ s.rco.runState = .atStop ∧ s.rco.mode = .service ∧
       s.readiness.isSome = true ∧
       s.rco.queue.dropWhile (fun q => s.rco.currentStop == some q.target) = ⟨3, .con, 255⟩ :: []) ∧
    (let s := dwelling []
     s.loading = false ∧ s.rco.dwellTimer.isSome = true ∧ s.rco.runState = .atStop ∧ s.rco.queue = []) := by decide

theorem witness_JogHoldExpiryWithdraws :
    jogging.loading = false ∧ jogging.rco.jogTimer.isSome = true ∧ jogging.rco.authority.state = .granted ∧
      jogging.rco.authority.dir = some .down ∧ jogging.rco.authority.targetStop = some 1 ∧ jogging.ssv.aG = some 1080 ∧ 0 < 1080 ∧
      jogging.msu.pSup = some 902200 ∧ jogging.msu.standstill = false ∧ jogging.rco.runState ≠ .closing := by decide

theorem witness_DoorTimersAct :
    let s := (ready.withDoor .a
      { doorShut with release := .ordered, kind := some (.platform 0 0), counter := 4, token := 4, ackTimer := some 0 }).withDoor .b
      { doorShut with release := .withdrawing, closeTimer := some 0 }
    s.loading = false ∧ (s.door .a).ackTimer.isSome = true ∧ (s.door .a).isPlatform = true ∧ (s.door .b).closeTimer.isSome = true ∧
      s.waits = true := by decide

def reserving : State :=
  (ready.withGate 1 { GateChannel.reset with state := .reserved, timer := some 0 }).withSession 1
    { Session.reset with isOpen := true, served := some .a, reservations := 1 }
/-- A reservation that expires; a quiet exit with no gate waiting, and with one that the policy then admits. -/
theorem witness_AdmissionTimersAct :
    (reserving.loading = false ∧ (reserving.gate 1).timer.isSome = true ∧
      (reserving.session (reserving.gateEntry 1).platform).waiting = [] ∧ reserving.waits = true) ∧
    (let s := ready.withSession 1 { Session.reset with isOpen := true, served := some .a, quietTimer := some 0 }
     s.loading = false ∧ (s.session 1).quietTimer.isSome = true ∧ s.waits = true ∧ (s.session 1).waiting = []) ∧
    (let s := ready.withSession 1 { Session.reset with isOpen := true, served := some .a, quietTimer := some 0, waiting := [2] }
     s.loading = false ∧ (s.session 1).quietTimer.isSome = true ∧ s.waits = true ∧ (s.session 1).waiting = [2] ∧
       (s.platformEntry 1).policy.getLsbD (4 * (s.session 1).isOpen.toNat + 2 * (s.placesLeft 1).toNat + 1) = true) := by decide

theorem witness_GrantChoosesFewestAdmissions : ([3, 1, 2] : List (Fin 16)) ≠ [] ∧ ready.chosen [3, 1, 2] = some 1 := by decide

def withRx (n : Nat) (s : State) : State :=
  s.withPort .con { s.ports.con with rx := List.replicate n (.command .hold), tx := List.replicate 6 (gateAnswer 0 .wait .none) }
/-- A request taken at once; three requests waiting before a full transmit queue, and four. -/
theorem witness_RequestGetsOneReply :
    (Instr.request .stop = some (.con, .command .stop) ∧ ready.takesNow .con = true) ∧
    ((withRx 3 ready).loading = false ∧ ((withRx 3 ready).port .con).rx.length < 4 ∧ ((withRx 3 ready).port .con).mayTake = false) ∧
    ((withRx 4 ready).loading = false ∧ 4 ≤ ((withRx 4 ready).port .con).rx.length) := by decide

theorem witness_ReceivedFrameActsAsItsRequest :
    let heard := ready.withPort .con { ready.port .con with silence := some ready.line.silenceLimit, alive := true, aliveSince := false || !true }
    ready.loading = false ∧ (ready.port .con).frame = [] ∧ ([6] : List Byte).length ≤ 24 ∧
      judge .con 0 0x51 [6] = .valid (.command .stop) ∧ Instr.request .stop = some (.con, .command .stop) ∧ heard.waits = true ∧
      heard.takesNow .con = true ∧ (∀ n ∈ [3, 4], ((withRx n ready).port .con).frame = [] ∧ ((withRx n ready).port .con).mayTake = false ∧
        ((withRx n ready).port .con).rx.length = n) := by decide

theorem witness_BrokenFramesAreCounted :
    (let s := ready.withPort .con { linkUp with frame := [0x7E, 0], badCrc := 127 }
     s.loading = false ∧ (s.port .con).frame ≠ [] ∧ (s.port .con).badCrc = 127) ∧
    (24 < (25 : Byte).toNat ∧ portHears .sta1 0x33 0x88 = false ∧ portHears .sta1 16 0x31 = false ∧ portHears .con 0 0x11 = false ∧
      portHears .drv 0 0x11 = true ∧ lengthFits 0x11 [0] = false ∧ portHears .con 0 0x51 = true ∧ lengthFits 0x51 [] = false ∧
      lengthFits 0x51 [4, 0] = false) ∧
    (ready.loading = false ∧ (ready.port .con).frame = [] ∧ (∀ b ∈ ([0x7D, 0x7F] : List Byte), b ≠ 0x7E) ∧
      (List.replicate 24 (0 : Byte)).length ≤ 24 ∧
      (0 : Byte) ++ (0 : Byte) ≠ crc16 ((0 : Byte) :: 0x51 :: BitVec.ofNat 8 24 :: List.replicate 24 0)) := by decide +kernel

def sending (p : Port) (i : PortId) : State := ready.withPort i { p with tx := List.replicate 6 (gateAnswer 0 .wait .none) }
theorem witness_CompletionFreesPlace :
    (ready.loading = false ∧ ready.settled = true ∧ (ready.port .con).rx = [] ∧ (ready.port .con).tx = []) ∧
    (let s := sending linkUp .con
     s.loading = false ∧ s.settled = true ∧ (s.port .con).rx = [] ∧ (s.port .con).tx.length ≤ 6 ∧
       (s.port .con).somePending = false) ∧
    (∀ i ∈ [PortId.drv, .cra, .crb],
      let s := sending { linkUp with pendingOrder := true } i
      s.loading = false ∧ s.settled = true ∧ (s.port i).rx = [] ∧ (s.port i).tx.length ≤ 6 ∧ (s.port i).pendingOrder = true ∧
        (s.port i).pendingGates = []) ∧
    (let s := sending { linkUp with pendingGates := [⟨3, .admitted, .none⟩, ⟨4, .refused, .fault⟩] } .sta1
     s.loading = false ∧ s.settled = true ∧ (s.port .sta1).rx = [] ∧ (s.port .sta1).tx.length ≤ 6 ∧
       (s.port .sta1).pendingOrder = false) ∧
    (let s := sending { linkUp with rx := [.command .hold, .command .stop] } .con
     s.loading = false ∧ s.settled = true ∧ (s.port .con).rx = .command .hold :: [.command .stop] ∧
       (s.port .con).somePending = false ∧ (s.port .con).tx.length = 6) ∧
    ([⟨3, .admitted, .none⟩, ⟨5, .refused, .fault⟩].map PendingGate.gate).Pairwise (· < ·) := by decide

def waitingAtGate : State :=
  (ready.withGate 1 { GateChannel.reset with state := .waiting }).withSession 1 { Session.reset with isOpen := true, waiting := [1] }
theorem witness_SilenceLosesTheLink :
    ((running 0 9000).loading = false ∧ ((running 0 9000).port .drv).silence.isSome = true ∧ ((running 0 9000).port .drv).rx = [] ∧
      (running 0 9000).live = true) ∧
    (ready.loading = false ∧ (ready.port .con).silence.isSome = true ∧ (ready.port .con).rx = [] ∧ ready.waits = true) ∧
    (waitingAtGate.loading = false ∧ (waitingAtGate.port .sta1).silence.isSome = true ∧ (waitingAtGate.port .sta1).rx = [] ∧
      gateSta 1 = .sta1 ∧ (waitingAtGate.gate 1).state = .waiting ∧
      ∀ q, (waitingAtGate.session q).waiting.Nodup ∧
        ∀ h ∈ (waitingAtGate.session q).waiting, (waitingAtGate.gateEntry h).platform = q) := by decide

/-- A FAULT of a live line, whose code is the least above 3, and a report of an idle drive. -/
theorem witness_DriveReportIsTaken :
    ((running 0 9000).takesNow .drv = true ∧ 3 < (4 : Byte).toNat ∧ (running 0 9000).live = true ∧ (running 0 9000).bks.slot = .idle ∧
      (running 0 9000).bks.demand.latched = .none) ∧
    (ready.takesNow .drv = true ∧ ready.bks.slot = .idle ∧ (3 : Byte).toNat ≤ 3 ∧ ready.rco.runState ≠ .closing) := by decide

/-- The greatest token and the least byte that is none. -/
theorem witness_CarReportIsTaken : ready.takesNow (Car.port .a) = true ∧ (15 : Byte).toNat < 16 ∧ 16 ≤ (16 : Byte).toNat := by decide

def rel (r : ReleaseState) (token : Fin 16) : State :=
  (latched .emergency ready).withDoor .a { doorShut with release := r, counter := 15, token := token, kind := some .evacuation }
theorem witness_ReportedTokenIsJudged :
    ∀ s ∈ [rel .none 0, rel .ordered 15, rel .held 15, rel .withdrawing 0],
      s.takesNow (Car.port .a) = true ∧ s.releasesLawful = true ∧ (15 : Byte).toNat < 16 ∧ s.bks.demand.latched = .emergency ∧
        s.rco.runState = .atStop ∧ s.bks.slot = .idle := by decide
/-- The session of its platform is closed, and open for the other car. -/
theorem witness_ReportedToken_opens :
    ∀ x ∈ [Session.reset, { Session.reset with isOpen := true, served := some .b }],
      let s := (ready.withDoor .a
        { doorShut with release := .ordered, counter := 15, token := 15, kind := some (.platform 0 0) }).withSession 0 x
      s.takesNow (Car.port .a) = true ∧ s.bks.demand.latched = .none ∧ s.rco.runState = .atStop ∧ s.bks.slot = .idle ∧
        s.rco.authority.state = .none ∧ (s.door .a).release = .ordered ∧ (s.door .a).kind = some (.platform 0 0) ∧
        (s.session 0).waiting = [] := by decide

theorem witness_ValidateFollowsItsTable :
    ready.takesNow (Sta.port .sta1) = true ∧ ready.waits = true ∧
      (let s := ready.withSession 1 { Session.reset with isOpen := true, served := some .a }
       s.takesNow (Sta.port .sta1) = true ∧ s.waits = true ∧ (s.session (s.gateEntry 1).platform).waiting = []) := by decide

/-- An entry gate, and the exit gate of an open session and of a closed one. -/
theorem witness_PassageCountsOnePerson :
    ∀ s ∈ [waitingAtGate, reserving, reserving.withSession 1 { Session.reset with served := some .a }],
      s.takesNow (Sta.port .sta1) = true ∧ s.rco.runState ≠ .closing ∧ (s.gateEntry 1).dir = .entry ∧ (s.gateEntry 4).dir = .exit ∧
      ∀ q, (s.session q).waiting.Nodup ∧ ∀ h ∈ (s.session q).waiting,
        (s.gateEntry h).platform = q ∧ (s.gate h).state = .waiting := by decide
/-- A gate of the port and one that is none of its; no onset, and the onset in each of a gate's states. -/
theorem witness_GateReportSetsFault :
    (waitingAtGate.takesNow (Sta.port .sta1) = true ∧ waitingAtGate.waits = true ∧ (waitingAtGate.gateEntry 1).present = true ∧
      (1 : Fin 16).val < 8 ∧ (waitingAtGate.gate 1).fault = false ∧ (waitingAtGate.gate 1).state = .waiting ∧
      (waitingAtGate.session (waitingAtGate.gateEntry 1).platform).waiting = [1] ∧ (waitingAtGate.gateEntry 15).present = false ∧
      (waitingAtGate.gate 2).state = .idle ∧
      ∀ q, (waitingAtGate.session q).waiting.Nodup ∧ ∀ h ∈ (waitingAtGate.session q).waiting,
        (waitingAtGate.gateEntry h).platform = q ∧ (waitingAtGate.gate h).state = .waiting) ∧
    (reserving.takesNow (Sta.port .sta1) = true ∧ reserving.waits = true ∧ (reserving.gate 1).fault = false ∧
      (reserving.gate 1).state = .reserved ∧ (reserving.session (reserving.gateEntry 1).platform).waiting = []) := by decide

/-- A line at stop 0 with a queue of so many requests for other stops. -/
def queued (n : Nat) (hand : Option Trip) : State :=
  ready.withRco { ready.rco with queue := [⟨2, .con, 1⟩, ⟨5, .con, 1⟩, ⟨0, .con, 1⟩, ⟨4, .con, 1⟩].take n, tripInHand := hand }
/-- One candidate stop, and two that lie equally near. -/
theorem witness_CallRequestsItsStop :
    (let s := inMode .standby .atStop ready
     s.takesNow (Sta.port .sta1) = true ∧ s.waits = true ∧ s.rco.mode ≠ .service ∧ s.rco.mode ≠ .recovery) ∧
    (ready.takesNow (Sta.port .sta1) = true ∧ ready.waits = true ∧ ready.rco.mode = .service ∧
      (ready.platformEntry 7).present = false) ∧
    (let s := ready.withMsu { ready.msu with pSup := none }
     s.takesNow (Sta.port .sta1) = true ∧ (s.platformEntry 1).present = true ∧ s.callCandidates 1 = [1] ∧ s.msu.pSup = none) ∧
    (let s := queued 0 (some ⟨1, .con, 255⟩)
     s.takesNow (Sta.port .sta1) = true ∧ s.callCandidates 1 = [1] ∧ s.msu.pSup.isSome = true) ∧
    (∀ s ∈ [queued 4 none, queued 3 none], s.takesNow (Sta.port .sta1) = true ∧ s.callCandidates 1 = [1] ∧
      s.msu.pSup = some 0 ∧ s.rco.tripInHand = none ∧ ∀ q ∈ s.rco.queue, q.target ≠ 1) ∧
    (let s := queued 1 none
     s.callCandidates 2 = [2] ∧ (s.platformEntry 2).present = true ∧ ∃ q ∈ s.rco.queue, q.target = 2) ∧
    (let s := (queued 1 none).withMsu { ready.msu with pSup := some 1200000 }
     s.callCandidates 0 = [0, 3] ∧
       ∀ j ∈ s.callCandidates 0, ((s.stopEntry 0).position - 1200000).natAbs ≤ ((s.stopEntry j).position - 1200000).natAbs ∧
         (((s.stopEntry 0).position - 1200000).natAbs = ((s.stopEntry j).position - 1200000).natAbs → 0 ≤ j)) := by decide
/-- A line at stop 0 whose head neither goes nor shortens a run. -/
theorem witness_request_waits : ¬(queued 3 none).headGoes ∧ ¬(queued 3 none).shortensTo 1 :=
  ⟨by unfold State.headGoes; decide, fun h => absurd h.1 (by decide)⟩
/-- The run of 11.2, which a request for stop 1 shortens. -/
def shortening : State := { running 520000 8000 with ssv := { (running 520000 8000).ssv with aG := some 1080 } }
theorem witness_request_shortens :
    shortening.shortensTo 1 ∧ shortening.takesNow (Sta.port .sta1) = true ∧ shortening.takesNow .con = true ∧
      shortening.waits = true ∧ shortening.rco.mode = .service ∧ shortening.callCandidates 1 = [1] ∧
      shortening.rco.tripInHand = some ⟨3, .con, 1⟩ ∧ shortening.rco.queue = [] :=
  ⟨⟨by decide, by decide, by decide, by decide, by decide, by decide, 520000, by decide, 2400000, by decide, by decide⟩, by decide⟩
/-- A line at stop 0 whose dwell has elapsed, under a latch: a request for stop 1 becomes the trip in hand, and one for stop 0 is removed. -/
def elapsed : State := latched .service (ready.withRco { ready.rco with dwellElapsed := true })
theorem witness_request_goes :
    elapsed.headGoes ∧ elapsed.takesNow (Sta.port .sta1) = true ∧ elapsed.takesNow .con = true ∧ elapsed.waits = true ∧
      elapsed.rco.mode = .service ∧ elapsed.callCandidates 1 = [1] ∧ elapsed.callCandidates 0 = [0, 3] ∧
      elapsed.msu.pSup = some 0 ∧ elapsed.rco.tripInHand = none ∧ elapsed.readiness.isSome = true ∧ elapsed.rco.queue = [] ∧
      elapsed.rco.currentStop = some 0 :=
  ⟨.inl (by decide), by decide⟩

/-- A line fit for each row of the transition table, and one fit for none. -/
theorem witness_ModeFollowsItsTable :
    (∀ s ∈ [inMode .locked .arrested ready, inMode .maintenance .offStop ready, inMode .standby .atStop ready, ready, running 0 9000],
      s.takesNow .con = true ∧ s.waits = true ∧ s.cfs.commit = .idle ∧ s.msu.qualified = true ∧ s.cfs.uncommitted = false ∧
        validate s.cfs.tables = none ∧ s.rco.tripsLawful = true) ∧
    (writing.takesNow .con = true ∧ writing.waits = true ∧ writing.cfs.commit = .writing) ∧
    (let s := (inMode .locked .arrested ready).withMsu { ready.msu with qualified := false }
     s.takesNow .con = true ∧ s.waits = true ∧ s.cfs.commit = .idle ∧ s.rco.mode = .locked ∧ s.cfs.workingValid = false) ∧
    (let s := (inMode .maintenance .atStop ready).withCfs { ready.cfs with tables := Tables.empty }
     s.takesNow .con = true ∧ s.waits = true ∧ s.cfs.commit = .idle ∧ s.rco.mode = .maintenance ∧ s.rco.runState = .atStop ∧
       (validate s.cfs.tables).isSome = true) := by decide

theorem witness_TripJoinsTheQueue :
    (let s := inMode .standby .atStop ready
     s.takesNow .con = true ∧ s.waits = true ∧ s.rco.mode ≠ .service ∧ s.rco.mode ≠ .recovery) ∧
    (∀ s ∈ [queued 4 none, queued 3 none, queued 0 (some ⟨1, .con, 255⟩)], s.takesNow .con = true ∧ s.waits = true ∧
      s.rco.mode = .service ∧ (s.stopEntry 4).present = false ∧
      (s.stopEntry 1).present = true ∧ ∀ q ∈ s.rco.queue, q.target ≠ 1) ∧
    ∃ q ∈ (queued 3 none).rco.queue, q.target = 2 := by decide
theorem witness_CancelRemovesOneTarget :
    (queued 1 none).takesNow .con = true ∧ (queued 1 none).waits = true ∧ 6 ≤ (6 : Byte).toNat := by decide

/-- A run that stop 1 can shorten and one that none can; CLOSING at a stop; a line at rest; a mode without trips. -/
theorem witness_HoldEndsTheRunEarly :
    (let s := (running 580000 5600).withRco { (running 580000 5600).rco with queue := [⟨2, .con, 1⟩, ⟨0, .con, 1⟩, ⟨4, .con, 1⟩] }
     s.takesNow .con = true ∧ s.rco.mode = .service ∧ s.rco.runState = .running ∧ s.rco.authority.state = .granted ∧
       s.rco.jogRun = false ∧ s.stopsAhead.find? s.reachable = some 1 ∧ s.rco.tripInHand = some ⟨3, .con, 1⟩ ∧
       (∀ q ∈ s.rco.queue, q.target ≠ 1) ∧ s.rco.queue.length < 4 ∧ s.msu.pSup = some 580000 ∧
       s.rco.authority.targetPosition = some 2400000 ∧ s.rco.authority.dir = some .up) ∧
    (let s := running 2399000 5600
     s.takesNow .con = true ∧ s.rco.runState = .running ∧ s.rco.authority.state = .granted ∧ s.rco.jogRun = false ∧
       s.stopsAhead.find? s.reachable = none) ∧
    (let s := inMode .service .closing (queued 3 (some ⟨3, .con, 1⟩))
     s.takesNow .con = true ∧ s.rco.runState = .closing ∧ s.rco.tripInHand = some ⟨3, .con, 1⟩ ∧ s.rco.queue.length < 4 ∧
       s.rco.currentStop = some 0) ∧
    (ready.takesNow .con = true ∧ ready.rco.mode = .service ∧ ready.rco.runState ≠ .running ∧ ready.rco.runState ≠ .closing) ∧
    (let s := inMode .standby .atStop ready
     s.takesNow .con = true ∧ s.waits = true ∧ s.rco.mode ≠ .service ∧ s.rco.mode ≠ .recovery) := by decide

def jogReady : State := (inMode .maintenance .atStop ready).withCfs { ready.cfs with workingValid := true }
theorem witness_JogStartsAndHoldsARun :
    (ready.takesNow .con = true ∧ ready.waits = true ∧ ready.rco.mode ≠ .maintenance) ∧
    (jogReady.takesNow .con = true ∧ jogReady.waits = true ∧ jogReady.rco.mode = .maintenance ∧ jogReady.cfs.workingValid = true ∧
      jogReady.rco.runState = .atStop ∧ jogReady.nextStop .down = none ∧ jogReady.nextStop .up = some 1 ∧ jogReady.readiness = none ∧
      jogReady.dou.a.rail ≠ .lifted ∧ jogReady.bks.demand.lawful = true) ∧
    ((latched .service jogReady).takesNow .con = true ∧ (latched .service jogReady).nextStop .up = some 1 ∧
      (latched .service jogReady).readiness = some .brakeLatch) ∧
    (let s := jogging.withCfs { jogging.cfs with workingValid := true }
     s.takesNow .con = true ∧ s.waits = true ∧ s.rco.mode = .maintenance ∧ s.rco.runState = .running ∧
       s.rco.authority.dir = some .down ∧ s.rco.authority.state = .granted) ∧
    (let s := inMode .maintenance .departing (jogging.withCfs { jogging.cfs with workingValid := true })
     s.takesNow .con = true ∧ s.waits = true ∧ s.rco.runState = .departing ∧ s.rco.authority.dir = some .down) ∧
    (let s := inMode .maintenance .atStop ready
     s.takesNow .con = true ∧ s.waits = true ∧ s.rco.mode = .maintenance ∧ s.cfs.workingValid = false) ∧
    (let s := (jogReady.withDoor .a { doorShut with rail := .lifted }).withDoor .b { doorShut with rail := .lifted }
     s.takesNow .con = true ∧ s.waits = true ∧ s.nextStop .up = some 1 ∧ s.readiness = none ∧ s.bks.eblRisen = false ∧
       s.bks.demand.lawful = true) ∧
    (let r := jogging.withCfs { jogging.cfs with workingValid := true }
     let s := r.withRco { r.rco with authority := { r.rco.authority with state := .withdrawn } }
     s.takesNow .con = true ∧ s.waits = true ∧ s.rco.runState = .running ∧ s.rco.authority.dir = some Dir.up.opposite ∧
       s.rco.authority.state = .withdrawn) ∧
    (∀ r ∈ [RunState.stopping, .arrested, .closing],
      let s := inMode .maintenance r (jogging.withCfs { jogging.cfs with workingValid := true })
      s.takesNow .con = true ∧ s.waits = true ∧ s.rco.mode = .maintenance ∧ s.cfs.workingValid = true) := by decide

theorem witness_EvacuationIsOrderedAndEnded :
    (let s := inMode .locked .arrested ready
     s.takesNow .con = true ∧ s.rco.mode = .locked ∧ s.waits = true) ∧
    (ready.takesNow .con = true ∧ ready.rco.mode ≠ .locked ∧ ready.msu.standstill = true ∧ ready.bks.ebHold = false ∧
      ready.rco.authority.state = .none ∧ (ready.door .a).release = .none ∧ ready.waits = true ∧
      ¬((ready.door .a).kind = some .evacuation ∧ (ready.door .a).given = true)) ∧
    (∀ s ∈ [ready.withMsu { ready.msu with standstill := false }, ready.withBks { ready.bks with ebHold := true },
        ready.withRco { ready.rco with authority := { Authority.reset with state := .prove } },
        ready.withDoor .a { doorShut with release := .ordered }],
      s.takesNow .con = true ∧ s.rco.mode ≠ .locked ∧ s.waits = true) ∧
    ((rel .held 15).takesNow .con = true ∧ (rel .held 15).rco.mode ≠ .locked ∧ ((rel .held 15).door .a).kind = some .evacuation ∧
      ((rel .held 15).door .a).given = true) := by decide

theorem witness_GateMaskFollowsTheConsole :
    (waitingAtGate.takesNow .con = true ∧ waitingAtGate.waits = true ∧ (waitingAtGate.gateEntry 15).present = false ∧
      (waitingAtGate.gateEntry 1).present = true ∧ (waitingAtGate.gate 1).masked = false ∧ (waitingAtGate.gate 1).state = .waiting ∧
      (waitingAtGate.session (waitingAtGate.gateEntry 1).platform).waiting = [1] ∧ (waitingAtGate.gateEntry 2).present = true ∧
      (waitingAtGate.gate 2).masked = false ∧ (waitingAtGate.gate 2).state = .idle) ∧
    (let s := ready.withGate 1 { GateChannel.reset with masked := true }
     s.takesNow .con = true ∧ s.waits = true ∧ (s.gateEntry 1).present = true ∧ (s.gate 1).masked = true) ∧
    (reserving.takesNow .con = true ∧ reserving.waits = true ∧ (reserving.gateEntry 1).present = true ∧
      (reserving.gate 1).masked = false ∧ (reserving.gate 1).state = .reserved ∧
      (reserving.session (reserving.gateEntry 1).platform).waiting = []) := by decide

theorem witness_TallySetGivesTheTally :
    ((running 0 9000).takesNow .con = true ∧ (running 0 9000).rco.runState ≠ .atStop ∧ (running 0 9000).waits = true) ∧
    ((rel .held 15).takesNow .con = true ∧ (rel .held 15).rco.runState = .atStop ∧ ((rel .held 15).door .a).release ≠ .none) ∧
    (ready.takesNow .con = true ∧ ready.rco.runState = .atStop ∧ (ready.door .a).release = .none) := by decide

/-- The refusals; entries at the ends of the ranges of R11; the segments of a LINE record, with the only index and one beyond. -/
def inWrite (index segments : Nat) : State :=
  (inMode .maintenance .atStop ready).withPc5
    { write := some { table := .line, index := index, segments := segments, bytes := [1, 2] }, read := none }
theorem witness_ConfigWriteStoresTheRecord :
    (writing.takesNow .con = true ∧ writing.waits = true ∧ writing.cfs.commit = .writing) ∧
    (ready.takesNow .con = true ∧ ready.waits = true ∧ ready.cfs.commit = .idle ∧ ready.rco.mode ≠ .maintenance) ∧
    (let s := inMode .maintenance .running ready
     s.takesNow .con = true ∧ s.waits = true ∧ s.rco.mode = .maintenance ∧ s.rco.runState ≠ .atStop ∧ s.rco.runState ≠ .offStop) ∧
    (let s := inMode .maintenance .offStop ready
     s.takesNow .con = true ∧ s.waits = true ∧ s.cfs.commit = .idle ∧ s.rco.mode = .maintenance ∧ s.rco.runState = .offStop ∧
       0 ≤ (stop 4000000 none .left none .left).position ∧ (stop 4000000 none .left none .left).position ≤ 4000000 ∧
       50 ≤ (stop 4000000 none .left none .left).halfWidth ∧ (stop 4000000 none .left none .left).halfWidth ≤ 500 ∧
       500 ≤ (ZoneEntry.mk true 0 500 50).limit ∧ (ZoneEntry.mk true 0 500 50).limit ≤ 15000 ∧
       50 ≤ (ZoneEntry.mk true 0 500 50).percent ∧ (ZoneEntry.mk true 0 500 50).percent ≤ 100) ∧
    (∀ s ∈ [inWrite 0 1, inWrite 0 2, inWrite 1 2], s.takesNow .con = true ∧ s.waits = true ∧ s.cfs.commit = .idle ∧
      s.rco.mode = .maintenance ∧ s.rco.runState = .atStop) ∧
    (inWrite 0 1).pc5.write = some { table := .line, index := (0 : Byte).toNat, segments := 1, bytes := [1, 2] } ∧
    (inWrite 1 2).pc5.write = some { table := .line, index := (1 : Byte).toNat, segments := 2, bytes := [1, 2] } ∧ (1 : Byte) ≠ 0 ∧
    6 ≤ (6 : Byte).toNat ∧ TableId.datum ≠ .line ∧ TableId.size .datum ≤ (4 : Byte).toNat ∧ (3 : Byte).toNat < TableId.size .datum ∧
    badField .datum (encDatum { present := true, position := 4000001 }) = some 2 := by decide
/-- The last segment of a LINE record that R12 accepts. -/
theorem witness_ConfigWrite_line :
    let s := (inMode .maintenance .atStop ready).withPc5
      { write := some { table := .line, index := 0, segments := 2, bytes := (encLine tables.line).take 38 }, read := none }
    s.takesNow .con = true ∧ s.waits = true ∧ s.cfs.commit = .idle ∧ s.rco.mode = .maintenance ∧ s.rco.runState = .atStop ∧
      badField .line ((encLine tables.line).take 38 ++ (encLine tables.line).drop 38) = none := by decide

def reading (kind : ReadKind) : State :=
  ready.withPc5 { write := none, read := some { kind := kind, record := 4, n := 0, bytes := List.replicate 20 0 } }
/-- Segment 0 of a record and of a table entry; segment 1, the last, of a snapshot of 20 bytes, and segment 2; no snapshot, and one of
another kind, record or n; names out of range. -/
theorem witness_ReadsAnswerFromSnapshot :
    (ready.takesNow .con = true ∧ ready.waits = true ∧ (11 : Byte).toNat < 12 ∧ (queryRecord 11 0 ready).isSome = true ∧
      (3 : Byte).toNat < TableId.size .datum ∧ ready.pc5.read = none ∧ (1 : Byte) ≠ 0) ∧
    (∀ kind ∈ [ReadKind.query, ReadKind.configRead], (reading kind).takesNow .con = true ∧ (reading kind).waits = true ∧
      (reading kind).pc5.read = some { kind := kind, record := (4 : Byte).toNat, n := (0 : Byte).toNat, bytes := List.replicate 20 0 } ∧
      (1 : Byte).toNat < ((List.replicate 20 (0 : Byte)).length + 18) / 19 ∧ (4 : Byte).toNat < 12 ∧
      ((List.replicate 20 (0 : Byte)).length + 18) / 19 ≤ (2 : Byte).toNat) ∧
    (0 : Byte).toNat < 12 ∧ (1 : Byte) ≠ 0 ∧ 8 ≤ (8 : Byte).toNat ∧ 16 ≤ (16 : Byte).toNat ∧ 6 ≤ (6 : Byte).toNat ∧
    (ReadKind.configRead ≠ .query ∧ (4 : Byte).toNat ≠ (5 : Byte).toNat ∧ (0 : Byte).toNat ≠ (1 : Byte).toNat) ∧
    TableId.size .datum ≤ (4 : Byte).toNat := by decide
/-- R79: the queue entry by entry, the number of requests, the dropped count, and no dropped trip. -/
theorem test_query_trip_queue : queryRecord 10 0 (queued 1 none) = some [1, 2, 0, 1, 1, 0, 0xFF, 0xFF, 0xFF] := by decide
/-- R16, R181: a CONFIG READ whose snapshot is a QUERY's is refused with the status after the test number. -/
theorem test_config_read_mismatch :
    let t := after (exec (.configRead 4 0 1) (reading .query)) ready
    t.ports.con.tx.map (fun e => e.payload.drop 3) = [3 :: ready.cfs.status] := by decide

/-- The line of chapter 11 passes; with no zone it does not. -/
theorem witness_ConfigCommitValidatesFirst :
    (writing.takesNow .con = true ∧ writing.waits = true ∧ writing.cfs.commit = .writing) ∧
    (ready.takesNow .con = true ∧ ready.waits = true ∧ ready.cfs.commit = .idle ∧ ready.rco.mode ≠ .maintenance) ∧
    (let s := inMode .maintenance .atStop ready
     s.takesNow .con = true ∧ s.waits = true ∧ s.cfs.commit = .idle ∧ s.rco.mode = .maintenance ∧ validate s.cfs.tables = none) ∧
    (let s := (inMode .maintenance .atStop ready).withCfs { ready.cfs with tables := Tables.empty }
     s.takesNow .con = true ∧ s.waits = true ∧ s.cfs.commit = .idle ∧ s.rco.mode = .maintenance ∧
       (validate s.cfs.tables).isSome = true) := by decide

theorem witness_ClearTestsTheCondition :
    (ready.takesNow .con = true ∧ ready.waits = true ∧ Attention.brakeLatched ≠ .portDegraded ∧
      ready.attentionCondition .brakeLatched = false) ∧
    ((latched .service ready).takesNow .con = true ∧ (latched .service ready).waits = true ∧
      (latched .service ready).attentionCondition .brakeLatched = true) := by decide
/-- The least byte beyond each coding. -/
theorem witness_UncodedCommandsAreRefused :
    ready.takesNow .con = true ∧ ready.waits = true ∧ 5 ≤ (5 : Byte).toNat ∧ 6 ≤ (6 : Byte).toNat ∧ 2 ≤ (2 : Byte).toNat ∧
      (1 : Byte).toNat < 2 ∧ 3 ≤ (3 : Byte).toNat ∧ 16 ≤ (16 : Byte).toNat ∧ 12 ≤ (12 : Byte).toNat ∧ (0 : Byte).toNat = 0 ∧
      26 < (27 : Byte).toNat := by decide

end Sys2Proof.Tests
end

section
/-! The sample event (R36 to R43): what its two reads make of the channels, what the rest of the event leaves of that, and the proof of
`Obligations.SampleEventTakesBothReads`. -/

namespace Sys2Proof.Machine

/-! ### What persists through an event (R58, R99)

Outside a BRAKE RESET no cause leaves the brake demand record, and outside steps D3 and D4 of a departure no authority begins. -/

/-- Every cause held stays held, and an authority NONE stays NONE. -/
structure Persists (s t : State) : Prop where
  causes : ∀ c, holdsCause s.bks.demand.causes c = true → holdsCause t.bks.demand.causes c = true
  authority : s.rco.authority.state = .none → t.rco.authority.state = .none

theorem Persists.refl (s : State) : Persists s s := ⟨fun _ h => h, fun h => h⟩

theorem Persists.trans {s t u : State} (a : Persists s t) (b : Persists t u) : Persists s u :=
  ⟨fun c h => b.causes c (a.causes c h), fun h => b.authority (a.authority h)⟩

/-- Two operations that persist, the later one first. -/
theorem Persists.after {s t u : State} (b : Persists t u) (a : Persists s t) : Persists s u := a.trans b

theorem Persists.of_eq {s t : State} (hd : t.bks.demand = s.bks.demand) (ha : t.rco.authority = s.rco.authority) : Persists s t :=
  ⟨fun _ h => by rwa [hd], fun h => by rwa [ha]⟩

theorem Persists.foldl {α : Type} {f : State → α → State} (hf : ∀ s x, Persists s (f s x)) (l : List α) (s : State) :
    Persists s (l.foldl f s) := by
  induction l generalizing s with
  | nil => exact .refl s
  | cons x l ih => exact (hf s x).trans (ih _)

/-- A choice between two states, each of which persists. -/
theorem Persists.ite {s a b : State} {c : Prop} [Decidable c] (ha : c → Persists s a) (hb : ¬c → Persists s b) :
    Persists s (if c then a else b) := by
  split
  · exact ha ‹_›
  · exact hb ‹_›

theorem Persists.setAttention (s : State) (i : Attention) : Persists s (s.setAttention i) := .of_eq rfl rfl

theorem Persists.withRco (s : State) (x : Rco) (h : x.authority = s.rco.authority) : Persists s (s.withRco x) := .of_eq rfl h

theorem Persists.withBks (s : State) (x : Bks) (h : x.demand = s.bks.demand) : Persists s (s.withBks x) := .of_eq h rfl

/-! #### Run Coordinator -/

theorem Persists.setAuthority (a : Authority) (s : State) (h : s.rco.authority.state = .none → a.state = .none) :
    Persists s (setAuthority a s) :=
  .ite (fun _ => ⟨fun _ hc => hc, h⟩) fun _ => ⟨fun _ hc => by simpa using hc, fun n => by simpa using h n⟩

theorem Persists.clearAuthority (s : State) : Persists s (clearAuthority s) := .setAuthority _ s fun _ => rfl

theorem Persists.withdrawAuthority (s : State) : Persists s (withdrawAuthority s) :=
  .ite (fun granted => .setAuthority _ s fun none => by simp [granted] at none) fun _ => .refl s

theorem Persists.setRunState (r : RunState) (s : State) : Persists s (setRunState r s) :=
  .ite (fun _ => .withRco s _ rfl) fun _ => .withRco s _ rfl

theorem Persists.startDwell (s : State) : Persists s (startDwell s) := .withRco s _ rfl

theorem Persists.askReleases (s : State) : Persists s (askReleases s) := by
  unfold Machine.askReleases
  split
  · exact .foldl (fun _ _ => .ite (fun _ => .of_eq (by simp) (by simp)) fun _ => .refl _) _ s
  · exact .refl s

theorem Persists.returnTrip (s : State) : Persists s (returnTrip s) := by
  unfold Machine.returnTrip
  repeat' split
  · exact .refl s
  · exact .withRco s _ rfl
  · exact .after (.setAttention ..) (.withRco s _ rfl)

theorem Persists.closeAll (r : CloseReason) (s : State) : Persists s (closeAll r s) := .of_eq (by simp) (by simp)

theorem Persists.withdrawPlatform (w : WithdrawalCause) (s : State) (c : Car) : Persists s (withdrawPlatform w s c) :=
  .of_eq (by simp) (by simp)

theorem Persists.withdrawGiven (w : WithdrawalCause) (s : State) (c : Car) : Persists s (withdrawGiven w s c) :=
  .of_eq (by simp) (by simp)

theorem Persists.beginClosing (s : State) : Persists s (beginClosing s) :=
  .after (.foldl (.withdrawPlatform _) _ _) (.after (.closeAll ..) (.setRunState ..))

theorem Persists.takeTrip (t : Trip) (rest : List Trip) (s : State) : Persists s (takeTrip t rest s) :=
  .after (.beginClosing _) (.withRco s _ rfl)

theorem Persists.takeFrom (q : List Trip) (s : State) : Persists s (takeFrom q s) := by
  induction q with
  | nil => exact .withRco s _ rfl
  | cons t rest ih => exact .ite (fun _ => ih) fun _ => .takeTrip ..

theorem Persists.takeHead (s : State) : Persists s (takeHead s) := .ite (fun _ => .takeFrom ..) fun _ => .refl s

theorem Persists.changeMode (m : LineMode) (c : ModeCause) (l : List Trip) (s : State) : Persists s (changeMode m c l s) :=
  .withRco s _ rfl

theorem Persists.enterStandby (c : ModeCause) (s : State) : Persists s (enterStandby c s) :=
  .after (.foldl (.withdrawPlatform _) _ _) (.after (.closeAll ..) (.after (.withRco _ _ rfl) (.changeMode ..)))

theorem Persists.settleAuthority (afterStop : Bool) (s : State) : Persists s (settleAuthority afterStop s) := by
  cases afterStop with
  | false => exact .withRco s _ rfl
  | true => exact .after (.withRco _ _ rfl) (.clearAuthority s)

theorem Persists.settleWindow (s : State) : Persists s (settleWindow s) := by
  unfold Machine.settleWindow
  split <;> exact .after (.setRunState ..) (.withRco s _ rfl)

theorem Persists.settleTrip (s : State) : Persists s (settleTrip s) := by
  unfold Machine.settleTrip
  cases s.rco.tripInHand with
  | none => exact .withRco s _ rfl
  | some t =>
    dsimp only
    split
    · exact .after (.withRco _ _ rfl) (.withRco s _ rfl)
    · exact .after (.withRco _ _ rfl) (.returnTrip s)

theorem Persists.settleRecovery (afterStop : Bool) (s : State) : Persists s (settleRecovery afterStop s) :=
  .ite (fun _ => .changeMode ..) fun _ => .refl s

theorem Persists.settleEffects (s : State) : Persists s (settleEffects s) :=
  .ite (fun _ => .after (.askReleases _) (.startDwell s)) fun _ => .ite (fun _ => .takeHead s) fun _ => .refl s

theorem Persists.settle (afterStop : Bool) (s : State) : Persists s (settle afterStop s) :=
  .after (.settleEffects _) (.after (.settleRecovery ..) (.after (.settleTrip _) (.after (.settleWindow _) (.settleAuthority ..))))

/-! #### Brake Sequencer -/

theorem Persists.assertSb (s : State) : Persists s (assertSb s) := .ite (fun _ => .refl s) fun _ => .withBks s _ rfl

theorem Persists.setStepTimer (t : Option RunningStep) (s : State) : Persists s (setStepTimer t s) := .withBks s _ rfl

theorem Persists.startStep (w : StepTimer) (n : Nat) (s : State) : Persists s (startStep w n s) := .withBks s _ rfl

theorem Persists.setSlot (x : Slot) (s : State) : Persists s (setSlot x s) := .withBks s _ rfl

theorem Persists.dropEbHold (s : State) : Persists s (dropEbHold s) := .withBks s _ rfl

theorem Persists.completeStop (s : State) : Persists s (completeStop s) := .after (.settle ..) (.withBks s _ rfl)

theorem Persists.awaitDrop (s : State) : Persists s (awaitDrop s) := .ite (fun _ => .startStep ..) fun _ => .completeStop s

theorem Persists.deenergizeEb (s : State) : Persists s (deenergizeEb s) :=
  .ite (fun _ => .ite (fun _ => .after (.awaitDrop _) (.after (.setStepTimer ..) (.dropEbHold s))) fun _ => .dropEbHold s)
    fun _ => .dropEbHold s

theorem Persists.startS2 (s : State) : Persists s (startS2 s) := by
  unfold Machine.startS2
  have begun := Persists.after (.setStepTimer none _) (.setSlot (.stop .s2) s)
  exact .ite (fun _ => .ite (fun _ => .after (.deenergizeEb _) begun) fun _ => .after (.startStep ..) begun) fun _ =>
    .after (.awaitDrop _) begun

theorem Persists.startStop (s : State) : Persists s (startStop s) := by
  unfold Machine.startStop
  have asserted := Persists.after (.assertSb _)
    (.withBks s { s.bks with slot := .stop .s1, faults := [], stepTimer := none } rfl)
  exact .ite (fun _ => .after (.startS2 _) asserted) fun _ => .after (.startStep ..) asserted

theorem Persists.beginStop (s : State) : Persists s (beginStop s) :=
  .after (.startStop _) (.after (.withRco _ _ rfl) (.setRunState ..))

theorem Persists.countAbort (s : State) : Persists s (countAbort s) :=
  .ite (fun _ => .after (.setAttention ..) (.after (.enterStandby ..) (.withRco s _ rfl))) fun _ => .withRco s _ rfl

theorem Persists.abortAtRco (s : State) : Persists s (abortAtRco s) := by
  unfold Machine.abortAtRco
  dsimp only
  refine .ite (fun _ => .after (.settle ..) ?_) fun _ => .after (.setRunState ..) ?_
  all_goals
    exact .after (.countAbort _)
      (.after (.withRco _ _ rfl) (.after (.returnTrip _) (.after (.withRco _ _ rfl) (.clearAuthority s))))

theorem Persists.abortDeparture (c : AbortCause) (s : State) : Persists s (abortDeparture c s) := by
  unfold Machine.abortDeparture
  split
  · exact .after (.abortAtRco _) (.after (.setAttention ..)
      (.after (.withBks _ _ rfl) (.after (.dropEbHold _) (.after (.assertSb _) (.setStepTimer none s)))))
  · exact .refl s

theorem Persists.startCheckFor (l : Level) (s : State) : Persists s (startCheckFor l s) := by
  unfold Machine.startCheckFor
  split
  · exact .withBks s _ rfl
  · exact .withBks s _ rfl
  · exact .refl s

theorem Persists.escalateTo (l : Level) (s : State) : Persists s (escalateTo l s) :=
  .ite (fun _ => .withBks s _ rfl) fun _ => .ite (fun _ => .refl s) fun _ => .startCheckFor ..

theorem Persists.arrest (s : State) : Persists s (arrest s) := by
  unfold Machine.arrest
  cases s.rco.runState with
  | running => exact .ite (fun _ => .beginStop s) fun _ => .after (.withRco _ _ rfl) (.setRunState ..)
  | atStop => exact .ite (fun _ => .refl s) fun _ => .setRunState ..
  | offStop => exact .ite (fun _ => .refl s) fun _ => .setRunState ..
  | closing => exact .ite (fun _ => .refl s) fun _ => .after (.returnTrip _) (.setRunState ..)
  | departing => exact .refl s
  | stopping => exact .refl s
  | arrested => exact .refl s

theorem Persists.reachService (c : AbortCause) (s : State) : Persists s (reachService c s) :=
  .after (.setAttention ..)
    (.after (.abortDeparture ..) (.after (.closeAll ..) (.after (.arrest _) (.after (.withdrawAuthority _) (.assertSb s)))))

theorem Persists.setRailOrder (o : RailOrder) (s : State) : Persists s (setRailOrder o s) := .of_eq (by simp) (by simp)

theorem Persists.latchRise (before : Level) (c : AbortCause) (s : State) : Persists s (latchRise before c s) := by
  unfold Machine.latchRise
  refine .ite (fun _ => .refl s) fun _ => .after (.escalateTo ..) ?_
  have reached := Persists.ite (s := s) (c := before.rank < 2 ∧ 2 ≤ s.bks.demand.latched.rank) (fun _ => .reachService c s)
    fun _ => .refl s
  have dropped := Persists.ite (c := before.rank < 3 ∧ 3 ≤ s.bks.demand.latched.rank)
    (fun _ => .after (.deenergizeEb _) reached) fun _ => reached
  exact .ite (fun _ => .after (.setRailOrder ..) dropped) fun _ => dropped

/-- The demand record is the one set. -/
@[simp] theorem setDemand_demand (d : Demand) (s : State) : (setDemand d s).bks.demand = d := by
  unfold setDemand
  split <;> simp

@[simp] theorem setDemand_rco (d : Demand) (s : State) : (setDemand d s).rco = s.rco := by
  unfold setDemand
  split <;> simp

/-- A demand record set persists where it drops no cause. -/
theorem Persists.setDemand (d : Demand) (s : State)
    (h : ∀ c, holdsCause s.bks.demand.causes c = true → holdsCause d.causes c = true) : Persists s (setDemand d s) :=
  ⟨fun c hc => by simpa using h c hc, fun n => by simpa using n⟩

/-- After a block hands a cause the set holds it and what it held before (R99). -/
theorem holdsCause_addCause (c d : Cause) (l : Level) (es : List CauseEntry) :
    holdsCause (addCause c l es) d = (c == d || holdsCause es d) := by
  induction es with
  | nil => simp [addCause, holdsCause]
  | cons e rest ih =>
    by_cases same : e.cause = c
    · simp [addCause, holdsCause, same]
    · simp only [holdsCause] at ih
      simp [addCause, holdsCause, same, ih, Bool.or_left_comm]

theorem Persists.raiseAs (a : AbortCause) (c : Cause) (l : Level) (s : State) : Persists s (raiseAs a c l s) :=
  .after (.latchRise ..) (.setDemand _ s fun d h => by simp [Demand.add, holdsCause_addCause, h])

theorem Persists.raise (c : Cause) (l : Level) (s : State) : Persists s (raise c l s) := .raiseAs ..

/-- A cause handed is held (R99). -/
theorem holdsCause_raise (c : Cause) (l : Level) (s : State) : holdsCause (raise c l s).bks.demand.causes c = true :=
  (Persists.latchRise ..).causes c (by simp [Demand.add, holdsCause_addCause])

theorem Persists.takeAsked (asked : Level) (s : State) : Persists s (takeAsked asked s) :=
  .ite (fun _ => .after (.raise ..) ⟨fun _ h => h, fun h => h⟩) fun _ => .setDemand _ s fun _ h => h

/-! #### The end of an event: a departure goes no further than step D2 -/

theorem Persists.startD2 (s : State) : Persists s (startD2 s) := by
  unfold Machine.startD2
  have begun := Persists.after (.setStepTimer none _) (.setSlot (.departure .d2) s)
  exact .ite (fun _ => .after (.raise ..) (.after (.setAttention ..) begun)) fun _ =>
    .after (.startStep ..) (.after (.withBks _ _ rfl) begun)

theorem Persists.takeSnapshot (s : State) : Persists s (takeSnapshot s) := .of_eq rfl rfl

theorem Persists.startD1 (s : State) : Persists s (startD1 s) :=
  .after (.ite (fun _ => .startD2 _) fun _ => .refl _)
    (.after (.startStep ..) (.after (.setRailOrder ..) (.after (.takeSnapshot _) (.setSlot _ s))))

theorem Persists.startDeparture (k : Fin 6) (d : Dir) (s : State) : Persists s (startDeparture k d s) :=
  .after (.startD1 _) (.after (.withRco _ _ rfl) (.after (.setRunState ..) (.setAuthority _ s fun h => h)))

theorem Persists.readinessStage (n : Nat) (s : State) : Persists s (readinessStage n s) := by
  induction n generalizing s with
  | zero => exact .refl s
  | succ n ih =>
    unfold Machine.readinessStage
    repeat' split
    · exact .after (ih _) (.after (.startDeparture ..) (.withRco s _ rfl))
    · exact .withRco s _ rfl
    · exact .withRco s _ rfl

theorem Persists.endEvent (s : State) : Persists s (endEvent s) := .readinessStage ..

/-! #### Standstill and arrival -/

theorem Persists.lossAtRco (s : State) : Persists s (lossAtRco s) := by
  unfold Machine.lossAtRco
  repeat' split
  · exact .setRunState ..
  · exact .setRunState ..
  · exact .after (.returnTrip _) (.setRunState ..)
  · exact .refl s
  · exact .refl s

theorem Persists.lossAtBks (s : State) : Persists s (lossAtBks s) := .ite (fun _ => .startCheckFor ..) fun _ => .refl s

theorem Persists.retestArrival (s : State) : Persists s (retestArrival s) := by
  unfold Machine.retestArrival
  repeat' split
  · exact .beginStop s
  · exact .refl s
  · exact .refl s
  · exact .refl s

/-! ### What the rest of a sample event leaves of its reads (R36) -/

/-- The parts of a measurement record that steps 1 to 4 settle are the same: the channels but for their range tests, the sample timer,
qualification and the supervised values. -/
structure Msu.SameReads (m n : Msu) : Prop where
  ch1 : ∃ b, n.ch1 = { m.ch1 with inRange := b }
  ch2 : ∃ b, n.ch2 = { m.ch2 with inRange := b }
  sampleTimer : n.sampleTimer = m.sampleTimer
  qualified : n.qualified = m.qualified
  vMeas : n.vMeas = m.vMeas
  motion : n.motion = m.motion
  pSup : n.pSup = m.pSup

theorem Msu.SameReads.refl (m : Msu) : m.SameReads m := ⟨⟨_, rfl⟩, ⟨_, rfl⟩, rfl, rfl, rfl, rfl, rfl⟩

theorem Msu.SameReads.trans {l m n : Msu} (a : l.SameReads m) (b : m.SameReads n) : l.SameReads n where
  ch1 := by
    obtain ⟨_, ha⟩ := a.ch1
    obtain ⟨y, hb⟩ := b.ch1
    exact ⟨y, by rw [hb, ha]⟩
  ch2 := by
    obtain ⟨_, ha⟩ := a.ch2
    obtain ⟨y, hb⟩ := b.ch2
    exact ⟨y, by rw [hb, ha]⟩
  sampleTimer := b.sampleTimer.trans a.sampleTimer
  qualified := b.qualified.trans a.qualified
  vMeas := b.vMeas.trans a.vMeas
  motion := b.motion.trans a.motion
  pSup := b.pSup.trans a.pSup

/-- What a part of the sample event after its reads leaves of them, of the other blocks, of the attention items and of the causes. -/
structure KeepsReads (s t : State) : Prop where
  msu : s.msu.SameReads t.msu
  cfs : t.cfs = s.cfs
  load : t.adu.load = s.adu.load
  pc5 : t.pc5 = s.pc5
  attention : ∀ i, s.attention i = true → t.attention i = true
  persists : Persists s t

theorem KeepsReads.refl (s : State) : KeepsReads s s := ⟨.refl _, rfl, rfl, rfl, fun _ h => h, .refl s⟩

theorem KeepsReads.trans {s t u : State} (a : KeepsReads s t) (b : KeepsReads t u) : KeepsReads s u :=
  ⟨a.msu.trans b.msu, b.cfs.trans a.cfs, b.load.trans a.load, b.pc5.trans a.pc5, fun i h => b.attention i (a.attention i h),
    a.persists.trans b.persists⟩

theorem KeepsReads.of_calm {s t : State} (c : Calm s t) (p : Persists s t) : KeepsReads s t :=
  ⟨c.msu ▸ .refl _, c.cfs, c.load, c.pc5, c.attention, p⟩

theorem KeepsReads.withMsu (s : State) (m : Msu) (h : s.msu.SameReads m) : KeepsReads s (s.withMsu m) :=
  ⟨h, rfl, rfl, rfl, fun _ a => a, .of_eq rfl rfl⟩

theorem KeepsReads.ite {s a b : State} {c : Prop} [Decidable c] (ha : c → KeepsReads s a) (hb : ¬c → KeepsReads s b) :
    KeepsReads s (if c then a else b) := by
  split
  · exact ha ‹_›
  · exact hb ‹_›

/-- An attention item and a cause: what a check does at the onset of its condition. -/
theorem KeepsReads.raise_setAttention (s : State) (i : Attention) (c : Cause) (l : Level) :
    KeepsReads s (raise c l (s.setAttention i)) :=
  .of_calm (.after (.raise ..) (.setAttention ..)) (.after (.raise ..) (.setAttention ..))

/-- The range test changes the result of the latest test alone (R47). -/
theorem Channel.testRange_eq (c : Channel) (l : LineConsts) (good : Bool) :
    ∃ b, c.testRange l good = { c with inRange := b } := by
  unfold Channel.testRange
  split
  · exact ⟨_, rfl⟩
  · exact ⟨c.inRange, rfl⟩

theorem KeepsReads.checkRange (good1 good2 : Bool) (s : State) : KeepsReads s (checkRange good1 good2 s) := by
  unfold Machine.checkRange
  have tested := KeepsReads.withMsu s
    { s.msu with
      ch1 := s.msu.ch1.testRange s.line good1
      ch2 := s.msu.ch2.testRange s.line good2
      outOfRange := rangeFlag s.msu.outOfRange good1 good2 (s.msu.ch1.testRange s.line good1).inRange
        (s.msu.ch2.testRange s.line good2).inRange }
    ⟨Channel.testRange_eq .., Channel.testRange_eq .., rfl, rfl, rfl, rfl, rfl⟩
  exact .ite (fun _ => tested.trans (.raise_setAttention ..)) fun _ => tested

theorem KeepsReads.checkPositions (s : State) : KeepsReads s (checkPositions s) := by
  unfold Machine.checkPositions
  have flagged := KeepsReads.withMsu s { s.msu with positionDisagree := s.positionsApart } { Msu.SameReads.refl s.msu with }
  exact .ite (fun _ => .ite (fun _ => flagged.trans (.raise_setAttention ..)) fun _ => flagged) fun _ => .refl s

theorem KeepsReads.checkSpeeds (recomputed : Bool) (s : State) : KeepsReads s (checkSpeeds recomputed s) := by
  have counted (n : Nat) := KeepsReads.withMsu s { s.msu with speedDisagree := n } { Msu.SameReads.refl s.msu with }
  exact .ite
    (fun _ => .ite (fun _ => .ite (fun _ => (counted _).trans (.raise_setAttention ..)) fun _ => counted _) fun _ => counted 0)
    fun _ => .refl s

theorem KeepsReads.loseStandstill (s : State) : KeepsReads s (loseStandstill s) :=
  (KeepsReads.withMsu s { s.msu with standstill := false } { Msu.SameReads.refl s.msu with }).trans
    (.of_calm (.after (Calm.foldl (.withdrawGiven _) _ _) (.after (.lossAtBks _) (.lossAtRco _)))
      (.after (.foldl (.withdrawGiven _) _ _) (.after (.lossAtBks _) (.lossAtRco _))))

theorem KeepsReads.settleStandstill (s : State) : KeepsReads s (settleStandstill s) := by
  have timed (t : Timer) := KeepsReads.withMsu s { s.msu with standstillTimer := t } { Msu.SameReads.refl s.msu with }
  exact .ite (fun _ => .ite (fun _ => timed _) fun _ => .refl s) fun _ =>
    .ite (fun _ => (timed none).trans (.loseStandstill _)) fun _ => timed none

theorem KeepsReads.superviseLine (s : State) : KeepsReads s (superviseLine s) := by
  unfold Machine.superviseLine
  have ceiling (t : State) : KeepsReads t (takeCeiling t) :=
    .ite (fun _ => .of_calm (.withRco t _ rfl) ⟨fun _ h => h, fun h => h⟩) fun _ => .refl t
  have asked (l : Level) (t : State) : KeepsReads t (takeAsked l t) :=
    .of_calm (.ite (fun _ => .after (.raise ..) (.withBks t _ rfl rfl)) fun _ => .setDemand _ t) (.takeAsked l t)
  have computed := (KeepsReads.of_calm (.withSsv s s.supervised) (.of_eq rfl rfl)).trans (ceiling _)
  have taken := computed.trans (asked (takeCeiling (s.withSsv s.supervised)).ssv.asked _)
  exact .ite (fun _ => taken.trans (.of_calm (.raise ..) (.raise ..))) fun _ => taken

/-- The sample event once its reads are taken and its values settled: the checks, standstill, arrival, supervision and the event's end. -/
theorem KeepsReads.afterValues (r1 r2 : SensorRead) (s : State) :
    KeepsReads (settleValues (takeReads r1 r2 s)) (Machine.endEvent (Machine.superviseLine (Machine.retestArrival (measure r1 r2 s)))) :=
  (((((KeepsReads.checkRange ..).trans (.checkPositions _)).trans (.checkSpeeds ..)).trans (.settleStandstill _)).trans
    (.of_calm (.retestArrival _) (.retestArrival _))).trans
    ((KeepsReads.superviseLine _).trans (.of_calm (.endEvent _) (.endEvent _)))

/-! ### A channel at a sample event (R38 to R41) -/

/-- A lawful channel's ring is within its capacity, and empty where the channel is FAILED or has no position; its counts are within
theirs. -/
theorem Channel.lawful_bounds {c : Channel} (h : c.lawful = true) :
    c.ring.length ≤ ringCapacity ∧ (c.status = .failed → c.ring = []) ∧ (c.position = none → c.ring = []) ∧ c.badRun ≤ 3 ∧
      c.badTotal ≤ 65535 := by
  simp only [Channel.lawful, Bool.and_eq_true, Bool.or_eq_true, beq_iff_eq, decide_eq_true_eq] at h
  obtain ⟨⟨⟨byStatus, placed⟩, run⟩, total⟩ := h
  refine ⟨?_, fun failed => by simpa [failed] using byStatus, fun unplaced => by simpa [unplaced] using placed, run, total⟩
  unfold ringCapacity
  cases status : c.status with
  | empty =>
    have empty : c.ring = [] := by simpa [status] using byStatus
    simp [empty]
  | filling =>
    have filling : 0 < c.ring.length ∧ c.ring.length < 9 := by simpa [status] using byStatus
    omega
  | good =>
    have full : c.ring.length = 9 := by simpa [status] using byStatus
    omega
  | failed =>
    have empty : c.ring = [] := by simpa [status] using byStatus
    simp [empty]

/-- A push keeps the newest nine entries (R39). -/
theorem pushRing_eq_drop (e : RingEntry) {ring : List RingEntry} (h : ring.length ≤ ringCapacity) :
    pushRing e ring = (ring ++ [e]).drop (ring.length - 8) := by
  unfold ringCapacity at h
  unfold pushRing ringCapacity
  split
  · rw [show ring.length - 8 = 0 by omega, List.drop_zero]
  · rw [show ring.length - 8 = 1 by omega, List.drop_append_of_le_length (by omega)]

theorem pushRing_getLast? (e : RingEntry) (ring : List RingEntry) : (pushRing e ring).getLast? = some e := by
  unfold pushRing
  split <;> simp

/-- A count within its cap that stops there is the least of the cap and the next number. -/
theorem satInc_eq_min {cap n : Nat} (h : n ≤ cap) : satInc cap n = min cap (n + 1) := by
  unfold satInc
  split <;> omega

/-- Speeds are settled in a channel's speed and direction alone (R41). -/
theorem Channel.settleSpeed_eq (c : Channel) : ∃ v d, c.settleSpeed = { c with speed := v, dir := d } := by
  unfold Channel.settleSpeed
  split
  · exact ⟨_, _, rfl⟩
  · exact ⟨c.speed, c.dir, rfl⟩

/-- Where the ring does not span 80 ms between read entries speed and direction are held (R41). -/
theorem Channel.settleSpeed_of_spans_none {c : Channel} (h : c.spans = none) : c.settleSpeed = c := by
  simp [Channel.settleSpeed, h]

/-- A full ring whose newest entry is a read one spans from its oldest entry, where that is a read one too (R41). -/
theorem Channel.spans_of_newest_read {c : Channel} {o : RingEntry} {p : Int} (ho : c.ring.head? = some o)
    (hn : c.ring.getLast? = some { position := p, held := false }) :
    c.spans = if c.ring.length = 9 ∧ o.held = false then some (o.position, p) else none := by
  simp [Channel.spans, ho, hn, ringCapacity]

theorem Channel.spans_of_newest_held {c : Channel} {p : Int} (hn : c.ring.getLast? = some { position := p, held := true }) :
    c.spans = none := by
  unfold Channel.spans
  split <;> simp_all

theorem Channel.spans_of_ring_nil {c : Channel} (h : c.ring = []) : c.spans = none := by
  simp [Channel.spans, h]

/-- The position that a good read gives, with the conversion written out (R38). -/
theorem convert_eq (zeroCount scale : Nat) (offset : Int) (r : SensorRead) (h : scale ≠ 0) :
    convert zeroCount scale offset (countOf r) =
      (let above : Int := (((r.bits.toNat / 4 : Nat) : Int) - zeroCount) % 16777216
       let d : Int := if 16515072 ≤ above then above - 16777216 else above
       d * 1000 / scale + offset) := by
  unfold convert scaled
  rw [if_neg h]
  rfl

/-- A good read (R38, R39, R41). -/
theorem Channel.takeGood_tookGood {c : Channel} {zeroCount scale : Nat} (r : SensorRead) (hlen : c.ring.length ≤ ringCapacity)
    (hscale : scale ≠ 0) :
    c.tookGood (c.takeGood (convert zeroCount scale c.offset (countOf r))).settleSpeed zeroCount scale r := by
  have position := convert_eq zeroCount scale c.offset r hscale
  generalize convert zeroCount scale c.offset (countOf r) = p at position
  have newest : (c.takeGood p).ring.getLast? = some { position := p, held := false } := pushRing_getLast? ..
  have pushed : (c.takeGood p).ring = (c.ring ++ [RingEntry.mk p false]).drop (c.ring.length - 8) := pushRing_eq_drop _ hlen
  obtain ⟨v, d, settled⟩ := (c.takeGood p).settleSpeed_eq
  have sameRing : (c.takeGood p).settleSpeed.ring = (c.takeGood p).ring := by rw [settled]
  obtain ⟨o, oldest⟩ : ∃ o, (c.takeGood p).ring.head? = some o := by
    rw [← Option.isSome_iff_exists, List.isSome_head?]
    simp [← List.getLast?_isSome, newest]
  unfold Channel.tookGood
  simp only [← position, sameRing, oldest]
  refine ⟨by rw [settled]; rfl, by rw [settled]; rfl, by rw [settled]; rfl, by rw [settled]; rfl, pushed, by rw [settled]; rfl, ?_⟩
  have spans := Channel.spans_of_newest_read oldest newest
  split
  · rename_i full
    rw [if_pos full] at spans
    simp only [Channel.settleSpeed, spans]
    exact ⟨rfl, rfl⟩
  · rename_i short
    rw [if_neg short] at spans
    rw [Channel.settleSpeed_of_spans_none spans]
    exact ⟨rfl, rfl⟩

/-- After a bad read no speed is recomputed: the ring is empty or its newest entry is a held one (R40, R41). -/
theorem Channel.takeBad_spans_none {c : Channel} (h : c.lawful = true) : c.takeBad.spans = none := by
  obtain ⟨_, failed, unplaced, _, _⟩ := Channel.lawful_bounds h
  unfold Channel.takeBad
  dsimp only
  split
  · rename_i status
    exact Channel.spans_of_ring_nil (failed status)
  · split
    · exact Channel.spans_of_ring_nil rfl
    · unfold Channel.hold
      split
      · exact Channel.spans_of_ring_nil ‹_›
      · exact Channel.spans_of_ring_nil (unplaced ‹_›)
      · exact Channel.spans_of_newest_held (pushRing_getLast? ..)

/-- A bad read (R40). -/
theorem Channel.takeBad_tookBad {c : Channel} (h : c.lawful = true) : c.tookBad c.takeBad := by
  obtain ⟨length, failed, unplaced, run, total⟩ := Channel.lawful_bounds h
  unfold Channel.takeBad
  dsimp only
  rw [satInc_eq_min run, satInc_eq_min total]
  unfold Channel.tookBad
  split
  · rename_i status
    simp [status, failed status]
  · rename_i status
    split
    · rename_i third
      simp [third]
    · rename_i early
      rcases position : c.position with _ | p
      · simp [Channel.hold, unplaced position, early]
      · rcases ring : c.ring with _ | ⟨e, rest⟩
        · simp [Channel.hold, early]
        · have pushed := pushRing_eq_drop (RingEntry.mk p true) length
          simp only [ring] at pushed
          simp [Channel.hold, early, pushed, ringStatus, ringCapacity]

/-- A channel after the read of a sample event and the settling of its speed, whatever its range test says (R38 to R41). -/
theorem Channel.takeRead_took {c c' : Channel} {zeroCount scale : Nat} {r : SensorRead} (h : c.lawful = true) (hscale : scale ≠ 0)
    (hc : ∃ b, c' = { (c.takeRead zeroCount scale r).settleSpeed with inRange := b }) :
    if goodRead r then c.tookGood c' zeroCount scale r else c.tookBad c' := by
  obtain ⟨b, rfl⟩ := hc
  unfold Channel.takeRead
  split
  · exact Channel.takeGood_tookGood r (Channel.lawful_bounds h).1 hscale
  · rw [Channel.settleSpeed_of_spans_none (Channel.takeBad_spans_none h)]
    exact Channel.takeBad_tookBad h

/-- The settling of the speed and the range test leave the status that the read gave (R39, R40). -/
theorem Channel.status_settleSpeed {c c' : Channel} (hc : ∃ b, c' = { c.settleSpeed with inRange := b }) : c'.status = c.status := by
  obtain ⟨b, rfl⟩ := hc
  obtain ⟨v, d, settled⟩ := c.settleSpeed_eq
  rw [settled]

/-! ### Qualification and the supervised values (R42, R43) -/

/-- The measurement record once both channels have taken their reads and settled their speeds, qualification with them (R38 to R42). -/
def Msu.withReads (m : Msu) (l : LineConsts) (r1 r2 : SensorRead) : Msu :=
  let read : Msu :=
    { m with
      ch1 := (m.ch1.takeRead l.zero1 l.scale1 r1).settleSpeed
      ch2 := (m.ch2.takeRead l.zero2 l.scale2 r2).settleSpeed }
  { read with qualified := read.bothGood }

@[simp] theorem Msu.supervise_ch1 (m : Msu) (a : Authority) : (m.supervise a).ch1 = m.ch1 := by
  unfold Msu.supervise
  split <;> rfl

@[simp] theorem Msu.supervise_ch2 (m : Msu) (a : Authority) : (m.supervise a).ch2 = m.ch2 := by
  unfold Msu.supervise
  split <;> rfl

@[simp] theorem Msu.supervise_qualified (m : Msu) (a : Authority) : (m.supervise a).qualified = m.qualified := by
  unfold Msu.supervise
  split <;> rfl

@[simp] theorem Msu.supervise_sampleTimer (m : Msu) (a : Authority) : (m.supervise a).sampleTimer = m.sampleTimer := by
  unfold Msu.supervise
  split <;> rfl

theorem Msu.supervise_of_positions {m : Msu} {p1 p2 : Int} (a : Authority) (h1 : m.ch1.position = some p1)
    (h2 : m.ch2.position = some p2) :
    m.supervise a =
      { m with
        vMeas := max m.ch1.speed m.ch2.speed
        motion := motionOf m
        pSup := some (chosenPosition p1 p2 (choosing (motionOf m) a)) } := by
  simp only [Msu.supervise, h1, h2]

section
variable {m n : Msu} {a : Authority} (h : (m.supervise a).SameReads n)
include h

theorem Msu.SameReads.ch1_of_supervise : ∃ b, n.ch1 = { m.ch1 with inRange := b } := by
  simpa using h.ch1

theorem Msu.SameReads.ch2_of_supervise : ∃ b, n.ch2 = { m.ch2 with inRange := b } := by
  simpa using h.ch2

/-- The supervised speed and the direction of motion (R43). -/
theorem Msu.SameReads.speeds (h1 : n.ch1.position.isSome = true) (h2 : n.ch2.position.isSome = true) :
    n.vMeas = max n.ch1.speed n.ch2.speed ∧ n.motion = if n.ch1.speed < n.ch2.speed then n.ch2.dir else n.ch1.dir := by
  obtain ⟨_, c1⟩ := h.ch1_of_supervise
  obtain ⟨_, c2⟩ := h.ch2_of_supervise
  obtain ⟨p1, h1⟩ := Option.isSome_iff_exists.mp h1
  obtain ⟨p2, h2⟩ := Option.isSome_iff_exists.mp h2
  rw [c1] at h1
  rw [c2] at h2
  rw [h.vMeas, h.motion, Msu.supervise_of_positions a h1 h2, c1, c2]
  exact ⟨rfl, rfl⟩

/-- P_sup, by the direction of motion, and at rest with no authority the middle of the positions (R43). -/
theorem Msu.SameReads.position {p1 p2 : Int} (h1 : n.ch1.position = some p1) (h2 : n.ch2.position = some p2) :
    (n.motion = some .up → n.pSup = some (max p1 p2)) ∧ (n.motion = some .down → n.pSup = some (min p1 p2)) ∧
      (n.motion = none → a.state = .none → n.pSup = some ((p1 + p2) / 2)) := by
  obtain ⟨_, c1⟩ := h.ch1_of_supervise
  obtain ⟨_, c2⟩ := h.ch2_of_supervise
  rw [c1] at h1
  rw [c2] at h2
  have motion := h.motion
  have pSup := h.pSup
  rw [Msu.supervise_of_positions a h1 h2] at motion pSup
  simp only at motion pSup
  rw [pSup, ← motion]
  refine ⟨fun up => ?_, fun down => ?_, fun rest unauthorised => ?_⟩
  · rw [up]; rfl
  · rw [down]; rfl
  · simp only [rest, choosing, unauthorised, if_true, chosenPosition]

end

/-! ### The sample event -/

/-- The state with both channels read, before the failure of one is handed on. -/
def State.withChannelsRead (s : State) (r1 r2 : SensorRead) : State :=
  s.withMsu
    { s.msu with
      ch1 := s.msu.ch1.takeRead s.line.zero1 s.line.scale1 r1
      ch2 := s.msu.ch2.takeRead s.line.zero2 s.line.scale2 r2 }

theorem takeReads_calm (r1 r2 : SensorRead) (s : State) : Calm (s.withChannelsRead r1 r2) (takeReads r1 r2 s) :=
  .ite (fun _ => .after (.raise ..) (.setAttention ..)) fun _ => .refl _

theorem takeReads_persists (r1 r2 : SensorRead) (s : State) : Persists s (takeReads r1 r2 s) :=
  .after (.ite (fun _ => .after (.raise ..) (.setAttention ..)) fun _ => .refl _) (t := s.withChannelsRead r1 r2) (.of_eq rfl rfl)

/-- A channel that has just failed sets SENSOR_FAILED and adds MEASUREMENT (R40). -/
theorem takeReads_of_failed {r1 r2 : SensorRead} {s : State}
    (h : ((s.withChannelsRead r1 r2).msu.ch1.status = .failed ∧ s.msu.ch1.status ≠ .failed) ∨
      ((s.withChannelsRead r1 r2).msu.ch2.status = .failed ∧ s.msu.ch2.status ≠ .failed)) :
    (takeReads r1 r2 s).attention .sensorFailed = true ∧
      holdsCause (takeReads r1 r2 s).bks.demand.causes .measurement = true := by
  have failed : takeReads r1 r2 s = raise .measurement .emergency ((s.withChannelsRead r1 r2).setAttention .sensorFailed) :=
    if_pos h
  rw [failed]
  exact ⟨(Calm.raise ..).attention _ (State.attention_setAttention_same ..), holdsCause_raise ..⟩

theorem settleValues_msu (r1 r2 : SensorRead) (s : State) :
    (settleValues (takeReads r1 r2 s)).msu = (s.msu.withReads s.line r1 r2).supervise (takeReads r1 r2 s).rco.authority := by
  unfold settleValues
  rw [(takeReads_calm r1 r2 s).msu]
  rfl

/-- The sample timer restarts at the start of the event (R36). -/
def State.restartSample (s : State) : State := s.withMsu { s.msu with sampleTimer := startMs Config.samplePeriod }

theorem exec_sampleEvent {r1 r2 : SensorRead} {s : State} (operating : s.loading = false)
    (timed : s.msu.sampleTimer.isSome = true) :
    exec (.sampleEvent r1 r2) s = .next (endEvent (superviseLine (retestArrival (measure r1 r2 s.restartSample)))) := by
  change Host.Outcome.next (whileOperating s fun s => endEvent (sampleEvent r1 r2 s)) = _
  rw [whileOperating_of_operating _ (by simp [State.operating, operating]), sampleEvent, if_pos timed]
  rfl

/-- Settles O16: the reads are taken and their values settled first, and the rest of the event keeps them. -/
theorem sampleEventTakesBothReads : Obligations.SampleEventTakesBothReads := by
  intro s r1 r2 operating timed lawful scale1 scale2
  refine ⟨_, exec_sampleEvent operating timed, ?_⟩
  have keeps := KeepsReads.afterValues r1 r2 s.restartSample
  generalize endEvent _ = t at keeps ⊢
  have calm := takeReads_calm r1 r2 s.restartSample
  have reads := keeps.msu
  rw [settleValues_msu] at reads
  have ch1 := reads.ch1_of_supervise
  have ch2 := reads.ch2_of_supervise
  have status1 := Channel.status_settleSpeed ch1
  have status2 := Channel.status_settleSpeed ch2
  simp only [Msu.lawful, Bool.and_eq_true] at lawful
  obtain ⟨⟨⟨⟨⟨lawful1, lawful2⟩, _⟩, _⟩, _⟩, _⟩ := lawful
  have qualified : t.msu.qualified = true ↔ t.msu.ch1.status = .good ∧ t.msu.ch2.status = .good := by
    obtain ⟨_, c1⟩ := ch1
    obtain ⟨_, c2⟩ := ch2
    rw [reads.qualified, Msu.supervise_qualified, c1, c2]
    simp [Msu.withReads, Msu.bothGood]
  refine ⟨reads.sampleTimer.trans (Msu.supervise_sampleTimer ..), keeps.cfs.trans calm.cfs, keeps.load.trans calm.load,
    keeps.pc5.trans calm.pc5, Channel.takeRead_took lawful1 scale1 ch1, Channel.takeRead_took lawful2 scale2 ch2, qualified,
    reads.speeds, fun p1 p2 h1 h2 => ?_, fun failed => ?_⟩
  · obtain ⟨up, down, rest⟩ := reads.position h1 h2
    exact ⟨up, down, fun still none => rest still ((takeReads_persists ..).authority none)⟩
  · rw [status1, status2] at failed
    obtain ⟨item, cause⟩ := takeReads_of_failed (s := s.restartSample) failed
    exact ⟨keeps.attention _ item, keeps.persists.causes _ cause⟩

end Sys2Proof.Machine
end

section
/-! Console commands that are decided and answered in one event without a departure (R163, R164, R170), and CANCEL (R65) with the proof
of `Obligations.CancelRemovesOneTarget`. -/

namespace Sys2Proof.Machine

/-- A part that takes a request now decides none and holds no notice back (R164). -/
theorem idle_of_takesNow {s : State} {i : PortId} (taken : s.takesNow i = true) : s.answering = none ∧ s.held = [] := by
  simp only [State.takesNow, State.settled, Bool.and_eq_true, beq_iff_eq] at taken
  obtain ⟨⟨⟨_, ⟨answering, held⟩, _⟩, _⟩, _⟩ := taken
  exact ⟨answering, held⟩

/-- A command taken now, whose decision hands over no notice and after which nothing departs, is concluded as it was decided. -/
theorem command_concluded {s t : State} {c : Command} {code : ResultCode} {detail : List Byte} (taken : s.takesNow .con = true)
    (decided : decideCommand c (s.withAnswering (some .con)) = { state := t.withAnswering (some .con), code := code, detail := detail })
    (answering : t.answering = none) (held : t.held = []) (waits : t.waits = true) :
    (whileOperating s fun s => offerRequest .con (.command c) s) = t.concluded code c.kind detail := by
  have rested : (endEvent (t.withAnswering (some .con))).withAnswering none = t.rested := by
    rw [endEvent_of_waits (s := t.withAnswering (some .con)) waits, ← answering]
    rfl
  have none_held : t.rested.held = [] := held
  rw [whileOperating_of_operating _ (operating_of_takesNow taken), offerRequest_of_takesNow _ taken]
  simp only [answered, decideRequest, decided, rested, Reply.form]
  simp only [releaseNotices, placeReply, State.withPort, State.withPorts_held, none_held, List.foldl_nil]
  rw [← none_held]
  rfl

/-- A command refused, with no notice handed over and the state as it was, is concluded so. -/
theorem command_refused {s : State} {c : Command} {code : ResultCode} {detail : List Byte} (taken : s.takesNow .con = true)
    (waits : s.waits = true)
    (decided : decideCommand c (s.withAnswering (some .con)) = { state := s.withAnswering (some .con), code := code, detail := detail }) :
    (whileOperating s fun s => offerRequest .con (.command c) s) = s.concluded code c.kind detail :=
  have ⟨answering, held⟩ := idle_of_takesNow taken
  command_concluded taken decided answering held waits

/-! ### The tests of CANCEL -/

@[simp] theorem stopOfCode_ofNat (k : Fin 6) : stopOfCode (BitVec.ofNat 8 k.val) = some k := by
  have small : k.val % 256 = k.val := Nat.mod_eq_of_lt (by omega)
  simp [stopOfCode, small]

theorem stopOfCode_of_le {b : Byte} (h : 6 ≤ b.toNat) : stopOfCode b = none := dif_neg (by omega)

theorem LineMode.isPublic_iff (m : LineMode) : m.isPublic = true ↔ m = .service ∨ m = .recovery := by
  cases m <;> simp [LineMode.isPublic]

theorem queuedFor_isNone_iff (k : Fin 6) (q : List Trip) : (queuedFor k q).isNone = true ↔ ∀ t ∈ q, t.target ≠ k := by
  simp [queuedFor]

theorem withoutTarget_eq (k : Fin 6) (q : List Trip) : withoutTarget k q = q.filter fun t => decide (t.target ≠ k) := by
  refine List.filter_congr fun t _ => ?_
  rw [Bool.eq_iff_iff, bne_iff_ne, decide_eq_true_iff]

theorem exec_cancel (b : Byte) (s : State) :
    exec (.cancel b) s = .next (whileOperating s fun s => offerRequest .con (.command (.cancel b)) s) := rfl

/-- The three tests of R65 in their order, in the terms of the statements. -/
theorem decideCancel_ofNat (k : Fin 6) (s : State) :
    decideCancel (BitVec.ofNat 8 k.val) s =
      if s.rco.mode ≠ .service ∧ s.rco.mode ≠ .recovery then refuseBare s .refusedMode
      else if (s.stopEntry k).present = false then refuse s .refusedRange 2 []
      else if ∀ q ∈ s.rco.queue, q.target ≠ k then refuse s .refusedState 3 []
      else accept (s.withRco { s.rco with queue := s.rco.queue.filter fun q => decide (q.target ≠ k) }) := by
  have notPublic : (!s.rco.mode.isPublic) = true ↔ s.rco.mode ≠ .service ∧ s.rco.mode ≠ .recovery := by
    rw [Bool.not_eq_true', ← Bool.not_eq_true, LineMode.isPublic_iff, not_or]
  simp only [decideCancel, stopOfCode_ofNat, notPublic, Bool.not_eq_true', queuedFor_isNone_iff, withoutTarget_eq]

/-- Settles O50, test by test: each refusal leaves the state, and a removal touches the queue alone, on which no departure turns. -/
theorem cancelRemovesOneTarget : Obligations.CancelRemovesOneTarget := by
  intro s taken waits
  simp only [exec_cancel, Host.Outcome.next.injEq]
  refine ⟨fun k => ?_, fun b beyond => ⟨[0, 1], ?_⟩⟩
  · have decided := decideCancel_ofNat k (s.withAnswering (some .con))
    split
    next mode => exact command_refused taken waits (decided.trans (if_pos mode))
    next mode =>
      replace decided := decided.trans (if_neg mode)
      split
      next absent => exact command_refused taken waits (decided.trans (if_pos absent))
      next present =>
        replace decided := decided.trans (if_neg present)
        split
        next unqueued => exact command_refused taken waits (decided.trans (if_pos unqueued))
        next queued =>
          have ⟨answering, held⟩ := idle_of_takesNow taken
          exact command_concluded taken (decided.trans (if_neg queued)) answering held waits
  · refine command_refused taken waits ?_
    simp only [decideCommand, decideCancel, stopOfCode_of_le beyond]
    rfl

end Sys2Proof.Machine
end

section
/-! What a step can do, said once for every law: a step is a chain of the events of the blocks and of the decisions of requests, so that
what each of them keeps every step keeps. -/

namespace Sys2Proof.Machine

/-! ### The blocks of the part, the ports apart -/

/-- The blocks CFS, MSU, RCO, SSV, BKS, DOU and ADU are the same. -/
structure SameBlocks (s t : State) : Prop where
  cfs : t.cfs = s.cfs
  msu : t.msu = s.msu
  rco : t.rco = s.rco
  ssv : t.ssv = s.ssv
  bks : t.bks = s.bks
  dou : t.dou = s.dou
  adu : t.adu = s.adu

theorem SameBlocks.refl (s : State) : SameBlocks s s := ⟨rfl, rfl, rfl, rfl, rfl, rfl, rfl⟩

theorem SameBlocks.trans {s t u : State} (a : SameBlocks s t) (b : SameBlocks t u) : SameBlocks s u :=
  ⟨b.cfs.trans a.cfs, b.msu.trans a.msu, b.rco.trans a.rco, b.ssv.trans a.ssv, b.bks.trans a.bks, b.dou.trans a.dou,
    b.adu.trans a.adu⟩

theorem SameBlocks.withPort (s : State) (i : PortId) (p : Port) : SameBlocks s (s.withPort i p) := ⟨rfl, rfl, rfl, rfl, rfl, rfl, rfl⟩

theorem SameBlocks.offerNotice (s : State) (n : Notice) : SameBlocks s (offerNotice s n) := .withPort ..

theorem SameBlocks.handNotice (s : State) (n : Notice) : SameBlocks s (handNotice s n) := by
  unfold Machine.handNotice
  split
  · exact ⟨rfl, rfl, rfl, rfl, rfl, rfl, rfl⟩
  · exact .offerNotice s n

theorem SameBlocks.foldl {α : Type} {f : State → α → State} (hf : ∀ s x, SameBlocks s (f s x)) (l : List α) (s : State) :
    SameBlocks s (l.foldl f s) := by
  induction l generalizing s with
  | nil => exact .refl s
  | cons x l ih => exact (hf s x).trans (ih _)

theorem SameBlocks.releaseNotices (s : State) : SameBlocks s (releaseNotices s) :=
  .trans (t := s.withHeld []) ⟨rfl, rfl, rfl, rfl, rfl, rfl, rfl⟩ (.foldl .offerNotice _ _)

theorem SameBlocks.placeOrder (i : PortId) (s : State) : SameBlocks s (placeOrder i s) := by
  unfold Machine.placeOrder
  dsimp only
  repeat' split
  · exact .withPort ..
  · exact .refl s
  · exact .refl s

theorem SameBlocks.placePending (i : PortId) (s : State) : SameBlocks s (placePending i s) :=
  (SameBlocks.placeOrder i s).trans (.withPort ..)

theorem SameBlocks.dropBadCrc (i : PortId) (s : State) : SameBlocks s (dropBadCrc i s) := by
  unfold Machine.dropBadCrc
  dsimp only
  split <;> exact ⟨rfl, rfl, rfl, rfl, rfl, rfl, rfl⟩

theorem SameBlocks.clearEffect (i : Attention) (s : State) : SameBlocks s (clearEffect i s) := by
  unfold Machine.clearEffect
  split <;> exact ⟨rfl, rfl, rfl, rfl, rfl, rfl, rfl⟩

/-! ### The tests of MODE (R24, R25) -/

/-- The tests of a MODE request change the Configuration Store's indications of a validation alone. -/
theorem testConds_state (conds : List ModeCond) (s : State) :
    (testConds conds s).1 = s ∨ (testConds conds s).1 = validateWorking s := by
  induction conds generalizing s with
  | nil => exact .inl rfl
  | cons c rest ih =>
    have prepared : c.prepare s = s ∨ c.prepare s = validateWorking s := by cases c <;> simp [ModeCond.prepare]
    simp only [testConds]
    split
    · rcases prepared with h | h <;> rw [h]
      · exact ih s
      · rcases ih (validateWorking s) with same | again
        · exact .inr same
        · exact .inr again
    · exact prepared

/-! ### Laws that an operation keeps -/

/-- A law of the part that holds before an operation holds after it. -/
structure Keeps (P : State → Prop) (s t : State) : Prop where
  law : P s → P t

namespace Keeps

variable {P : State → Prop}

theorem refl (s : State) : Keeps P s s := ⟨id⟩

theorem trans {s t u : State} (a : Keeps P s t) (b : Keeps P t u) : Keeps P s u := ⟨fun h => b.law (a.law h)⟩

theorem after {s t u : State} (b : Keeps P t u) (a : Keeps P s t) : Keeps P s u := a.trans b

theorem ite {s a b : State} {c : Prop} [Decidable c] (ha : c → Keeps P s a) (hb : ¬c → Keeps P s b) :
    Keeps P s (if c then a else b) := by
  split
  · exact ha ‹_›
  · exact hb ‹_›

theorem foldl {α : Type} {f : State → α → State} (hf : ∀ s x, Keeps P s (f s x)) (l : List α) (s : State) :
    Keeps P s (l.foldl f s) := by
  induction l generalizing s with
  | nil => exact .refl s
  | cons x l ih => exact (hf s x).trans (ih _)

end Keeps

/-! ### Requests -/

/-- What the decision of every request keeps, block by block: a relation of the state before to the state after. -/
structure RequestRules (R : State → State → Prop) : Prop where
  refl : ∀ s, R s s
  trans : ∀ {s t u}, R s t → R t u → R s u
  driveReport : ∀ r s, R s (takeDriveReport r s)
  carReport : ∀ c door token rail fault s, R s (takeCarReport c door token rail fault s)
  weigh : ∀ c w s, R s (takeWeigh c w s)
  validate : ∀ x g s, R s (decideValidate x g s).1
  passage : ∀ x g s, R s (decidePassage x g s).1
  gateReport : ∀ x g fault s, R s (decideGateReport x g fault s).1
  requestStop : ∀ k o s, R s (requestStop k o s).1
  validation : ∀ s, R s (validateWorking s)
  maintenance : ∀ s, s.rco.mode = .locked ∨ s.rco.mode = .standby → R s (enterMaintenance s)
  standby : ∀ s, s.rco.mode ≠ .standby → R s (enterStandby .console s)
  service : ∀ s, s.rco.mode = .standby → s.rco.runState = .atStop → R s (enterService s)
  cancel : ∀ k s, R s (s.withRco { s.rco with queue := withoutTarget k s.rco.queue })
  holdRunning : ∀ s, s.mayRetarget = true → R s (holdRunning s).1
  holdClosing : ∀ s, s.rco.mode.isPublic = true → s.rco.runState = .closing → R s (holdClosing s)
  jogStart : ∀ k dir s, s.rco.mode = .maintenance → s.rco.runState.atRest = true → s.readiness = none →
    R s (startDeparture k dir (s.withRco { s.rco with jogRun := true }))
  jogHold : ∀ s, R s (s.withRco { s.rco with jogTimer := startMs Config.jogHold })
  stop : ∀ s, R s (raise .console .emergency s)
  brakeReset : ∀ s, s.bks.slot = .idle → R s (takeBrakeReset s)
  evacuate : ∀ c side s, s.msu.standstill = true → s.rco.authority.state = .none → (s.door c).release = .none →
    R s (orderRelease c side .evacuation s)
  evacuateEnd : ∀ c s, (s.door c).kind = some .evacuation → (s.door c).given = true → R s (withdraw c .evacuateEnd s)
  mask : ∀ g s, R s (takeOut g .masked (s.withGate g { s.gate g with masked := true }))
  unmask : ∀ g s, R s (s.withGate g { s.gate g with masked := false })
  tally : ∀ c n s, R s (afterTally c (setTally c n s))
  buffers : ∀ x s, R s (s.withPc5 x)
  write : ∀ id index bytes s, s.cfs.commit ≠ .writing → s.rco.mode = .maintenance → s.rco.runState.atRest = true →
    R s (acceptWrite id index bytes s)
  commit : ∀ s, s.cfs.commit ≠ .writing → R s (beginCommit s)
  clear : ∀ i s, R s ((clearEffect i s).clearAttention i)
  notClear : ∀ i s, R s (((clearEffect i s).clearAttention i).setAttention i)

namespace RequestRules

variable {R : State → State → Prop} (rules : RequestRules R)
include rules

theorem decideModeTo (m : LineMode) (s : State) : R s (decideModeTo m s).state := by
  unfold Machine.decideModeTo
  split
  · exact rules.refl s
  · split
    · exact rules.refl s
    · rename_i conds row
      have tested : R s (testConds conds s).1 := by
        rcases testConds_state conds s with h | h <;> rw [h]
        · exact rules.refl s
        · exact rules.validation s
      have rco : (testConds conds s).1.rco = s.rco := by
        rcases testConds_state conds s with h | h <;> rw [h]
        rfl
      split
      next s1 c outcome => exact (congrArg Prod.fst outcome ▸ tested :)
      next s1 outcome =>
        have first : (testConds conds s).1 = s1 := congrArg Prod.fst outcome
        rw [first] at tested rco
        have entered : R s1 (enterMode m s1) := by
          rcases mode : s.rco.mode <;> rcases m <;> rw [mode] at row <;> simp only [transition, reduceCtorEq] at row
          · exact rules.maintenance s1 (.inl (rco ▸ mode))
          · exact rules.standby s1 (by simp [rco, mode])
          · exact rules.standby s1 (by simp [rco, mode])
          · exact rules.maintenance s1 (.inr (rco ▸ mode))
          · refine rules.service s1 (rco ▸ mode) ?_
            cases row
            simp only [testConds, ModeCond.prepare, ModeCond.holds, beq_iff_eq] at outcome
            split at outcome
            · cases outcome
              assumption
            · cases outcome
          · exact rules.standby s1 (by simp [rco, mode])
        split <;> exact rules.trans tested entered

theorem decideTrip (stop : Byte) (s : State) : R s (decideTrip stop s).state := by
  unfold Machine.decideTrip
  split
  · exact rules.refl s
  · rename_i k _
    have requested := rules.requestStop k .con s
    split <;> rename_i outcome <;> rw [outcome] at requested <;> exact requested

theorem decideHold (s : State) : R s (decideHold s).state := by
  unfold Machine.decideHold
  split
  · exact rules.refl s
  · rename_i isPublic
    split
    · rename_i run
      have held := rules.holdRunning s run
      split <;> rename_i outcome <;> rw [outcome] at held <;> exact held
    · split
      · rename_i closing
        exact rules.holdClosing s (by simpa using isPublic) closing
      · exact rules.refl s

theorem jogByState (dir : Dir) (s : State) (mode : s.rco.mode = .maintenance) : R s (jogByState dir s).state := by
  have fromRest (rest : s.rco.runState.atRest = true) : R s (jogFromRest dir s).state := by
    unfold jogFromRest
    repeat' split
    · exact rules.refl s
    · exact rules.refl s
    · exact rules.jogStart _ dir s mode rest ‹_›
  unfold Machine.jogByState
  split
  · exact fromRest (by simp [*, RunState.atRest])
  · exact fromRest (by simp [*, RunState.atRest])
  · split <;> exact rules.refl s
  · repeat' split
    · exact rules.refl s
    · exact rules.jogHold s
    · exact rules.refl s
  all_goals exact rules.refl s

theorem decideEvacuate (car side : Byte) (s : State) : R s (decideEvacuate car side s).state := by
  unfold Machine.decideEvacuate
  split
  · exact rules.refl s
  · exact rules.refl s
  repeat
    split
    · exact rules.refl s
  rename_i still _ authority release
  exact rules.evacuate _ _ s (by simpa using still) (Decidable.of_not_not authority) (Decidable.of_not_not release)

theorem decideConfigWrite (table index segment count : Byte) (bytes : List Byte) (s : State) :
    R s (decideConfigWrite table index segment count bytes s).state := by
  unfold Machine.decideConfigWrite
  split
  · exact rules.refl s
  split
  · exact rules.refl s
  split
  · exact rules.refl s
  rename_i idle mode rest
  have emptied : R s (emptyWrite s) := rules.buffers _ s
  unfold decideSegment
  repeat' split
  · exact emptied
  · exact emptied
  · exact emptied
  · exact rules.buffers _ s
  · unfold decideRecord
    repeat' split
    · exact emptied
    · exact emptied
    · exact rules.trans emptied
        (rules.write _ _ _ (emptyWrite s) idle (Decidable.of_not_not mode) (by simpa [emptyWrite] using rest))

theorem readOn (kind : ReadKind) (record n segment : Nat) (extra : List Byte) (s : State) :
    R s (readOn kind record n segment extra s).state := by
  unfold Machine.readOn
  repeat' split
  all_goals exact rules.refl s

theorem decideConfigRead (table index segment : Byte) (s : State) : R s (decideConfigRead table index segment s).state := by
  unfold Machine.decideConfigRead
  repeat' split
  · exact rules.readOn ..
  · exact rules.refl s
  · exact rules.refl s
  · exact rules.buffers _ s

theorem decideQuery (record n segment : Byte) (s : State) : R s (decideQuery record n segment s).state := by
  unfold Machine.decideQuery
  repeat' split
  · exact rules.refl s
  · exact rules.readOn ..
  · exact rules.refl s
  · exact rules.buffers _ s

theorem decideConfigCommit (s : State) : R s (decideConfigCommit s).state := by
  unfold Machine.decideConfigCommit
  split
  · exact rules.refl s
  split
  · exact rules.refl s
  rename_i idle _
  dsimp only
  split
  · exact rules.trans (rules.validation s) (rules.commit _ idle)
  · exact rules.validation s

theorem decideClear (item : Byte) (s : State) : R s (decideClear item s).state := by
  unfold Machine.decideClear
  split
  · exact rules.refl s
  dsimp only
  split
  · exact rules.notClear _ s
  · exact rules.clear _ s

/-- The decision of a console command. -/
theorem decideCommand (c : Command) (s : State) : R s (decideCommand c s).state := by
  unfold Machine.decideCommand
  cases c with
  | mode m =>
    unfold Machine.decideMode withMode
    dsimp only
    split
    · exact rules.refl s
    · exact rules.decideModeTo ..
  | trip k => exact rules.decideTrip k s
  | cancel k =>
    unfold Machine.decideCancel
    dsimp only
    repeat' split
    case _ => exact rules.refl s
    case _ => exact rules.refl s
    case _ => exact rules.refl s
    case _ => exact rules.refl s
    case _ => exact rules.cancel _ s
  | hold => exact rules.decideHold s
  | jog d =>
    unfold Machine.decideJog
    dsimp only
    repeat' split
    · exact rules.refl s
    · exact rules.refl s
    · exact rules.refl s
    · exact rules.jogByState _ s (Decidable.of_not_not ‹_›)
  | stop => exact rules.stop s
  | brakeReset =>
    unfold Machine.decideBrakeReset
    dsimp only
    repeat' split
    · exact rules.refl s
    · exact rules.refl s
    · exact rules.refl s
    · exact rules.brakeReset s (Decidable.of_not_not ‹_›)
  | evacuate c d => exact rules.decideEvacuate c d s
  | evacuateEnd c =>
    unfold Machine.decideEvacuateEnd
    dsimp only
    split
    · exact rules.refl s
    split
    · exact rules.refl s
    split
    · rename_i ordered
      exact rules.evacuateEnd _ s ordered.1 ordered.2
    · exact rules.refl s
  | gateMask g =>
    unfold Machine.decideGateMask
    dsimp only
    repeat' split
    · exact rules.refl s
    · exact rules.refl s
    · exact rules.refl s
    · exact rules.mask _ s
  | gateUnmask g =>
    unfold Machine.decideGateUnmask
    dsimp only
    repeat' split
    · exact rules.refl s
    · exact rules.refl s
    · exact rules.unmask _ s
  | tallySet c n =>
    unfold Machine.decideTallySet
    dsimp only
    repeat' split
    · exact rules.refl s
    · exact rules.refl s
    · exact rules.refl s
    · dsimp only [accept]
      exact rules.tally _ _ s
  | configWrite t i sg n b => exact rules.decideConfigWrite ..
  | configRead t i sg => exact rules.decideConfigRead ..
  | configCommit => exact rules.decideConfigCommit s
  | query r n sg => exact rules.decideQuery ..
  | clear i => exact rules.decideClear i s
  | unknown k l =>
    dsimp only [refuse]
    exact rules.refl s

/-- The decision of a request. -/
theorem decideRequest (i : PortId) (r : Request) (s : State) : R s (decideRequest i r s).1 := by
  cases r with
  | driveReport a b => exact rules.driveReport _ s
  | carReport d t rl wp w f => exact rules.trans (rules.carReport ..) (rules.weigh ..)
  | validate g => exact rules.validate ..
  | passage g => exact rules.passage ..
  | call p =>
    change R s (requestCall p (portStation i).origin s).1
    unfold requestCall
    repeat' split
    · exact rules.refl s
    · exact rules.refl s
    · exact rules.refl s
    · exact rules.refl s
    · exact rules.requestStop ..
  | gateReport g f => exact rules.gateReport ..
  | command c => exact rules.decideCommand c s

end RequestRules

/-! ### Events -/

/-- What every event of an operating part keeps, and the readiness stage at its end. -/
structure EventRules (R : State → State → Prop) : Prop where
  requests : RequestRules R
  commit : ∀ readBack s, R s (completeCommit readBack s)
  sample : ∀ r1 r2 s, R s (sampleEvent r1 r2 s)
  standstill : ∀ s, R s (standstillExpiry s)
  escalation : ∀ s, R s (escalationExpiry s)
  datum : ∀ n s, R s (datumEvent n s)
  estopFall : ∀ s, R s (estopFall s)
  estopRise : ∀ s, R s (estopRise s)
  estopQualify : ∀ s, R s (estopQualify s)
  eblRises : ∀ s, R s (eblRises s)
  eblFalls : ∀ s, R s (eblFalls s)
  stepTimeout : ∀ which s, R s (stepTimeout which s)
  ebSettle : ∀ s, R s (ebSettleEnd s)
  sbConfirm : ∀ s, R s (sbConfirmEnd s)
  stopDelay : ∀ s, R s (stopDelayEnd s)
  ebDrop : ∀ s, R s (ebDropEnd s)
  dwell : ∀ s, R s (dwellExpiry s)
  jog : ∀ s, R s (jogExpiry s)
  ack : ∀ c s, R s (ackExpiry c s)
  close : ∀ c s, R s (closeExpiry c s)
  reservation : ∀ g s, R s (reservationExpiry g s)
  exitQuiet : ∀ p s, R s (exitQuietExpiry p s)
  linkCause : ∀ c s, R s (linkCause c s)
  stationLost : ∀ x s, R s (stationLost x s)
  departs : ∀ t s, s.rco.runState = .closing → s.readiness = none → s.rco.tripInHand = some t →
    R s (startDeparture t.target s.rco.tripDir (s.withRco { s.rco with firstFailing := none }))
  waits : ∀ s, R s (s.withRco { s.rco with firstFailing := if s.rco.runState = .closing then s.readiness else none })
  endLoad : ∀ active risen s, R s (endLoad active risen s)
  estopPin : ∀ active s, R s (setEstopPin active s)
  eblPin : ∀ risen s, R s (setEblPin risen s)

namespace EventRules

variable {R : State → State → Prop} (rules : EventRules R)
include rules

theorem refl (s : State) : R s s := rules.requests.refl s

theorem trans {s t u : State} (a : R s t) (b : R t u) : R s u := rules.requests.trans a b

theorem readinessStage (n : Nat) (s : State) : R s (readinessStage n s) := by
  induction n generalizing s with
  | zero => exact rules.refl s
  | succ n ih =>
    have waited := rules.waits s
    unfold Machine.readinessStage
    split
    · rename_i closing
      rw [if_pos closing] at waited
      split
      · rename_i ready trip
        exact rules.trans (rules.departs _ s closing ready trip) (ih _)
      · exact waited
    · rename_i other
      rwa [if_neg other] at waited

/-- The end of an event. -/
theorem endEvent (s : State) : R s (endEvent s) := rules.readinessStage 2 s

theorem ended {s t : State} (h : R s t) : R s (Machine.endEvent t) := rules.trans h (rules.endEvent t)

theorem lossEffects (i : PortId) (s : State) : R s (lossEffects i s) := by
  cases i with
  | drv => exact rules.linkCause ..
  | cra => exact rules.trans (rules.linkCause ..) (rules.requests.weigh ..)
  | crb => exact rules.trans (rules.linkCause ..) (rules.requests.weigh ..)
  | sta1 => exact rules.stationLost ..
  | sta2 => exact rules.stationLost ..
  | con => exact rules.refl s

end EventRules

/-! ### Steps -/

/-- The row of a request offers it to its port while the part operates. -/
theorem exec_of_request {c : Instr} {i : PortId} {r : Request} (h : c.request = some (i, r)) (s : State) :
    exec c s = .next (whileOperating s (offerRequest i r)) := by
  cases c <;> simp only [Instr.request, reduceCtorEq, Option.some.injEq, Prod.mk.injEq] at h <;>
    obtain ⟨rfl, rfl⟩ := h <;> rfl

/-- What the rows of the ports keep: requests offered, bytes received, telegrams sent and links lost. -/
structure PortRules (R : State → State → Prop) : Prop where
  offer : ∀ i r s, R s (offerRequest i r s)
  receive : ∀ (i : PortId) (bytes : List Byte) (s : State), R s (bytes.foldl (feedByte i) s)
  incomplete : ∀ i s, R s (dropIncomplete i s)
  transmission : ∀ i s, R s (transmissionEnd i s)
  silence : ∀ i s, R s (silenceExpiry i s)

section
variable {R : State → State → Prop} (rules : EventRules R) (blind : ∀ {s t}, SameBlocks s t → R s t)
include rules blind

theorem EventRules.answerRequest (i : PortId) (r : Request) (rest : List Request) (s : State) : R s (answerRequest i r rest s) := by
  unfold Machine.answerRequest
  dsimp only
  generalize asked : (s.withPort i _).withAnswering (some i) = u
  have decided := rules.ended (rules.requests.decideRequest i r u)
  have handed : R s u := asked ▸ blind ⟨rfl, rfl, rfl, rfl, rfl, rfl, rfl⟩
  exact rules.trans (rules.trans handed decided)
    (blind (.trans (t := placeReply i _ ((Machine.endEvent _).withAnswering none)) ⟨rfl, rfl, rfl, rfl, rfl, rfl, rfl⟩
      (.releaseNotices _)))

theorem EventRules.takeRequests (i : PortId) (n : Nat) (s : State) : R s (takeRequests i n s) := by
  induction n generalizing s with
  | zero => exact rules.refl s
  | succ n ih =>
    unfold Machine.takeRequests
    repeat' split
    · exact rules.refl s
    · exact rules.trans (rules.answerRequest blind ..) (ih _)
    · exact rules.refl s

theorem EventRules.takeAll (i : PortId) (s : State) : R s (takeAll i s) := rules.takeRequests blind ..

theorem EventRules.offerRequest (i : PortId) (r : Request) (s : State) : R s (offerRequest i r s) := by
  unfold Machine.offerRequest
  dsimp only
  split
  · exact rules.trans (blind (.withPort ..)) (rules.takeAll blind ..)
  · exact blind ⟨rfl, rfl, rfl, rfl, rfl, rfl, rfl⟩

theorem EventRules.judgeFrame (i : PortId) (addr kind : Byte) (len : Nat) (frame : List Byte) (s : State) :
    R s (judgeFrame i addr kind len frame s) := by
  unfold Machine.judgeFrame
  repeat' split
  · exact rules.trans (rules.ended (blind (.withPort ..))) (rules.offerRequest blind ..)
  · exact blind (.withPort ..)
  · exact blind (.withPort ..)
  · exact blind (.dropBadCrc ..)

theorem EventRules.feedByte (i : PortId) (s : State) (b : Byte) : R s (feedByte i s b) := by
  unfold Machine.feedByte
  split
  · split
    · exact blind (.withPort ..)
    · exact rules.refl s
  · unfold takeFrame
    repeat' split
    · exact blind (.withPort ..)
    · exact rules.judgeFrame blind ..
    · exact blind (.withPort ..)
    · exact blind (.withPort ..)

theorem EventRules.foldl_feedByte (i : PortId) (bytes : List Byte) (s : State) : R s (bytes.foldl (Machine.feedByte i) s) := by
  induction bytes generalizing s with
  | nil => exact rules.refl s
  | cons b bytes ih => exact rules.trans (rules.feedByte blind i s b) (ih _)

theorem EventRules.dropIncomplete (i : PortId) (s : State) : R s (dropIncomplete i s) := by
  unfold Machine.dropIncomplete
  split
  · exact rules.refl s
  · exact blind (.dropBadCrc ..)

theorem EventRules.transmissionEnd (i : PortId) (s : State) : R s (transmissionEnd i s) := by
  unfold Machine.transmissionEnd
  split
  · exact rules.refl s
  · exact rules.trans
      (rules.trans
        (blind (.trans (t := (s.withPort i _).withCompleting (some i)) ⟨rfl, rfl, rfl, rfl, rfl, rfl, rfl⟩ (.placePending ..)))
        (rules.takeAll blind i _))
      (blind ⟨rfl, rfl, rfl, rfl, rfl, rfl, rfl⟩)

theorem EventRules.silenceExpiry (i : PortId) (s : State) : R s (silenceExpiry i s) := by
  unfold Machine.silenceExpiry
  split
  · exact rules.trans
      (rules.ended (rules.trans (blind (t := loseLink i s) ⟨rfl, rfl, rfl, rfl, rfl, rfl, rfl⟩) (rules.lossEffects i _)))
      (rules.takeAll blind ..)
  · exact rules.refl s

/-- What every event keeps, and every update of the ports, the rows of the ports keep. -/
theorem EventRules.portRules : PortRules R where
  offer := rules.offerRequest blind
  receive := rules.foldl_feedByte blind
  incomplete := rules.dropIncomplete blind
  transmission := rules.transmissionEnd blind
  silence := rules.silenceExpiry blind

end

/-- What every event, the rows of the ports and both resets keep, every command keeps. -/
theorem exec_of_rules {E R : State → State → Prop} (rules : EventRules E) (weaken : ∀ {s t}, E s t → R s t) (ports : PortRules R)
    (resets : ∀ previous cause a b s, R s (resetTo previous cause a b s)) (c : Instr) {s t : State} (h : exec c s = .next t) :
    R s t := by
  have plain {f : State → State} (s : State) (h : ∀ s, R s (f s)) : R s (whileOperating s f) := by
    unfold whileOperating
    split
    · exact h s
    · exact weaken (rules.refl s)
  rcases request : c.request with _ | ⟨i, r⟩
  · have event {f : State → State} (s : State) (h : ∀ s, E s (f s)) : R s (whileOperating s fun s => endEvent (f s)) :=
      plain s fun s => weaken (rules.ended (h s))
    have pin {f g : State → State} (s : State) (hf : ∀ s, E s (f s)) (hg : ∀ s, E s (g s)) :
        R s (if s.loading then f s else endEvent (g s)) := by
      split
      · exact weaken (hf s)
      · exact weaken (rules.ended (hg s))
    cases c with
    | powerOnReset => cases h; exact resets ..
    | externalReset => cases h; exact resets ..
    | imageLoadEnd active risen =>
      cases h
      split
      · exact weaken (rules.ended (rules.endLoad ..))
      · exact weaken (rules.refl s)
    | commitCompletion readBack => cases h; exact event s (rules.commit readBack)
    | sampleEvent r1 r2 => cases h; exact event s (rules.sample r1 r2)
    | standstillTimerExpiry => cases h; exact event s rules.standstill
    | escalationTimerExpiry => cases h; exact event s rules.escalation
    | datumEvent n => cases h; exact event s (rules.datum n)
    | estopFallingEdge => cases h; exact pin s (rules.estopPin true) rules.estopFall
    | estopRisingEdge => cases h; exact pin s (rules.estopPin false) rules.estopRise
    | estopQualifyExpiry => cases h; exact event s rules.estopQualify
    | eblRise => cases h; exact pin s (rules.eblPin true) rules.eblRises
    | eblFall => cases h; exact pin s (rules.eblPin false) rules.eblFalls
    | railConfirmExpiry => cases h; exact event s (rules.stepTimeout _)
    | ebLiftConfirmExpiry => cases h; exact event s (rules.stepTimeout _)
    | ebSettleExpiry => cases h; exact event s rules.ebSettle
    | torqueProveExpiry => cases h; exact event s (rules.stepTimeout _)
    | sbLiftConfirmExpiry => cases h; exact event s (rules.stepTimeout _)
    | sbConfirmExpiry => cases h; exact event s rules.sbConfirm
    | stopEbDelayEnd => cases h; exact event s rules.stopDelay
    | ebDropConfirmExpiry => cases h; exact event s rules.ebDrop
    | dwellTimerExpiry => cases h; exact event s rules.dwell
    | jogHoldExpiry => cases h; exact event s rules.jog
    | ackTimerExpiry c => cases h; exact event s (rules.ack c)
    | closeTimerExpiry c => cases h; exact event s (rules.close c)
    | reservationTimerExpiry g => cases h; exact event s (rules.reservation g)
    | exitQuietTimerExpiry p => cases h; exact event s (rules.exitQuiet p)
    | receiveFrame i bytes => cases h; exact plain s (ports.receive i bytes)
    | frameTimeout i => cases h; exact plain s (ports.incomplete i)
    | transmissionCompletion i => cases h; exact plain s (ports.transmission i)
    | silenceTimerExpiry i => cases h; exact plain s (ports.silence i)
    | byteFramingError i => cases h; exact plain s (ports.incomplete i)
    | _ => simp [Instr.request] at request
  · rw [exec_of_request request] at h
    cases h
    exact plain s (ports.offer i r)

/-- What every event, both resets and the passing of time keep, every step keeps. -/
theorem EventRules.step {R : State → State → Prop} (rules : EventRules R) (blind : ∀ {s t}, SameBlocks s t → R s t)
    (resets : ∀ previous cause a b s, R s (resetTo previous cause a b s)) (elapses : ∀ s, R s s.elapse)
    {s t : State} (h : step s = .next t) : R s t := by
  unfold Machine.step at h
  split at h
  · rename_i rest _
    exact rules.trans (blind (t := s.withPending rest) ⟨rfl, rfl, rfl, rfl, rfl, rfl, rfl⟩)
      (exec_of_rules rules id (rules.portRules blind) resets _ h)
  · cases h
    exact elapses s

end Sys2Proof.Machine
end

section
/-! What every event leaves of the ports but for its notices (R164 to R166), and the proof of `Obligations.StepKeepsPortCapacities`. -/

namespace Sys2Proof.Machine

/-- A queue with a place left takes one entry more. -/
theorem length_append_singleton_le {α : Type} {l : List α} {a : α} {n : Nat} (room : l.length < n) : (l ++ [a]).length ≤ n := by
  rw [List.length_append]
  exact room

/-! ### A port that takes notices -/

/-- What an event leaves of a port on which it decides no request: the receiver, the receive queue and the link, and the replies, each in
its place. -/
structure Port.TakesNotices (p q : Port) : Prop where
  frame : q.frame = p.frame
  rx : q.rx = p.rx
  alive : q.alive = p.alive
  silence : q.silence = p.silence
  replies : (q.tx.filter fun e => !e.isNotice) = p.tx.filter fun e => !e.isNotice
  grows : p.tx.length ≤ q.tx.length
  capacity : p.tx.length ≤ txCapacity → q.tx.length ≤ txCapacity
  place : ∀ (k : Nat) (e : TxEntry), p.tx[k]? = some e → e.isNotice = false → q.tx[k]? = some e

theorem Port.Noticed.takesNotices {p q : Port} (h : p.Noticed q) : p.TakesNotices q :=
  ⟨h.frame, h.rx, h.alive, h.silence, h.replies, h.grows, h.capacity, h.place⟩

theorem Port.TakesNotices.refl (p : Port) : p.TakesNotices p := (Port.Noticed.refl p).takesNotices

theorem Port.TakesNotices.trans {p q r : Port} (a : p.TakesNotices q) (b : q.TakesNotices r) : p.TakesNotices r :=
  ⟨b.frame.trans a.frame, b.rx.trans a.rx, b.alive.trans a.alive, b.silence.trans a.silence, b.replies.trans a.replies,
    Nat.le_trans a.grows b.grows, fun h => b.capacity (a.capacity h), fun k e h n => b.place k e (a.place k e h n) n⟩

theorem Port.clearDegraded_takesNotices (p : Port) : p.TakesNotices p.clearDegraded :=
  ⟨rfl, rfl, rfl, rfl, rfl, Nat.le_refl _, fun h => h, fun _ _ h _ => h⟩

/-! ### What an event leaves of the ports -/

/-- An event acts on the ports by notices alone; on the port whose request is being decided nothing is placed before the reply, and no
pending flag changes there (R164). -/
structure Quiet (s t : State) : Prop where
  answering : t.answering = s.answering
  completing : t.completing = s.completing
  pending : t.pending = s.pending
  ports : ∀ i, (s.port i).TakesNotices (t.port i)
  own : ∀ i, s.answering = some i → (t.port i).tx = (s.port i).tx ∧ (t.port i).somePending = (s.port i).somePending
  held : s.answering = none → t.held = s.held

theorem Quiet.refl (s : State) : Quiet s s := ⟨rfl, rfl, rfl, fun _ => .refl _, fun _ _ => ⟨rfl, rfl⟩, fun _ => rfl⟩

theorem Quiet.trans {s t u : State} (a : Quiet s t) (b : Quiet t u) : Quiet s u where
  answering := b.answering.trans a.answering
  completing := b.completing.trans a.completing
  pending := b.pending.trans a.pending
  ports i := (a.ports i).trans (b.ports i)
  own i h :=
    have ⟨tx, flags⟩ := a.own i h
    have ⟨tx', flags'⟩ := b.own i (a.answering.trans h)
    ⟨tx'.trans tx, flags'.trans flags⟩
  held h := (b.held (a.answering.trans h)).trans (a.held h)

theorem Calm.quiet {s t : State} (h : Calm s t) : Quiet s t :=
  ⟨h.answering, h.completing, h.pending, fun i => (h.ports i).takesNotices, fun i a => by rw [h.own i a]; exact ⟨rfl, rfl⟩, h.held⟩

/-- Outside the ports and the model's own fields everything may change. -/
theorem Quiet.of_ports {s t : State} (answering : t.answering = s.answering) (completing : t.completing = s.completing)
    (pending : t.pending = s.pending) (ports : t.ports = s.ports) (held : t.held = s.held) : Quiet s t := by
  have port (i : PortId) : t.port i = s.port i := by simp [State.port, ports]
  exact ⟨answering, completing, pending, fun i => port i ▸ .refl _, fun i _ => by rw [port]; exact ⟨rfl, rfl⟩, fun _ => held⟩

theorem Quiet.after {s t u : State} (b : Quiet t u) (a : Quiet s t) : Quiet s u := a.trans b

theorem Quiet.ite {s a b : State} {c : Prop} [Decidable c] (ha : c → Quiet s a) (hb : ¬c → Quiet s b) :
    Quiet s (if c then a else b) := by
  split
  · exact ha ‹_›
  · exact hb ‹_›

theorem Quiet.foldl {α : Type} {f : State → α → State} (hf : ∀ s x, Quiet s (f s x)) (l : List α) (s : State) :
    Quiet s (l.foldl f s) := by
  induction l generalizing s with
  | nil => exact .refl s
  | cons x l ih => exact (hf s x).trans (ih _)

theorem Quiet.withMsu (s : State) (x : Msu) : Quiet s (s.withMsu x) := .of_ports rfl rfl rfl rfl rfl
theorem Quiet.withCfs (s : State) (x : Cfs) : Quiet s (s.withCfs x) := .of_ports rfl rfl rfl rfl rfl
theorem Quiet.withRco (s : State) (x : Rco) : Quiet s (s.withRco x) := .of_ports rfl rfl rfl rfl rfl
theorem Quiet.withSsv (s : State) (x : Ssv) : Quiet s (s.withSsv x) := .of_ports rfl rfl rfl rfl rfl
theorem Quiet.withBks (s : State) (x : Bks) : Quiet s (s.withBks x) := .of_ports rfl rfl rfl rfl rfl
theorem Quiet.withDoor (s : State) (c : Car) (d : DoorRecord) : Quiet s (s.withDoor c d) := .of_ports rfl rfl rfl rfl rfl
theorem Quiet.withLoad (s : State) (c : Car) (l : LoadRecord) : Quiet s (s.withLoad c l) := .of_ports rfl rfl rfl rfl rfl
theorem Quiet.withGate (s : State) (g : Fin 16) (x : GateChannel) : Quiet s (s.withGate g x) := .of_ports rfl rfl rfl rfl rfl
theorem Quiet.withPc5 (s : State) (x : Pc5) : Quiet s (s.withPc5 x) := .of_ports rfl rfl rfl rfl rfl
theorem Quiet.setAttention (s : State) (i : Attention) : Quiet s (s.setAttention i) := .of_ports rfl rfl rfl rfl rfl
theorem Quiet.raise (c : Cause) (l : Level) (s : State) : Quiet s (raise c l s) := (Calm.raise c l s).quiet

/-- An attention item and a cause. -/
theorem Quiet.raise_setAttention (c : Cause) (l : Level) (i : Attention) (s : State) : Quiet s (Machine.raise c l (s.setAttention i)) :=
  .after (.raise ..) (.setAttention ..)

/-! ### Operations that measure nothing and store nothing -/

/-- An event that acts on the ports by notices alone and leaves the Configuration Store, the Measurement Unit and the buffers of PC5. -/
structure Contained (s t : State) : Prop extends Quiet s t where
  loading : t.loading = s.loading
  cfs : t.cfs = s.cfs
  msu : t.msu = s.msu
  pc5 : t.pc5 = s.pc5

theorem Contained.refl (s : State) : Contained s s := ⟨.refl s, rfl, rfl, rfl, rfl⟩

theorem Contained.trans {s t u : State} (a : Contained s t) (b : Contained t u) : Contained s u :=
  ⟨a.toQuiet.trans b.toQuiet, b.loading.trans a.loading, b.cfs.trans a.cfs, b.msu.trans a.msu, b.pc5.trans a.pc5⟩

theorem Calm.contained {s t : State} (h : Calm s t) : Contained s t := ⟨h.quiet, h.loading, h.cfs, h.msu, h.pc5⟩

theorem Contained.of_ports {s t : State} (answering : t.answering = s.answering) (completing : t.completing = s.completing)
    (pending : t.pending = s.pending) (ports : t.ports = s.ports) (held : t.held = s.held) (loading : t.loading = s.loading)
    (cfs : t.cfs = s.cfs) (msu : t.msu = s.msu) (pc5 : t.pc5 = s.pc5) : Contained s t :=
  ⟨.of_ports answering completing pending ports held, loading, cfs, msu, pc5⟩

theorem Contained.after {s t u : State} (b : Contained t u) (a : Contained s t) : Contained s u := a.trans b

theorem Contained.ite {s a b : State} {c : Prop} [Decidable c] (ha : c → Contained s a) (hb : ¬c → Contained s b) :
    Contained s (if c then a else b) := by
  split
  · exact ha ‹_›
  · exact hb ‹_›

theorem Contained.foldl {α : Type} {f : State → α → State} (hf : ∀ s x, Contained s (f s x)) (l : List α) (s : State) :
    Contained s (l.foldl f s) := by
  induction l generalizing s with
  | nil => exact .refl s
  | cons x l ih => exact (hf s x).trans (ih _)

theorem Contained.withRco (s : State) (x : Rco) : Contained s (s.withRco x) := .of_ports rfl rfl rfl rfl rfl rfl rfl rfl rfl
theorem Contained.withBks (s : State) (x : Bks) : Contained s (s.withBks x) := .of_ports rfl rfl rfl rfl rfl rfl rfl rfl rfl
theorem Contained.withDoor (s : State) (c : Car) (d : DoorRecord) : Contained s (s.withDoor c d) := .of_ports rfl rfl rfl rfl rfl rfl rfl rfl rfl
theorem Contained.withLoad (s : State) (c : Car) (l : LoadRecord) : Contained s (s.withLoad c l) := .of_ports rfl rfl rfl rfl rfl rfl rfl rfl rfl
theorem Contained.withGate (s : State) (g : Fin 16) (x : GateChannel) : Contained s (s.withGate g x) := .of_ports rfl rfl rfl rfl rfl rfl rfl rfl rfl
theorem Contained.setAttention (s : State) (i : Attention) : Contained s (s.setAttention i) := .of_ports rfl rfl rfl rfl rfl rfl rfl rfl rfl
theorem Contained.raise (c : Cause) (l : Level) (s : State) : Contained s (raise c l s) := (Calm.raise c l s).contained

/-- An attention item and a cause. -/
theorem Contained.raise_setAttention (c : Cause) (l : Level) (i : Attention) (s : State) :
    Contained s (Machine.raise c l (s.setAttention i)) :=
  .after (.raise ..) (.setAttention ..)

theorem Contained.evaluateLoad (s : State) (c : Car) : Contained s (evaluateLoad s c) := by
  unfold Machine.evaluateLoad
  dsimp only
  have flagged (b : Bool) (l : LoadRecord) :
      Contained s (if b then (s.withLoad c l).setAttention .tallyOver else s.withLoad c l) :=
    .ite (fun _ => .after (.setAttention ..) (.withLoad ..)) fun _ => .withLoad ..
  exact .ite (fun _ => .after (Calm.handNotice ..).contained (flagged ..)) fun _ => flagged ..

theorem Contained.afterTally (c : Car) (s : State) : Contained s (afterTally c s) :=
  .after (.foldl (fun _ _ => .ite (fun _ => (Calm.evaluatePolicy ..).contained) fun _ => .refl _) _ _) (.evaluateLoad s c)

theorem Contained.takeWeigh (c : Car) (w : Option Nat) (s : State) : Contained s (takeWeigh c w s) :=
  .after (.evaluateLoad ..) (.withLoad ..)

theorem Contained.countStale (c : Car) (s : State) : Contained s (countStale c s) := .of_ports rfl rfl rfl rfl rfl rfl rfl rfl rfl

theorem Contained.completeWithdrawal (c : Car) (s : State) : Contained s (completeWithdrawal c s) :=
  .ite (fun _ => .withDoor ..) fun _ => .refl s

theorem Contained.takeUp (c : Car) (s : State) : Contained s (takeUp c s) := by
  unfold Machine.takeUp
  dsimp only
  split
  · exact .after (Calm.releaseHeld ..).contained (.withDoor ..)
  · exact .withDoor ..

theorem Contained.judgeToken (c : Car) (token : Option (Fin 16)) (s : State) : Contained s (judgeToken c token s) := by
  unfold Machine.judgeToken
  dsimp only
  cases (s.door c).release with
  | none => exact .ite (fun _ => .refl s) fun _ => .after (Calm.withdraw ..).contained (.countStale c s)
  | ordered => exact .ite (fun _ => .takeUp c s) fun _ => .ite (fun _ => .refl s) fun _ => .countStale c s
  | held =>
    exact .ite (fun _ => .refl s) fun _ =>
      .ite (fun _ => .after (.completeWithdrawal ..) (Calm.withdraw ..).contained) fun _ => .countStale c s
  | withdrawing => exact .ite (fun _ => .completeWithdrawal c s) fun _ => .ite (fun _ => .refl s) fun _ => .countStale c s

theorem Contained.takeCarReport (c : Car) (door : DoorCond) (token : Option (Fin 16)) (rail : RailCond) (fault : Bool) (s : State) :
    Contained s (takeCarReport c door token rail fault s) := by
  have granted (t : State) : Contained t (doorsWhileGranted c t) :=
    .ite (fun _ => .after (.raise ..) (Calm.withdrawAuthority t).contained) fun _ => .refl t
  have departing (t : State) : Contained t (doorsInDeparture c t) := .ite (fun _ => .refl t) fun _ => (Calm.abortDeparture ..).contained
  have opening (x y z : Bool) (t : State) : Contained t (dealOpening x y z t) :=
    .ite (fun _ => .ite (fun _ => .raise_setAttention ..) fun _ => .setAttention ..) fun _ => .refl t
  have faulty (b : Bool) (t : State) : Contained t (if b then Machine.raise .car .service t else t) :=
    .ite (fun _ => .raise ..) fun _ => .refl t
  have onset (p : Prop) [Decidable p] (t : State) : Contained t (if p then t.setAttention .railFault else t) :=
    .ite (fun _ => .setAttention ..) fun _ => .refl t
  exact .after (Calm.testD1 _).contained (.after (onset _ _) (.after (faulty _ _) (.after (opening ..) (.after (departing _)
    (.after (granted _) (.after (.judgeToken ..) (.withDoor ..)))))))

theorem Contained.takeDriveReport (r : DriveReport) (s : State) : Contained s (takeDriveReport r s) := by
  have stepped := Contained.after (Calm.driveStep r _).contained (.after (Calm.followSb r.sb _).contained
    (.withRco s { s.rco with driveReport := some r }))
  exact .ite (fun _ => .after (.raise ..) stepped) fun _ => stepped

theorem Contained.decideValidate (x : Sta) (g : Fin 16) (s : State) : Contained s (decideValidate x g s).1 := by
  unfold Machine.decideValidate
  dsimp only
  repeat' split
  all_goals first
    | exact .refl s
    | exact .withGate ..
    | exact .after (Calm.evaluatePolicy ..).contained (Calm.reserve ..).contained
    | exact .of_ports rfl rfl rfl rfl rfl rfl rfl rfl rfl

theorem Contained.decidePassage (x : Sta) (g : Fin 16) (s : State) : Contained s (decidePassage x g s).1 := by
  have unreserved (p : Fin 8) (t : State) : Contained t (countUnreserved p t) := .of_ports rfl rfl rfl rfl rfl rfl rfl rfl rfl
  have passed (t : State) : Contained t (passGate g t).1 := by
    unfold passGate
    split
    · exact (Calm.giveUp ..).contained
    · exact .after (unreserved ..) (Calm.leaveList ..).contained
    · exact unreserved ..
  have tallied (c : Car) (n : Nat) (t : State) : Contained t (setTally c n t) := .withLoad ..
  unfold Machine.decidePassage
  dsimp only
  split
  · exact .refl s
  split
  · exact .after (Calm.evaluatePolicy ..).contained (.of_ports rfl rfl rfl rfl rfl rfl rfl rfl rfl)
  · dsimp only
    exact .after (.afterTally ..) (.after (passed _) (tallied ..))
  · rename_i c _ _
    dsimp only
    have exited := tallied c ((s.load c).tally - 1) s
    generalize setTally c ((s.load c).tally - 1) s = t at exited ⊢
    exact .after (.afterTally ..) (.ite (fun _ => .after (Calm.withSession t _ _).contained exited) fun _ => exited)

theorem Contained.decideGateReport (x : Sta) (g : Fin 16) (fault : Byte) (s : State) : Contained s (decideGateReport x g fault s).1 := by
  unfold Machine.decideGateReport
  dsimp only
  split
  · exact .refl s
  · exact .ite (fun _ => .after (.setAttention ..) (.after (Calm.takeOut ..).contained (.withGate ..))) fun _ => .withGate ..

theorem Contained.takeOut_masked (g : Fin 16) (s : State) :
    Contained s (takeOut g .masked (s.withGate g { s.gate g with masked := true })) :=
  .after (Calm.takeOut ..).contained (.withGate ..)

theorem Contained.linkCause (c : Cause) (s : State) : Contained s (linkCause c s) := .ite (fun _ => .raise ..) fun _ => .refl s

theorem Contained.raiseEbFault (s : State) : Contained s (raiseEbFault s) := (Calm.raiseEbFault s).contained

theorem Contained.eblRises (s : State) : Contained s (eblRises s) := by
  unfold Machine.eblRises
  dsimp only
  exact .ite (fun _ => .after (.raiseEbFault _) (.withBks s _)) fun _ =>
    .ite (fun _ => .of_ports rfl rfl rfl rfl rfl rfl rfl rfl rfl) fun _ => .withBks s _

theorem Contained.eblFalls (s : State) : Contained s (eblFalls s) := by
  unfold Machine.eblFalls
  dsimp only
  exact .ite (fun _ => .ite (fun _ => .after (.raiseEbFault _) (.withBks s _)) fun _ => .withBks s _) fun _ =>
    .ite (fun _ => .after (Calm.completeStop _).contained (.withBks s _)) fun _ => .withBks s _

theorem Contained.estopQualify (s : State) : Contained s (estopQualify s) :=
  .ite (fun _ => .after (Calm.abortDeparture ..).contained
    (.after (Calm.raiseAs ..).contained (.after (.setAttention ..) (.withBks s _)))) fun _ => .refl s

/-! ### Requests -/

theorem Quiet.clearEffect (i : Attention) (s : State) : Quiet s (clearEffect i s) := by
  unfold Machine.clearEffect
  split
  · have cleared (j : PortId) : (s.port j).TakesNotices (s.port j).clearDegraded := Port.clearDegraded_takesNotices _
    constructor
    · rfl
    · rfl
    · rfl
    · intro j; cases j <;> exact cleared _
    · intro j _; cases j <;> exact ⟨rfl, rfl⟩
    · intro _; rfl
  · exact .refl s

theorem Quiet.loseStandstill (s : State) : Quiet s (loseStandstill s) :=
  .after (.foldl (fun _ _ => (Calm.withdrawGiven ..).quiet) _ _)
    (.after (Calm.lossAtBks _).quiet (.after (Calm.lossAtRco _).quiet (.withMsu ..)))

theorem Quiet.calibrationChange (first second : Bool) (s : State) : Quiet s (calibrationChange first second s) :=
  .ite (fun _ => .ite (fun _ => .after (.loseStandstill _) (.withMsu ..)) fun _ => .withMsu ..) fun _ => .refl s

theorem Quiet.acceptWrite (id : TableId) (index : Nat) (bytes : List Byte) (s : State) : Quiet s (acceptWrite id index bytes s) := by
  have effects (old : LineConsts) (t : State) : Quiet t (writeEffects id old t) := by
    unfold Machine.writeEffects
    split
    · exact .after (.foldl (fun s c => (Contained.evaluateLoad s c).toQuiet) _ _) (.calibrationChange ..)
    · exact .withSsv ..
    · exact .refl t
  exact .after (effects ..) (.withCfs ..)

theorem quiet_requestRules : RequestRules Quiet where
  refl := .refl
  trans := .trans
  driveReport := fun r s => (Contained.takeDriveReport r s).toQuiet
  carReport := fun c d t r f s => (Contained.takeCarReport c d t r f s).toQuiet
  weigh := fun c w s => (Contained.takeWeigh c w s).toQuiet
  validate := fun x g s => (Contained.decideValidate x g s).toQuiet
  passage := fun x g s => (Contained.decidePassage x g s).toQuiet
  gateReport := fun x g f s => (Contained.decideGateReport x g f s).toQuiet
  requestStop _ _ _ := (Calm.requestStop ..).quiet
  validation s := .withCfs s _
  maintenance s _ := (Calm.enterMaintenance s).quiet
  standby _ _ := (Calm.enterStandby ..).quiet
  service s _ _ := (Calm.enterService s).quiet
  cancel _ s := .withRco s _
  holdRunning s _ := (Calm.holdRunning s).quiet
  holdClosing s _ _ := (Calm.holdClosing s).quiet
  jogStart _ _ s _ _ _ := .after (Calm.startDeparture ..).quiet (.withRco s _)
  jogHold s := .withRco s _
  stop := .raise _ _
  brakeReset s _ := (Calm.takeBrakeReset s).quiet
  evacuate _ _ _ _ _ _ := (Calm.orderRelease ..).quiet
  evacuateEnd _ _ _ _ := (Calm.withdraw ..).quiet
  mask g s := (Contained.takeOut_masked g s).toQuiet
  unmask _ s := .withGate s _ _
  tally _ _ _ := .after (Contained.afterTally ..).toQuiet (.withLoad ..)
  buffers x s := .withPc5 s x
  write _ _ _ s _ _ _ := .acceptWrite _ _ _ s
  commit s _ := .withCfs s _
  clear i s := .after (t := clearEffect i s) (.of_ports rfl rfl rfl rfl rfl) (.clearEffect i s)
  notClear i s := .after (.setAttention ..) (.after (t := clearEffect i s) (.of_ports rfl rfl rfl rfl rfl) (.clearEffect i s))

/-! ### Events -/

theorem Quiet.checkRange (good1 good2 : Bool) (s : State) : Quiet s (checkRange good1 good2 s) :=
  .ite (fun _ => .after (.raise_setAttention ..) (.withMsu ..)) fun _ => .withMsu ..

theorem Quiet.checkPositions (s : State) : Quiet s (checkPositions s) :=
  .ite (fun _ => .ite (fun _ => .after (.raise_setAttention ..) (.withMsu ..)) fun _ => .withMsu ..) fun _ => .refl s

theorem Quiet.checkSpeeds (recomputed : Bool) (s : State) : Quiet s (checkSpeeds recomputed s) :=
  .ite (fun _ => .ite (fun _ => .ite (fun _ => .after (.raise_setAttention ..) (.withMsu ..)) fun _ => .withMsu ..)
    fun _ => .withMsu ..) fun _ => .refl s

theorem Quiet.settleStandstill (s : State) : Quiet s (settleStandstill s) :=
  .ite (fun _ => .ite (fun _ => .withMsu ..) fun _ => .refl s) fun _ =>
    .ite (fun _ => .after (.loseStandstill _) (.withMsu ..)) fun _ => .withMsu ..

theorem Quiet.superviseLine (s : State) : Quiet s (superviseLine s) := by
  unfold Machine.superviseLine
  have ceiling (t : State) : Quiet t (takeCeiling t) := .ite (fun _ => .withRco ..) fun _ => .refl t
  have asked (l : Level) (t : State) : Quiet t (takeAsked l t) :=
    .ite (fun _ => .after (.raise ..) (.withBks t _)) fun _ => (Calm.setDemand ..).quiet
  have taken := Quiet.after (asked (takeCeiling (s.withSsv s.supervised)).ssv.asked _) (.after (ceiling _) (.withSsv s s.supervised))
  exact .ite (fun _ => .after (.raise ..) taken) fun _ => taken

theorem Quiet.sampleEvent (r1 r2 : SensorRead) (s : State) : Quiet s (sampleEvent r1 r2 s) := by
  have taken (t : State) : Quiet t (takeReads r1 r2 t) :=
    .ite (fun _ => .after (.raise_setAttention ..) (.withMsu ..)) fun _ => .withMsu ..
  have checked (t : State) : Quiet t (checkChannels (goodRead r1) (goodRead r2) t) :=
    .after (.checkSpeeds ..) (.after (.checkPositions _) (.checkRange ..))
  have measured (t : State) : Quiet t (measure r1 r2 t) :=
    .after (.settleStandstill _) (.after (checked _) (.after (.withMsu ..) (taken t)))
  exact .ite (fun _ => .after (.superviseLine _) (.after (Calm.retestArrival _).quiet (.after (measured _) (.withMsu ..))))
    fun _ => .refl s

theorem Quiet.datumEvent (n : Fin 4) (s : State) : Quiet s (datumEvent n s) :=
  .ite (fun _ => .ite (fun _ => .after (.raise_setAttention ..) (.withMsu ..)) fun _ => .withMsu ..) fun _ => .refl s

theorem Quiet.completeCommit (readBack : Option Tables) (s : State) : Quiet s (completeCommit readBack s) := by
  unfold Machine.completeCommit
  dsimp only
  exact .ite (fun _ => .ite (fun _ => .withCfs ..) fun _ => .after (.setAttention ..) (.withCfs ..)) fun _ => .refl s

/-- The blocks started at the end of the image load: the sample timer runs, and both pins are read (R9, R36, R106, R110). -/
def State.started (s : State) (active risen : Bool) : State :=
  { s with
    loading := false
    msu := { s.msu with sampleTimer := startMs Config.samplePeriod }
    bks :=
      { s.bks with
        eblRisen := risen
        estop := { active := active, qualified := false, timer := if active then startMs s.line.estopQualify else none } } }

theorem endLoad_eq (active risen : Bool) (s : State) :
    endLoad active risen s =
      allCars.foldl evaluateLoad (if risen then raiseEbFault (s.started active risen) else s.started active risen) := rfl

theorem Quiet.endLoad (active risen : Bool) (s : State) : Quiet s (endLoad active risen s) := by
  have started : Quiet s (s.started active risen) := .of_ports rfl rfl rfl rfl rfl
  rw [endLoad_eq]
  exact .after (.foldl (fun s c => (Contained.evaluateLoad s c).toQuiet) _ _)
    (.ite (fun _ => .after (Contained.raiseEbFault _).toQuiet started) fun _ => started)

theorem quiet_eventRules : EventRules Quiet where
  requests := quiet_requestRules
  commit := .completeCommit
  sample := .sampleEvent
  standstill s :=
    .ite (fun _ => .after (Calm.cancelCheck _).quiet (.after (Calm.standstillAtRco _).quiet (.withMsu ..))) fun _ => .refl s
  escalation s := (Calm.escalationExpiry s).quiet
  datum := .datumEvent
  estopFall s := .withBks s _
  estopRise s := .withBks s _
  estopQualify s := (Contained.estopQualify s).toQuiet
  eblRises s := (Contained.eblRises s).toQuiet
  eblFalls s := (Contained.eblFalls s).toQuiet
  stepTimeout _ s := (Calm.stepTimeout _ s).quiet
  ebSettle s := (Calm.ebSettleEnd s).quiet
  sbConfirm s := (Calm.sbConfirmEnd s).quiet
  stopDelay s := (Calm.stopDelayEnd s).quiet
  ebDrop s := (Calm.ebDropEnd s).quiet
  dwell s := (Calm.dwellExpiry s).quiet
  jog s := (Calm.jogExpiry s).quiet
  ack _ s := (Calm.ackExpiry _ s).quiet
  close _ s := (Calm.closeExpiry _ s).quiet
  reservation _ s := (Calm.reservationExpiry _ s).quiet
  exitQuiet _ s := (Calm.exitQuietExpiry _ s).quiet
  linkCause c s := (Contained.linkCause c s).toQuiet
  stationLost _ s := (Calm.stationLost _ s).quiet
  departs _ s _ _ _ := .after (Calm.startDeparture ..).quiet (.withRco s _)
  waits s := .withRco s _
  endLoad := .endLoad
  estopPin _ s := .withBks s _
  eblPin _ s := .withBks s _

/-! ### Requests taken one after another (R163, R164) -/

/-- No request is half decided, and every queue is within its capacity (R163 to R165). -/
structure State.Orderly (s : State) : Prop where
  answering : s.answering = none
  held : s.held = []
  rx : ∀ i, (s.port i).rx.length ≤ rxCapacity
  tx : ∀ i, (s.port i).tx.length ≤ txCapacity

theorem Quiet.orderly {s t : State} (q : Quiet s t) (h : s.Orderly) : t.Orderly where
  answering := q.answering.trans h.answering
  held := (q.held h.answering).trans h.held
  rx i := (q.ports i).rx ▸ h.rx i
  tx i := (q.ports i).capacity (h.tx i)

/-- A port record with queues within their capacities keeps the part orderly. -/
theorem State.Orderly.withPort {s : State} (h : s.Orderly) (i : PortId) {p : Port} (rx : p.rx.length ≤ rxCapacity)
    (tx : p.tx.length ≤ txCapacity) : (s.withPort i p).Orderly where
  answering := h.answering
  held := h.held
  rx j := by
    by_cases same : j = i
    · subst same; simpa using rx
    · simpa [State.port_withPort_other _ _ same] using h.rx j
  tx j := by
    by_cases same : j = i
    · subst same; simpa using tx
    · simpa [State.port_withPort_other _ _ same] using h.tx j

theorem Quiet.offerNotice {s : State} (n : Notice) (h : s.answering ≠ some n.port) : Quiet s (offerNotice s n) :=
  (Calm.offerNotice s n h).quiet

/-- Between two requests a notice is offered to its port at once. -/
theorem Quiet.foldl_offerNotice (l : List Notice) {s : State} (h : s.answering = none) : Quiet s (l.foldl Machine.offerNotice s) := by
  induction l generalizing s with
  | nil => exact .refl s
  | cons n l ih =>
    have first := Quiet.offerNotice n (s := s) (by simp [h])
    exact first.trans (ih (first.answering.trans h))

/-- What the decision of a request and the end of its event leave, before the reply is placed (R164). -/
structure State.DecidedOn (s t : State) (i : PortId) : Prop where
  answering : t.answering = none
  completing : t.completing = s.completing
  pending : t.pending = s.pending
  ports : ∀ j, (s.port j).TakesNotices (t.port j)
  own : (t.port i).tx = (s.port i).tx
  flags : (t.port i).somePending = (s.port i).somePending

/-- The state once a request has been decided and its event is at its end. -/
def decidedState (i : PortId) (r : Request) (s : State) : State :=
  (endEvent (decideRequest i r (s.withAnswering (some i))).1).withAnswering none

theorem decidedOn_decidedState (i : PortId) (r : Request) (s : State) : s.DecidedOn (decidedState i r s) i := by
  have decided : Quiet (s.withAnswering (some i)) (endEvent (decideRequest i r (s.withAnswering (some i))).1) :=
    quiet_eventRules.ended (quiet_requestRules.decideRequest i r _)
  exact ⟨rfl, decided.completing, decided.pending, decided.ports, (decided.own i rfl).1, (decided.own i rfl).2⟩

/-- A request answered: its reply joins the tail of the transmit queue, and the notices that waited for it follow. -/
theorem answered_eq (i : PortId) (r : Request) (s : State) :
    answered i r s =
      releaseNotices (placeReply i ((decideRequest i r (s.withAnswering (some i))).2.form (decidedState i r s)) (decidedState i r s)) := rfl

theorem answerRequest_eq (i : PortId) (r : Request) (rest : List Request) (s : State) :
    answerRequest i r rest s = answered i r (s.withPort i { s.port i with rx := rest }) := rfl

/-- A reply placed and the notices that waited for it: the part is orderly where a place was free. -/
theorem State.DecidedOn.placed_orderly {s t : State} {i : PortId} (d : s.DecidedOn t i) (h : s.Orderly)
    (place : (s.port i).tx.length < txCapacity) (e : TxEntry) : (releaseNotices (placeReply i e t)).Orderly := by
  have emptied : ((placeReply i e t).withHeld []).Orderly :=
    { answering := d.answering
      held := rfl
      rx := fun j => by
        by_cases same : j = i
        · subst same
          simpa [placeReply, State.withHeld, State.port] using (d.ports j).rx ▸ h.rx j
        · have other : (placeReply i e t).port j = t.port j := State.port_withPort_other _ _ same
          change ((placeReply i e t).port j).rx.length ≤ _
          rw [other]
          exact (d.ports j).rx ▸ h.rx j
      tx := fun j => by
        by_cases same : j = i
        · subst same
          change ((placeReply j e t).port j).tx.length ≤ _
          simp only [placeReply, State.port_withPort_same, List.length_append, d.own, List.length_singleton]
          omega
        · have other : (placeReply i e t).port j = t.port j := State.port_withPort_other _ _ same
          change ((placeReply i e t).port j).tx.length ≤ _
          rw [other]
          exact (d.ports j).capacity (h.tx j) }
  exact (Quiet.foldl_offerNotice _ emptied.answering).orderly emptied

theorem releaseNotices_completing (s : State) (h : s.answering = none) : (releaseNotices s).completing = s.completing :=
  (Quiet.foldl_offerNotice s.held (s := s.withHeld []) h).completing

theorem answered_orderly {s : State} (i : PortId) (r : Request) (h : s.Orderly) (place : (s.port i).tx.length < txCapacity) :
    (answered i r s).Orderly := by
  rw [answered_eq]
  exact (decidedOn_decidedState i r s).placed_orderly h place _

theorem answered_completing (i : PortId) (r : Request) (s : State) : (answered i r s).completing = s.completing := by
  have decided := decidedOn_decidedState i r s
  rw [answered_eq, releaseNotices_completing _ (by exact decided.answering)]
  exact decided.completing

theorem Port.mayTake_place {p : Port} (h : p.mayTake = true) : p.tx.length < txCapacity := by
  simp only [Port.mayTake, Port.freePlace, Bool.and_eq_true, decide_eq_true_eq] at h
  exact h.2

theorem takeRequests_orderly (i : PortId) (n : Nat) {s : State} (h : s.Orderly) :
    (takeRequests i n s).Orderly ∧ (takeRequests i n s).completing = s.completing := by
  induction n generalizing s with
  | zero => exact ⟨h, rfl⟩
  | succ n ih =>
    unfold takeRequests
    split
    · exact ⟨h, rfl⟩
    rename_i r rest queue
    split
    · rename_i may
      have taken : (s.withPort i { s.port i with rx := rest }).Orderly :=
        h.withPort i (by have := h.rx i; rw [queue, List.length_cons] at this; exact Nat.le_of_succ_le this) (h.tx i)
      have answered := answered_orderly i r taken (by simpa using Port.mayTake_place may)
      rw [answerRequest_eq]
      obtain ⟨orderly, completing⟩ := ih answered
      exact ⟨orderly, completing.trans (answered_completing i r _)⟩
    · exact ⟨h, rfl⟩

/-! ### The port events -/

/-- Orderly, and with the completion that was under way, or none. -/
structure State.OrderlyAfter (s t : State) : Prop where
  orderly : t.Orderly
  completing : t.completing = s.completing

theorem State.OrderlyAfter.trans {s t u : State} (a : s.OrderlyAfter t) (b : t.OrderlyAfter u) : s.OrderlyAfter u :=
  ⟨b.orderly, b.completing.trans a.completing⟩

theorem State.Orderly.self {s : State} (h : s.Orderly) : s.OrderlyAfter s := ⟨h, rfl⟩

theorem Quiet.orderlyAfter {s t : State} (q : Quiet s t) (h : s.Orderly) : s.OrderlyAfter t := ⟨q.orderly h, q.completing⟩

theorem State.OrderlyAfter.quiet {s t u : State} (a : s.OrderlyAfter t) (q : Quiet t u) : s.OrderlyAfter u :=
  a.trans (q.orderlyAfter a.orderly)

/-- A port record with the queues as they were, or shorter. -/
theorem State.Orderly.set {s : State} (h : s.Orderly) (i : PortId) (p : Port)
    (rx : p.rx.length ≤ (s.port i).rx.length := by exact Nat.le_refl _)
    (tx : p.tx.length ≤ (s.port i).tx.length := by exact Nat.le_refl _) : s.OrderlyAfter (s.withPort i p) :=
  ⟨h.withPort i (Nat.le_trans rx (h.rx i)) (Nat.le_trans tx (h.tx i)), rfl⟩

theorem takeAll_orderly (i : PortId) {s : State} (h : s.Orderly) : s.OrderlyAfter (takeAll i s) :=
  have ⟨orderly, completing⟩ := takeRequests_orderly i _ h
  ⟨orderly, completing⟩

theorem offerRequest_orderly (i : PortId) (r : Request) {s : State} (h : s.Orderly) : s.OrderlyAfter (offerRequest i r s) := by
  unfold offerRequest
  dsimp only
  split
  · rename_i room
    have joined : (s.withPort i { s.port i with rx := (s.port i).rx ++ [r] }).Orderly :=
      h.withPort i (length_append_singleton_le room) (h.tx i)
    exact .trans (t := s.withPort i _) ⟨joined, rfl⟩ (takeAll_orderly i joined)
  · exact (h.set i _).quiet (.setAttention ..)

theorem dropBadCrc_orderly (i : PortId) {s : State} (h : s.Orderly) : s.OrderlyAfter (dropBadCrc i s) := by
  unfold dropBadCrc
  dsimp only
  split
  · exact (h.set i _).quiet (.setAttention ..)
  · exact h.set i _

theorem judgeFrame_orderly (i : PortId) (addr kind : Byte) (len : Nat) (frame : List Byte) {s : State} (h : s.Orderly) :
    s.OrderlyAfter (judgeFrame i addr kind len frame s) := by
  unfold judgeFrame
  repeat' split
  · have heard : s.OrderlyAfter (hear i s) :=
      (h.set i _).quiet (quiet_eventRules.endEvent _)
    exact heard.trans (offerRequest_orderly i _ heard.orderly)
  · exact h.set i _
  · exact h.set i _
  · exact dropBadCrc_orderly i h

theorem feedByte_orderly (i : PortId) (b : Byte) {s : State} (h : s.Orderly) : s.OrderlyAfter (feedByte i s b) := by
  unfold feedByte
  split
  · split
    · exact h.set i _
    · exact h.self
  · unfold takeFrame
    repeat' split
    · exact h.set i _
    · exact judgeFrame_orderly _ _ _ _ _ h
    · exact h.set i _
    · exact h.set i _

theorem foldl_feedByte_orderly (i : PortId) (bytes : List Byte) {s : State} (h : s.Orderly) :
    s.OrderlyAfter (bytes.foldl (feedByte i) s) := by
  induction bytes generalizing s with
  | nil => exact h.self
  | cons b bytes ih => exact (feedByte_orderly i b h).trans (ih (feedByte_orderly i b h).orderly)

theorem dropIncomplete_orderly (i : PortId) {s : State} (h : s.Orderly) : s.OrderlyAfter (dropIncomplete i s) := by
  unfold dropIncomplete
  split
  · exact h.self
  · exact dropBadCrc_orderly i h

/-- Gate notices are placed only while places remain. -/
theorem Port.placeGates_queues (l : List PendingGate) (p : Port) (h : p.tx.length ≤ txCapacity) :
    (p.placeGates l).rx = p.rx ∧ (p.placeGates l).tx.length ≤ txCapacity := by
  induction l generalizing p with
  | nil => exact ⟨rfl, h⟩
  | cons n rest ih =>
    unfold Port.placeGates
    split
    · rename_i free
      refine ih { p with tx := p.tx ++ [gateNotice n] } ?_
      exact length_append_singleton_le (of_decide_eq_true free)
    · exact ⟨rfl, h⟩

theorem placePending_orderly (i : PortId) {s : State} (h : s.Orderly) : s.OrderlyAfter (placePending i s) := by
  have ordered : s.OrderlyAfter (placeOrder i s) := by
    unfold placeOrder
    dsimp only
    repeat' split
    · rename_i free
      refine ⟨h.withPort i (h.rx i) ?_, rfl⟩
      simp only [Port.freePlace, Bool.and_eq_true, decide_eq_true_eq] at free
      exact length_append_singleton_le free.2
    · exact h.self
    · exact h.self
  have gates := Port.placeGates_queues ((placeOrder i s).port i).pendingGates _ (ordered.orderly.tx i)
  unfold placePending
  exact ⟨ordered.orderly.withPort i (gates.1 ▸ ordered.orderly.rx i) gates.2, ordered.completing⟩

theorem transmissionEnd_orderly (i : PortId) {s : State} (h : s.Orderly) (none : s.completing = none) :
    s.OrderlyAfter (transmissionEnd i s) := by
  unfold transmissionEnd
  split
  · exact h.self
  · rename_i rest queue
    have left : ((s.withPort i { s.port i with tx := rest }).withCompleting (some i)).Orderly := by
      have shorter := h.tx i
      rw [queue, List.length_cons] at shorter
      exact { h.withPort i (p := { s.port i with tx := rest }) (h.rx i) (Nat.le_of_succ_le shorter) with }
    have filled := takeAll_orderly i (placePending_orderly i left).orderly
    exact ⟨{ filled.orderly with }, none.symm⟩

theorem Port.trim_length (p : Port) : p.trim.tx.length ≤ p.tx.length := by
  unfold Port.trim
  cases p.tx with
  | nil => simp
  | cons e rest => simpa using List.length_filter_le _ rest

theorem silenceExpiry_orderly (i : PortId) {s : State} (h : s.Orderly) : s.OrderlyAfter (silenceExpiry i s) := by
  unfold silenceExpiry
  split
  · have trimmed := (s.port i).trim_length
    have lost : s.OrderlyAfter (loseLink i s) :=
      (h.set i { (s.port i).trim with silence := none, alive := false, losses := satInc 255 (s.port i).losses }
        (tx := trimmed)).quiet (.setAttention ..)
    have ended := (quiet_eventRules.ended (quiet_eventRules.lossEffects i (loseLink i s))).orderlyAfter lost.orderly
    exact (lost.trans ended).trans (takeAll_orderly i ended.orderly)
  · exact h.self

/-! ### Steps -/

theorem State.settled_iff (s : State) : s.settled = true ↔ s.answering = none ∧ s.held = [] ∧ s.completing = none := by
  simp [State.settled, and_assoc]

theorem Ports.withinCapacity_iff (p : Ports) :
    p.withinCapacity = true ↔ ∀ i, (p.get i).rx.length ≤ rxCapacity ∧ (p.get i).tx.length ≤ txCapacity := by
  simp only [Ports.withinCapacity, Port.withinCapacity, Bool.and_eq_true, decide_eq_true_eq]
  constructor
  · rintro ⟨⟨⟨⟨⟨drv, cra⟩, crb⟩, sta1⟩, sta2⟩, con⟩ i
    cases i <;> assumption
  · intro h
    exact ⟨⟨⟨⟨⟨h .drv, h .cra⟩, h .crb⟩, h .sta1⟩, h .sta2⟩, h .con⟩

theorem orderly_iff (s : State) :
    s.Orderly ∧ s.completing = none ↔ s.settled = true ∧ s.ports.withinCapacity = true := by
  rw [State.settled_iff, Ports.withinCapacity_iff]
  constructor
  · rintro ⟨h, completing⟩
    exact ⟨⟨h.answering, h.held, completing⟩, fun i => ⟨h.rx i, h.tx i⟩⟩
  · rintro ⟨⟨answering, held, completing⟩, queues⟩
    exact ⟨⟨answering, held, fun i => (queues i).1, fun i => (queues i).2⟩, completing⟩

/-- An orderly part stays so, and no completion is left under way. -/
def KeepsOrder (s t : State) : Prop := s.Orderly ∧ s.completing = none → t.Orderly ∧ t.completing = none

theorem Quiet.keepsOrder {s t : State} (q : Quiet s t) : KeepsOrder s t :=
  fun ⟨orderly, completing⟩ => ⟨q.orderly orderly, q.completing.trans completing⟩

theorem keepsOrder_of_orderlyAfter {s t : State} (h : s.Orderly → s.completing = none → s.OrderlyAfter t) : KeepsOrder s t :=
  fun ⟨orderly, completing⟩ => ⟨(h orderly completing).orderly, (h orderly completing).completing.trans completing⟩

theorem keepsOrder_portRules : PortRules KeepsOrder where
  offer i r _ := keepsOrder_of_orderlyAfter fun h _ => offerRequest_orderly i r h
  receive i bytes _ := keepsOrder_of_orderlyAfter fun h _ => foldl_feedByte_orderly i bytes h
  incomplete i _ := keepsOrder_of_orderlyAfter fun h _ => dropIncomplete_orderly i h
  transmission i _ := keepsOrder_of_orderlyAfter (transmissionEnd_orderly i)
  silence i _ := keepsOrder_of_orderlyAfter fun h _ => silenceExpiry_orderly i h

theorem keepsOrder_resetTo (previous : LineMode) (cause : ResetCause) (a b : Nat) (s : State) :
    KeepsOrder s (resetTo previous cause a b s) := by
  have port (i : PortId) : (resetTo previous cause a b s).port i = Port.reset := by cases i <;> rfl
  exact fun _ => ⟨⟨rfl, rfl, fun i => by simp [port, Port.reset], fun i => by simp [port, Port.reset]⟩, rfl⟩

theorem keepsOrder_elapse (s : State) : KeepsOrder s s.elapse := by
  have port (i : PortId) : s.elapse.port i = (s.port i).tick := by cases i <;> rfl
  exact fun ⟨h, completing⟩ => ⟨⟨h.answering, h.held, fun i => port i ▸ h.rx i, fun i => port i ▸ h.tx i⟩, completing⟩

/-- Settles O8: every event acts on the ports by notices alone, and a request is taken only where its reply finds a place. -/
theorem stepKeepsPortCapacities : Obligations.StepKeepsPortCapacities := by
  intro s t settled capacity next
  rw [← orderly_iff]
  have before := (orderly_iff s).mpr ⟨settled, capacity⟩
  unfold step at next
  split at next
  · exact exec_of_rules quiet_eventRules Quiet.keepsOrder keepsOrder_portRules keepsOrder_resetTo _ next
      ⟨{ before.1 with }, before.2⟩
  · cases next
    exact keepsOrder_elapse s before

end Sys2Proof.Machine
end

section
/-! The laws of the Configuration Store and of the Measurement Unit, which every step keeps: the proofs of
`Obligations.StepKeepsConfigurationLaw` and `Obligations.StepKeepsMeasurementLaw`. -/

namespace Sys2Proof.Machine

/-! ### The Configuration Store (R8 to R10, R13, R17) -/

/-- The three laws of the Configuration Store. -/
theorem Cfs.lawful_iff (c : Cfs) :
    c.lawful = true ↔ (c.workingValid = true → validate c.tables = none) ∧ (c.storedValid = true → c.wordMatches = true) ∧
      (c.commit = .writing → c.checkWord = none ∧ c.storedValid = false) := by
  simp only [Cfs.lawful, Bool.and_eq_true, Bool.or_eq_true, Bool.not_eq_true', beq_iff_eq, bne_iff_ne, and_assoc]
  refine and_congr ?_ (and_congr ?_ ?_)
  · cases c.workingValid <;> simp
  · cases c.storedValid <;> simp
  · by_cases writing : c.commit = .writing <;> simp [writing]

/-- The law of the Configuration Store. -/
def CfsLaw (s : State) : Prop := s.cfs.lawful = true

theorem Keeps.of_cfs {s t : State} (h : t.cfs = s.cfs) : Keeps CfsLaw s t := ⟨fun law => by rwa [CfsLaw, h]⟩

theorem Contained.keepsCfs {s t : State} (h : Contained s t) : Keeps CfsLaw s t := .of_cfs h.cfs

theorem Calm.keepsCfs {s t : State} (h : Calm s t) : Keeps CfsLaw s t := .of_cfs h.cfs

theorem KeepsReads.keepsCfs {s t : State} (h : KeepsReads s t) : Keeps CfsLaw s t := .of_cfs h.cfs

theorem validateWorking_keepsCfs (s : State) : Keeps CfsLaw s (validateWorking s) := .mk fun law => by
  rw [CfsLaw, Cfs.lawful_iff] at law ⊢
  obtain ⟨_, stored, writing⟩ := law
  exact ⟨by simp [validateWorking], stored, writing⟩

theorem beginCommit_keepsCfs (s : State) : Keeps CfsLaw s (beginCommit s) := .mk fun law => by
  rw [CfsLaw, Cfs.lawful_iff] at law ⊢
  exact ⟨law.1, by simp [beginCommit], by simp [beginCommit]⟩

theorem completeCommit_keepsCfs (readBack : Option Tables) (s : State) : Keeps CfsLaw s (completeCommit readBack s) := .mk fun law => by
  unfold completeCommit
  dsimp only
  split
  · split
    · rename_i matched
      rw [CfsLaw, Cfs.lawful_iff] at law ⊢
      exact ⟨law.1, by simp [Cfs.wordMatches, matched], by simp⟩
    · rw [CfsLaw, Cfs.lawful_iff] at law ⊢
      exact ⟨law.1, by simp, by simp⟩
  · exact law

theorem evaluateLoads_cfs (s : State) : (allCars.foldl evaluateLoad s).cfs = s.cfs := (Contained.foldl .evaluateLoad _ s).cfs

theorem loseStandstill_cfs (s : State) : (loseStandstill s).cfs = s.cfs := (KeepsReads.loseStandstill s).cfs

theorem calibrationChange_cfs (first second : Bool) (s : State) : (calibrationChange first second s).cfs = s.cfs := by
  unfold calibrationChange
  split
  · dsimp only
    split
    · exact loseStandstill_cfs _
    · rfl
  · rfl

/-- What an accepted CONFIG WRITE does beyond the tables leaves the Configuration Store (R11). -/
theorem writeEffects_cfs (id : TableId) (old : LineConsts) (s : State) : (writeEffects id old s).cfs = s.cfs := by
  unfold writeEffects
  split
  · exact (evaluateLoads_cfs _).trans (calibrationChange_cfs ..)
  · rfl
  · rfl

theorem acceptWrite_keepsCfs (id : TableId) (index : Nat) (bytes : List Byte) (s : State) :
    Keeps CfsLaw s (acceptWrite id index bytes s) := .mk fun law => by
  rw [CfsLaw, Cfs.lawful_iff] at law ⊢
  unfold acceptWrite
  rw [writeEffects_cfs]
  exact ⟨by simp, law.2.1, law.2.2⟩

theorem keepsCfs_requestRules : RequestRules (Keeps CfsLaw) where
  refl := .refl
  trans := .trans
  driveReport _ _ := (Contained.takeDriveReport ..).keepsCfs
  carReport _ _ _ _ _ _ := (Contained.takeCarReport ..).keepsCfs
  weigh _ _ _ := (Contained.takeWeigh ..).keepsCfs
  validate _ _ _ := (Contained.decideValidate ..).keepsCfs
  passage _ _ _ := (Contained.decidePassage ..).keepsCfs
  gateReport _ _ _ _ := (Contained.decideGateReport ..).keepsCfs
  requestStop _ _ _ := (Calm.requestStop ..).keepsCfs
  validation := validateWorking_keepsCfs
  maintenance _ _ := .of_cfs rfl
  standby _ _ := (Calm.enterStandby ..).keepsCfs
  service _ _ _ := (Calm.enterService _).keepsCfs
  cancel _ _ := .of_cfs rfl
  holdRunning _ _ := (Calm.holdRunning _).keepsCfs
  holdClosing _ _ _ := (Calm.holdClosing _).keepsCfs
  jogStart _ _ _ _ _ _ := .of_cfs (Calm.startDeparture ..).cfs
  jogHold _ := .of_cfs rfl
  stop _ := (Calm.raise ..).keepsCfs
  brakeReset _ _ := (Calm.takeBrakeReset _).keepsCfs
  evacuate _ _ _ _ _ _ := (Calm.orderRelease ..).keepsCfs
  evacuateEnd _ _ _ _ := (Calm.withdraw ..).keepsCfs
  mask _ _ := (Contained.takeOut_masked ..).keepsCfs
  unmask _ _ := .of_cfs rfl
  tally _ _ _ := .of_cfs (Contained.afterTally ..).cfs
  buffers _ _ := .of_cfs rfl
  write _ _ _ _ _ _ _ := acceptWrite_keepsCfs ..
  commit _ _ := beginCommit_keepsCfs _
  clear i s := .of_cfs (SameBlocks.clearEffect i s).cfs
  notClear i s := .of_cfs (SameBlocks.clearEffect i s).cfs

theorem confirmStandstill_cfs (s : State) : (confirmStandstill s).cfs = s.cfs :=
  (Calm.after (.cancelCheck _) (.standstillAtRco _)).cfs

theorem datumEvent_cfs (n : Fin 4) (s : State) : (datumEvent n s).cfs = s.cfs := by
  unfold datumEvent
  dsimp only
  repeat' split
  · exact (Calm.raise ..).cfs
  · rfl
  · rfl

/-- The sample event once its reads are taken and its values settled, but for its end: the checks, standstill, arrival and
supervision (R36). -/
theorem KeepsReads.afterMeasure (r1 r2 : SensorRead) (s : State) :
    KeepsReads (settleValues (takeReads r1 r2 s)) (Machine.superviseLine (Machine.retestArrival (measure r1 r2 s))) :=
  (((((KeepsReads.checkRange ..).trans (.checkPositions _)).trans (.checkSpeeds ..)).trans (.settleStandstill _)).trans
    (.of_calm (.retestArrival _) (.retestArrival _))).trans (.superviseLine _)

theorem sampleEvent_of_timed {s : State} (r1 r2 : SensorRead) (timed : s.msu.sampleTimer.isSome = true) :
    sampleEvent r1 r2 s = superviseLine (retestArrival (measure r1 r2 s.restartSample)) := if_pos timed

theorem sampleEvent_of_untimed {s : State} (r1 r2 : SensorRead) (untimed : ¬s.msu.sampleTimer.isSome = true) :
    sampleEvent r1 r2 s = s := if_neg untimed

theorem sampleEvent_cfs (r1 r2 : SensorRead) (s : State) : (sampleEvent r1 r2 s).cfs = s.cfs := by
  by_cases timed : s.msu.sampleTimer.isSome = true
  · rw [sampleEvent_of_timed r1 r2 timed, (KeepsReads.afterMeasure r1 r2 _).cfs]
    exact (takeReads_calm r1 r2 s.restartSample).cfs
  · rw [sampleEvent_of_untimed r1 r2 timed]

theorem endLoad_cfs (active risen : Bool) (s : State) : (endLoad active risen s).cfs = s.cfs := by
  rw [endLoad_eq, evaluateLoads_cfs]
  split
  · exact (Calm.raiseEbFault _).cfs
  · rfl

theorem keepsCfs_eventRules : EventRules (Keeps CfsLaw) where
  requests := keepsCfs_requestRules
  commit := completeCommit_keepsCfs
  sample _ _ _ := .of_cfs (sampleEvent_cfs ..)
  standstill s := .of_cfs <| by
    unfold standstillExpiry
    split
    · exact confirmStandstill_cfs s
    · rfl
  escalation _ := (Calm.escalationExpiry _).keepsCfs
  datum _ _ := .of_cfs (datumEvent_cfs ..)
  estopFall _ := .of_cfs rfl
  estopRise _ := .of_cfs rfl
  estopQualify _ := (Contained.estopQualify _).keepsCfs
  eblRises _ := (Contained.eblRises _).keepsCfs
  eblFalls _ := (Contained.eblFalls _).keepsCfs
  stepTimeout _ _ := (Calm.stepTimeout ..).keepsCfs
  ebSettle _ := (Calm.ebSettleEnd _).keepsCfs
  sbConfirm _ := (Calm.sbConfirmEnd _).keepsCfs
  stopDelay _ := (Calm.stopDelayEnd _).keepsCfs
  ebDrop _ := (Calm.ebDropEnd _).keepsCfs
  dwell _ := (Calm.dwellExpiry _).keepsCfs
  jog _ := (Calm.jogExpiry _).keepsCfs
  ack _ _ := (Calm.ackExpiry ..).keepsCfs
  close _ _ := (Calm.closeExpiry ..).keepsCfs
  reservation _ _ := (Calm.reservationExpiry ..).keepsCfs
  exitQuiet _ _ := (Calm.exitQuietExpiry ..).keepsCfs
  linkCause _ _ := (Contained.linkCause ..).keepsCfs
  stationLost _ _ := (Calm.stationLost ..).keepsCfs
  departs _ _ _ _ _ := .of_cfs (Calm.startDeparture ..).cfs
  waits _ := .of_cfs rfl
  endLoad _ _ _ := .of_cfs (endLoad_cfs ..)
  estopPin _ _ := .of_cfs rfl
  eblPin _ _ := .of_cfs rfl

theorem Cfs.load_lawful (c : Cfs) : c.load.lawful = true := by
  rw [Cfs.lawful_iff]
  unfold Cfs.load
  repeat' split
  · rename_i word _ passed
    exact ⟨fun _ => passed, fun _ => word, by simp⟩
  · simp [Cfs.loadFailed]
  · simp [Cfs.loadFailed]

/-- Settles O9: an indication is set only by a validation or by a check word that has just been compared. -/
theorem stepKeepsConfigurationLaw : Obligations.StepKeepsConfigurationLaw := fun _ _ law next =>
  (keepsCfs_eventRules.step (fun same => .of_cfs same.cfs) (fun _ _ _ _ _ => ⟨fun _ => Cfs.load_lawful _⟩) (fun _ => .of_cfs rfl) next).law law

/-! ### The Measurement Unit (R39 to R42, R46, R48, R51) -/

/-! #### A channel -/

/-- The laws of a channel: its status is that of its ring, which holds positions of good reads, and its counts stop at their caps. -/
theorem Channel.lawful_iff (c : Channel) :
    c.lawful = true ↔
      (match c.status with
        | .empty => c.ring = []
        | .filling => 0 < c.ring.length ∧ c.ring.length < 9
        | .good => c.ring.length = 9
        | .failed => c.ring = []) ∧ (c.ring = [] ∨ c.position.isSome = true) ∧ c.badRun ≤ 3 ∧ c.badTotal ≤ 65535 := by
  cases status : c.status <;>
    simp only [Channel.lawful, status, Bool.and_eq_true, Bool.or_eq_true, beq_iff_eq, decide_eq_true_eq, and_assoc]

/-- A push leaves the ring within its capacity and not empty, with the status that follows it (R39). -/
theorem pushRing_length (e : RingEntry) {ring : List RingEntry} (h : ring.length ≤ ringCapacity) :
    0 < (pushRing e ring).length ∧ (pushRing e ring).length ≤ 9 := by
  unfold ringCapacity at h
  unfold pushRing ringCapacity
  split <;> simp only [List.length_append, List.length_drop, List.length_singleton] <;> omega

theorem satInc_le {cap n : Nat} (h : n ≤ cap) : satInc cap n ≤ cap := by
  rw [satInc_eq_min h]
  exact Nat.min_le_left ..

/-- A channel that has pushed an entry of a position it has is lawful. -/
theorem Channel.pushed_lawful {c : Channel} {e : RingEntry} {ring : List RingEntry} (h : ring.length ≤ ringCapacity)
    (pushed : c.ring = pushRing e ring) (status : c.status = ringStatus c.ring) (placed : c.position.isSome = true)
    (run : c.badRun ≤ 3) (total : c.badTotal ≤ 65535) : c.lawful = true := by
  have ⟨filled, full⟩ := pushRing_length e h
  rw [← pushed] at filled full
  rw [Channel.lawful_iff]
  refine ⟨?_, .inr placed, run, total⟩
  rw [status]
  unfold ringStatus ringCapacity
  by_cases nine : c.ring.length = 9
  · simp [nine]
  · rw [if_neg nine]
    exact ⟨filled, by omega⟩

theorem Channel.takeRead_lawful {c : Channel} (h : c.lawful = true) (zeroCount scale : Nat) (r : SensorRead) :
    (c.takeRead zeroCount scale r).lawful = true := by
  obtain ⟨length, failed, _, run, total⟩ := Channel.lawful_bounds h
  obtain ⟨byStatus, placed, _, _⟩ := c.lawful_iff.mp h
  have run' := satInc_le run
  have total' := satInc_le total
  unfold Channel.takeRead
  split
  · exact Channel.pushed_lawful (ring := c.ring) length rfl rfl rfl (Nat.zero_le 3) total
  · unfold Channel.takeBad
    dsimp only
    split
    · exact (Channel.lawful_iff _).mpr ⟨byStatus, placed, run', total'⟩
    split
    · exact (Channel.lawful_iff _).mpr ⟨rfl, .inl rfl, run', total'⟩
    · unfold Channel.hold
      split
      · exact (Channel.lawful_iff _).mpr ⟨byStatus, placed, run', total'⟩
      · exact (Channel.lawful_iff _).mpr ⟨byStatus, placed, run', total'⟩
      · rename_i position
        exact Channel.pushed_lawful length rfl rfl (Option.isSome_iff_exists.mpr ⟨_, position⟩) run' total'

theorem Channel.settleSpeed_lawful {c : Channel} (h : c.lawful = true) : c.settleSpeed.lawful = true := by
  obtain ⟨_, _, settled⟩ := c.settleSpeed_eq
  rw [settled]
  exact h

theorem Channel.testRange_lawful {c : Channel} (h : c.lawful = true) (l : LineConsts) (good : Bool) :
    (c.testRange l good).lawful = true := by
  obtain ⟨_, tested⟩ := c.testRange_eq l good
  rw [tested]
  exact h

theorem Channel.recalibrate_lawful {c : Channel} (h : c.lawful = true) : c.recalibrate.lawful = true := by
  obtain ⟨_, _, _, total⟩ := c.lawful_iff.mp h
  refine (Channel.lawful_iff _).mpr ⟨?_, .inl rfl, Nat.zero_le 3, total⟩
  unfold Channel.recalibrate
  by_cases failed : c.status = .failed <;> simp [failed]

theorem Channel.judgeDatum_lawful {c : Channel} (h : c.lawful = true) (datum tolerance : Int) :
    (c.judgeDatum datum tolerance).1.lawful = true ∧ (c.judgeDatum datum tolerance).1.status = c.status := by
  unfold Channel.judgeDatum
  split
  · exact ⟨h, rfl⟩
  split
  · exact ⟨h, rfl⟩
  split
  · obtain ⟨byStatus, _, run, total⟩ := c.lawful_iff.mp h
    refine ⟨(Channel.lawful_iff _).mpr ⟨?_, .inr rfl, run, total⟩, rfl⟩
    dsimp only
    simpa only [List.map_eq_nil_iff, List.length_map] using byStatus
  · exact ⟨h, rfl⟩

/-! #### The measurement record -/

/-- The laws of the Measurement Unit. -/
theorem Msu.lawful_iff (m : Msu) :
    m.lawful = true ↔ m.ch1.lawful = true ∧ m.ch2.lawful = true ∧ (m.qualified = true → m.bothGood = true) ∧
      (m.standstill = true → m.qualified = true ∧ m.standstillTimer = none) ∧
      (m.standstillTimer.isSome = true → m.qualified = true) ∧ m.speedDisagree ≤ 3 := by
  simp only [Msu.lawful, Bool.and_eq_true, Bool.or_eq_true, Bool.not_eq_true', beq_iff_eq, decide_eq_true_eq, and_assoc,
    ← Bool.not_eq_true, ← Decidable.imp_iff_not_or]

/-- What holds of the measurement record in a sample event before standstill is settled: standstill may outlive qualification there. -/
structure Msu.Settling (m : Msu) : Prop where
  ch1 : m.ch1.lawful = true
  ch2 : m.ch2.lawful = true
  qualified : m.qualified = true → m.bothGood = true
  timer : m.standstill = true → m.standstillTimer = none
  disagree : m.speedDisagree ≤ 3

/-- The law of the Measurement Unit. -/
def MsuLaw (s : State) : Prop := s.msu.lawful = true

theorem Keeps.of_msu {s t : State} (h : t.msu = s.msu) : Keeps MsuLaw s t := ⟨fun law => by rwa [MsuLaw, h]⟩

theorem Contained.keepsMsu {s t : State} (h : Contained s t) : Keeps MsuLaw s t := .of_msu h.msu

theorem Calm.keepsMsu {s t : State} (h : Calm s t) : Keeps MsuLaw s t := .of_msu h.msu

theorem raise_setAttention_msu (c : Cause) (l : Level) (i : Attention) (s : State) : (raise c l (s.setAttention i)).msu = s.msu :=
  (Calm.raise ..).msu

theorem settleValues_settling {s : State} (h : s.msu.lawful = true) (r1 r2 : SensorRead) :
    (settleValues (takeReads r1 r2 s)).msu.Settling := by
  obtain ⟨ch1, ch2, _, standstill, _, disagree⟩ := s.msu.lawful_iff.mp h
  rw [settleValues_msu]
  have supervised (m : Msu) (a : Authority) : (m.supervise a).standstill = m.standstill ∧
      (m.supervise a).standstillTimer = m.standstillTimer ∧ (m.supervise a).speedDisagree = m.speedDisagree ∧
      (m.supervise a).bothGood = m.bothGood := by
    unfold Msu.supervise
    split <;> exact ⟨rfl, rfl, rfl, rfl⟩
  obtain ⟨sameStandstill, sameTimer, sameCount, sameGood⟩ := supervised (s.msu.withReads s.line r1 r2)
    (takeReads r1 r2 s).rco.authority
  constructor
  · rw [Msu.supervise_ch1]
    exact Channel.settleSpeed_lawful (Channel.takeRead_lawful ch1 ..)
  · rw [Msu.supervise_ch2]
    exact Channel.settleSpeed_lawful (Channel.takeRead_lawful ch2 ..)
  · rw [Msu.supervise_qualified, sameGood]
    exact id
  · rw [sameStandstill, sameTimer]
    exact fun still => (standstill still).2
  · rw [sameCount]
    exact disagree

theorem checkRange_settling {s : State} (h : s.msu.Settling) (good1 good2 : Bool) : (checkRange good1 good2 s).msu.Settling := by
  have status (c : Channel) (l : LineConsts) (good : Bool) : (c.testRange l good).status = c.status := by
    obtain ⟨_, tested⟩ := c.testRange_eq l good
    rw [tested]
  have tested : Msu.Settling
      { s.msu with
        ch1 := s.msu.ch1.testRange s.line good1
        ch2 := s.msu.ch2.testRange s.line good2
        outOfRange := rangeFlag s.msu.outOfRange good1 good2 (s.msu.ch1.testRange s.line good1).inRange
          (s.msu.ch2.testRange s.line good2).inRange } :=
    { h with
      ch1 := Channel.testRange_lawful h.ch1 ..
      ch2 := Channel.testRange_lawful h.ch2 ..
      qualified := by simpa only [Msu.bothGood, status] using h.qualified }
  unfold checkRange
  dsimp only
  split
  · rw [raise_setAttention_msu]
    exact tested
  · exact tested

theorem checkPositions_settling {s : State} (h : s.msu.Settling) : (checkPositions s).msu.Settling := by
  unfold checkPositions
  dsimp only
  repeat' split
  · rw [raise_setAttention_msu]
    exact { h with }
  · exact { h with }
  · exact h

theorem checkSpeeds_settling {s : State} (h : s.msu.Settling) (recomputed : Bool) : (checkSpeeds recomputed s).msu.Settling := by
  have counted : Msu.Settling { s.msu with speedDisagree := satInc 3 s.msu.speedDisagree } :=
    { h with disagree := satInc_le h.disagree }
  unfold checkSpeeds
  dsimp only
  repeat' split
  · rw [raise_setAttention_msu]
    exact counted
  · exact counted
  · exact { h with disagree := Nat.zero_le 3 }
  · exact h

theorem loseStandstill_msu (s : State) : (loseStandstill s).msu = { s.msu with standstill := false } :=
  (Calm.after (Calm.foldl (.withdrawGiven _) _ _) (.after (.lossAtBks _) (.lossAtRco _))).msu

theorem settleStandstill_lawful {s : State} (h : s.msu.Settling) : (settleStandstill s).msu.lawful = true := by
  rw [Msu.lawful_iff]
  unfold settleStandstill
  split
  · rename_i still
    have qualified : s.msu.qualified = true := by
      simp only [Msu.still, Bool.and_eq_true] at still
      exact still.1.1
    split
    · rename_i moving
      simp only [Bool.and_eq_true, Bool.not_eq_true'] at moving
      exact ⟨h.ch1, h.ch2, h.qualified, by simp [moving.1], fun _ => qualified, h.disagree⟩
    · exact ⟨h.ch1, h.ch2, h.qualified, fun standstill => ⟨qualified, h.timer standstill⟩, fun _ => qualified, h.disagree⟩
  · dsimp only
    split
    · rw [loseStandstill_msu]
      exact ⟨h.ch1, h.ch2, h.qualified, by simp, by simp, h.disagree⟩
    · rename_i moving
      exact ⟨h.ch1, h.ch2, h.qualified, fun standstill => absurd standstill moving, by simp, h.disagree⟩

theorem superviseLine_msu (s : State) : (superviseLine s).msu = s.msu := by
  have ceiling (t : State) : (takeCeiling t).msu = t.msu := by unfold takeCeiling; split <;> rfl
  have asked (l : Level) (t : State) : (takeAsked l t).msu = t.msu := by
    unfold takeAsked
    dsimp only
    split
    · exact (Calm.raise ..).msu
    · exact (Calm.setDemand ..).msu
  unfold superviseLine
  dsimp only
  split
  · rw [(Calm.raise ..).msu, asked, ceiling]
    rfl
  · rw [asked, ceiling]
    rfl

theorem sampleEvent_keepsMsu (r1 r2 : SensorRead) (s : State) : Keeps MsuLaw s (sampleEvent r1 r2 s) := .mk fun law => by
  unfold MsuLaw at law ⊢
  by_cases timed : s.msu.sampleTimer.isSome = true
  · rw [sampleEvent_of_timed r1 r2 timed, superviseLine_msu, (Calm.retestArrival _).msu]
    exact settleStandstill_lawful
      (checkSpeeds_settling (checkPositions_settling (checkRange_settling (settleValues_settling (s := s.restartSample) law r1 r2) ..)) _)
  · rwa [sampleEvent_of_untimed r1 r2 timed]

theorem standstillExpiry_keepsMsu (s : State) : Keeps MsuLaw s (standstillExpiry s) := .mk fun law => by
  unfold MsuLaw at law ⊢
  unfold standstillExpiry
  split
  · rename_i running
    have confirmed : (confirmStandstill s).msu = { s.msu with standstill := true, standstillTimer := none } :=
      (Calm.after (.cancelCheck _) (.standstillAtRco _)).msu
    rw [confirmed]
    obtain ⟨ch1, ch2, qualified, _, timed, disagree⟩ := s.msu.lawful_iff.mp law
    exact (Msu.lawful_iff _).mpr ⟨ch1, ch2, qualified, fun _ => ⟨timed running, rfl⟩, by simp, disagree⟩
  · exact law

theorem datumEvent_keepsMsu (n : Fin 4) (s : State) : Keeps MsuLaw s (datumEvent n s) := .mk fun law => by
  unfold MsuLaw at law ⊢
  obtain ⟨ch1, ch2, qualified, standstill, timed, disagree⟩ := s.msu.lawful_iff.mp law
  obtain ⟨lawful1, status1⟩ := Channel.judgeDatum_lawful ch1 (s.datumEntry n).position s.line.datumTolerance
  obtain ⟨lawful2, status2⟩ := Channel.judgeDatum_lawful ch2 (s.datumEntry n).position s.line.datumTolerance
  have judged (d : Vector DatumRecord 4) : Msu.lawful
      { s.msu with
        ch1 := (s.msu.ch1.judgeDatum (s.datumEntry n).position s.line.datumTolerance).1
        ch2 := (s.msu.ch2.judgeDatum (s.datumEntry n).position s.line.datumTolerance).1
        datums := d } = true :=
    (Msu.lawful_iff _).mpr
      ⟨lawful1, lawful2, by simpa only [Msu.bothGood, status1, status2] using qualified, standstill, timed, disagree⟩
  unfold datumEvent
  dsimp only
  repeat' split
  · rw [raise_setAttention_msu]
    exact judged _
  · exact judged _
  · exact law

theorem calibrationChange_keepsMsu (first second : Bool) (s : State) : Keeps MsuLaw s (calibrationChange first second s) := .mk fun law => by
  unfold MsuLaw at law ⊢
  obtain ⟨ch1, ch2, _, _, _, disagree⟩ := s.msu.lawful_iff.mp law
  have lawful1 : (if first then s.msu.ch1.recalibrate else s.msu.ch1).lawful = true := by
    split
    · exact Channel.recalibrate_lawful ch1
    · exact ch1
  have lawful2 : (if second then s.msu.ch2.recalibrate else s.msu.ch2).lawful = true := by
    split
    · exact Channel.recalibrate_lawful ch2
    · exact ch2
  unfold calibrationChange
  split
  · dsimp only
    split
    · rw [loseStandstill_msu]
      exact (Msu.lawful_iff _).mpr ⟨lawful1, lawful2, by simp, by simp, by simp, disagree⟩
    · rename_i moving
      exact (Msu.lawful_iff _).mpr ⟨lawful1, lawful2, by simp, fun still => absurd still moving, by simp, disagree⟩
  · exact law

theorem evaluateLoads_msu (s : State) : (allCars.foldl evaluateLoad s).msu = s.msu := (Contained.foldl .evaluateLoad _ s).msu

theorem acceptWrite_keepsMsu (id : TableId) (index : Nat) (bytes : List Byte) (s : State) :
    Keeps MsuLaw s (acceptWrite id index bytes s) := .mk fun law => by
  unfold MsuLaw at law ⊢
  unfold acceptWrite writeEffects
  split
  · rw [evaluateLoads_msu]
    exact (calibrationChange_keepsMsu ..).law law
  · exact law
  · exact law

theorem keepsMsu_requestRules : RequestRules (Keeps MsuLaw) where
  refl := .refl
  trans := .trans
  driveReport _ _ := (Contained.takeDriveReport ..).keepsMsu
  carReport _ _ _ _ _ _ := (Contained.takeCarReport ..).keepsMsu
  weigh _ _ _ := (Contained.takeWeigh ..).keepsMsu
  validate _ _ _ := (Contained.decideValidate ..).keepsMsu
  passage _ _ _ := (Contained.decidePassage ..).keepsMsu
  gateReport _ _ _ _ := (Contained.decideGateReport ..).keepsMsu
  requestStop _ _ _ := (Calm.requestStop ..).keepsMsu
  validation _ := .of_msu rfl
  maintenance _ _ := .of_msu rfl
  standby _ _ := (Calm.enterStandby ..).keepsMsu
  service _ _ _ := (Calm.enterService _).keepsMsu
  cancel _ _ := .of_msu rfl
  holdRunning _ _ := (Calm.holdRunning _).keepsMsu
  holdClosing _ _ _ := (Calm.holdClosing _).keepsMsu
  jogStart _ _ _ _ _ _ := .of_msu (Calm.startDeparture ..).msu
  jogHold _ := .of_msu rfl
  stop _ := (Calm.raise ..).keepsMsu
  brakeReset _ _ := (Calm.takeBrakeReset _).keepsMsu
  evacuate _ _ _ _ _ _ := (Calm.orderRelease ..).keepsMsu
  evacuateEnd _ _ _ _ := (Calm.withdraw ..).keepsMsu
  mask _ _ := (Contained.takeOut_masked ..).keepsMsu
  unmask _ _ := .of_msu rfl
  tally _ _ _ := .of_msu (Contained.afterTally ..).msu
  buffers _ _ := .of_msu rfl
  write _ _ _ _ _ _ _ := acceptWrite_keepsMsu ..
  commit _ _ := .of_msu rfl
  clear i s := .of_msu (SameBlocks.clearEffect i s).msu
  notClear i s := .of_msu (SameBlocks.clearEffect i s).msu

theorem completeCommit_msu (readBack : Option Tables) (s : State) : (completeCommit readBack s).msu = s.msu := by
  unfold completeCommit
  dsimp only
  repeat' split
  all_goals rfl

theorem endLoad_keepsMsu (active risen : Bool) (s : State) : Keeps MsuLaw s (endLoad active risen s) := .mk fun law => by
  unfold MsuLaw at law ⊢
  rw [endLoad_eq, evaluateLoads_msu]
  split
  · rw [(Calm.raiseEbFault _).msu]
    exact law
  · exact law

theorem keepsMsu_eventRules : EventRules (Keeps MsuLaw) where
  requests := keepsMsu_requestRules
  commit _ _ := .of_msu (completeCommit_msu ..)
  sample := sampleEvent_keepsMsu
  standstill := standstillExpiry_keepsMsu
  escalation _ := (Calm.escalationExpiry _).keepsMsu
  datum := datumEvent_keepsMsu
  estopFall _ := .of_msu rfl
  estopRise _ := .of_msu rfl
  estopQualify _ := (Contained.estopQualify _).keepsMsu
  eblRises _ := (Contained.eblRises _).keepsMsu
  eblFalls _ := (Contained.eblFalls _).keepsMsu
  stepTimeout _ _ := (Calm.stepTimeout ..).keepsMsu
  ebSettle _ := (Calm.ebSettleEnd _).keepsMsu
  sbConfirm _ := (Calm.sbConfirmEnd _).keepsMsu
  stopDelay _ := (Calm.stopDelayEnd _).keepsMsu
  ebDrop _ := (Calm.ebDropEnd _).keepsMsu
  dwell _ := (Calm.dwellExpiry _).keepsMsu
  jog _ := (Calm.jogExpiry _).keepsMsu
  ack _ _ := (Calm.ackExpiry ..).keepsMsu
  close _ _ := (Calm.closeExpiry ..).keepsMsu
  reservation _ _ := (Calm.reservationExpiry ..).keepsMsu
  exitQuiet _ _ := (Calm.exitQuietExpiry ..).keepsMsu
  linkCause _ _ := (Contained.linkCause ..).keepsMsu
  stationLost _ _ := (Calm.stationLost ..).keepsMsu
  departs _ _ _ _ _ := .of_msu (Calm.startDeparture ..).msu
  waits _ := .of_msu rfl
  endLoad := endLoad_keepsMsu
  estopPin _ _ := .of_msu rfl
  eblPin _ _ := .of_msu rfl

theorem elapse_keepsMsu (s : State) : Keeps MsuLaw s s.elapse := .mk fun law => by
  unfold MsuLaw at law ⊢
  obtain ⟨ch1, ch2, qualified, standstill, timed, disagree⟩ := s.msu.lawful_iff.mp law
  refine (Msu.lawful_iff _).mpr ⟨ch1, ch2, qualified, fun still => ⟨(standstill still).1, ?_⟩, fun running => timed ?_, disagree⟩
  · simp [State.elapse, Timer.tick, (standstill still).2]
  · simpa [State.elapse, Timer.tick] using running

/-- Settles O10: a channel stays lawful through every read, and the settling of standstill at the end of a sample event restores what
a lost qualification broke. -/
theorem stepKeepsMeasurementLaw : Obligations.StepKeepsMeasurementLaw := fun _ _ law next =>
  (keepsMsu_eventRules.step (fun same => .of_msu same.msu) (fun _ _ _ _ _ => ⟨fun _ => (by decide : Msu.reset.lawful = true)⟩)
    elapse_keepsMsu next).law law

end Sys2Proof.Machine
end

section
/-! What the Run Coordinator's operations leave of the Brake Sequencer, and what the Brake Sequencer's own operations make of it. -/

namespace Sys2Proof.Machine

/-! ### The Run Coordinator leaves the Brake Sequencer -/

@[simp] theorem setAuthority_bks (a : Authority) (s : State) : (setAuthority a s).bks = s.bks := by
  unfold setAuthority
  dsimp only
  split <;> simp

@[simp] theorem clearAuthority_bks (s : State) : (clearAuthority s).bks = s.bks := setAuthority_bks ..

@[simp] theorem withdrawAuthority_bks (s : State) : (withdrawAuthority s).bks = s.bks := by
  unfold withdrawAuthority
  split <;> simp

@[simp] theorem setRunState_bks (r : RunState) (s : State) : (setRunState r s).bks = s.bks := by
  unfold setRunState
  split <;> rfl

@[simp] theorem startDwell_bks (s : State) : (startDwell s).bks = s.bks := rfl

@[simp] theorem askReleases_bks (s : State) : (askReleases s).bks = s.bks := by
  unfold askReleases
  split
  · exact foldl_bks (fun s c => by split <;> simp) _ s
  · rfl

@[simp] theorem returnTrip_bks (s : State) : (returnTrip s).bks = s.bks := by
  unfold returnTrip
  repeat' split
  all_goals rfl

@[simp] theorem beginClosing_bks (s : State) : (beginClosing s).bks = s.bks := by
  unfold beginClosing
  rw [foldl_bks (by simp)]
  simp

@[simp] theorem takeTrip_bks (t : Trip) (rest : List Trip) (s : State) : (takeTrip t rest s).bks = s.bks := by
  unfold takeTrip
  simp

@[simp] theorem takeFrom_bks (q : List Trip) (s : State) : (takeFrom q s).bks = s.bks := by
  induction q with
  | nil => rfl
  | cons t rest ih =>
    unfold takeFrom
    split
    · exact ih
    · simp

@[simp] theorem takeHead_bks (s : State) : (takeHead s).bks = s.bks := by
  unfold takeHead
  split <;> simp

@[simp] theorem changeMode_bks (m : LineMode) (c : ModeCause) (l : List Trip) (s : State) : (changeMode m c l s).bks = s.bks := rfl

@[simp] theorem enterStandby_bks (c : ModeCause) (s : State) : (enterStandby c s).bks = s.bks := by
  unfold enterStandby
  dsimp only
  rw [foldl_bks (by simp)]
  simp

@[simp] theorem enterService_bks (s : State) : (enterService s).bks = s.bks := by simp [enterService]

@[simp] theorem settleAuthority_bks (b : Bool) (s : State) : (settleAuthority b s).bks = s.bks := by cases b <;> simp [settleAuthority]

@[simp] theorem settleWindow_bks (s : State) : (settleWindow s).bks = s.bks := by
  unfold settleWindow
  split <;> simp

@[simp] theorem settleTrip_bks (s : State) : (settleTrip s).bks = s.bks := by
  unfold settleTrip
  cases s.rco.tripInHand with
  | none => rfl
  | some t =>
    dsimp only
    split <;> simp

@[simp] theorem settleRecovery_bks (b : Bool) (s : State) : (settleRecovery b s).bks = s.bks := by
  unfold settleRecovery
  split <;> simp

@[simp] theorem settleEffects_bks (s : State) : (settleEffects s).bks = s.bks := by
  unfold settleEffects
  repeat' split
  all_goals simp

/-- Settling the line leaves the Brake Sequencer (R61). -/
@[simp] theorem settle_bks (b : Bool) (s : State) : (settle b s).bks = s.bks := by simp [settle]

@[simp] theorem retarget_bks (t : Trip) (s : State) : (retarget t s).bks = s.bks := by simp [retarget]

@[simp] theorem requestStop_bks (k : Fin 6) (o : Origin) (s : State) : (requestStop k o s).1.bks = s.bks := by
  unfold requestStop joinTrip insertTrip
  dsimp only
  repeat' split
  all_goals simp

@[simp] theorem holdRunning_bks (s : State) : (holdRunning s).1.bks = s.bks := by
  unfold holdRunning
  repeat' split
  all_goals simp

@[simp] theorem holdClosing_bks (s : State) : (holdClosing s).bks = s.bks := by
  unfold holdClosing
  dsimp only
  split <;> simp

@[simp] theorem dwellExpiry_bks (s : State) : (dwellExpiry s).bks = s.bks := by
  unfold dwellExpiry
  split <;> simp

@[simp] theorem countAbort_bks (s : State) : (countAbort s).bks = s.bks := by
  unfold countAbort
  dsimp only
  split <;> simp

@[simp] theorem abortAtRco_bks (s : State) : (abortAtRco s).bks = s.bks := by
  unfold abortAtRco
  dsimp only
  split <;> simp

@[simp] theorem lossAtRco_bks (s : State) : (lossAtRco s).bks = s.bks := by
  unfold lossAtRco
  repeat' split
  all_goals simp

@[simp] theorem ackExpiry_bks (c : Car) (s : State) : (ackExpiry c s).bks = s.bks := by
  unfold ackExpiry
  split <;> simp

@[simp] theorem closeExpiry_bks (c : Car) (s : State) : (closeExpiry c s).bks = s.bks := by
  unfold closeExpiry
  split <;> simp

@[simp] theorem reservationExpiry_bks (g : Fin 16) (s : State) : (reservationExpiry g s).bks = s.bks := by
  unfold reservationExpiry
  split <;> simp

@[simp] theorem exitQuietExpiry_bks (p : Fin 8) (s : State) : (exitQuietExpiry p s).bks = s.bks := by
  unfold exitQuietExpiry
  split <;> simp

/-! ### The Admission Unit's and the Door Unit's decisions leave the Run Coordinator and the Brake Sequencer -/

@[simp] theorem decideValidate_rco (x : Sta) (g : Fin 16) (s : State) : (decideValidate x g s).1.rco = s.rco := by
  unfold decideValidate
  dsimp only
  repeat' split
  all_goals simp

@[simp] theorem decideValidate_bks (x : Sta) (g : Fin 16) (s : State) : (decideValidate x g s).1.bks = s.bks := by
  unfold decideValidate
  dsimp only
  repeat' split
  all_goals simp

@[simp] theorem passGate_rco (g : Fin 16) (s : State) : (passGate g s).1.rco = s.rco := by
  unfold passGate
  split <;> simp [countUnreserved]

@[simp] theorem passGate_bks (g : Fin 16) (s : State) : (passGate g s).1.bks = s.bks := by
  unfold passGate
  split <;> simp [countUnreserved]

@[simp] theorem decidePassage_rco (x : Sta) (g : Fin 16) (s : State) : (decidePassage x g s).1.rco = s.rco := by
  unfold decidePassage
  dsimp only
  repeat' split
  all_goals simp [countUnattributed]

@[simp] theorem decidePassage_bks (x : Sta) (g : Fin 16) (s : State) : (decidePassage x g s).1.bks = s.bks := by
  unfold decidePassage
  dsimp only
  repeat' split
  all_goals simp [countUnattributed]

@[simp] theorem decideGateReport_rco (x : Sta) (g : Fin 16) (fault : Byte) (s : State) : (decideGateReport x g fault s).1.rco = s.rco := by
  unfold decideGateReport
  dsimp only
  repeat' split
  all_goals simp

@[simp] theorem decideGateReport_bks (x : Sta) (g : Fin 16) (fault : Byte) (s : State) : (decideGateReport x g fault s).1.bks = s.bks := by
  unfold decideGateReport
  dsimp only
  repeat' split
  all_goals simp

@[simp] theorem evaluateLoads_rco (s : State) : (allCars.foldl evaluateLoad s).rco = s.rco := foldl_rco (by simp) _ s

@[simp] theorem evaluateLoads_bks (s : State) : (allCars.foldl evaluateLoad s).bks = s.bks := foldl_bks (by simp) _ s

/-! ### The Brake Sequencer's own operations -/

@[simp] theorem assertSb_rco (s : State) : (assertSb s).rco = s.rco := by
  unfold assertSb
  split <;> rfl

/-- SB-DMD asserted; a demand newly made is not yet confirmed (R103). -/
theorem assertSb_bks (s : State) :
    (assertSb s).bks = { s.bks with sbDmd := true, sbConfirmed := s.bks.sbDmd && s.bks.sbConfirmed } := by
  unfold assertSb
  split
  · rename_i asserted
    simp only [asserted, Bool.true_and]
    rw [← asserted]
  · rename_i released
    simp [released]

@[simp] theorem setStepTimer_bks (t : Option RunningStep) (s : State) : (setStepTimer t s).bks = { s.bks with stepTimer := t } := rfl
@[simp] theorem setStepTimer_rco (t : Option RunningStep) (s : State) : (setStepTimer t s).rco = s.rco := rfl
@[simp] theorem startStep_bks (w : StepTimer) (n : Nat) (s : State) :
    (startStep w n s).bks = { s.bks with stepTimer := some { which := w, remaining := n } } := rfl
@[simp] theorem startStep_rco (w : StepTimer) (n : Nat) (s : State) : (startStep w n s).rco = s.rco := rfl
@[simp] theorem setSlot_bks (x : Slot) (s : State) : (setSlot x s).bks = { s.bks with slot := x } := rfl
@[simp] theorem setSlot_rco (x : Slot) (s : State) : (setSlot x s).rco = s.rco := rfl
@[simp] theorem dropEbHold_bks (s : State) : (dropEbHold s).bks = { s.bks with ebHold := false, ebProved := false } := rfl
@[simp] theorem dropEbHold_rco (s : State) : (dropEbHold s).rco = s.rco := rfl
@[simp] theorem releaseSb_bks (s : State) : (releaseSb s).bks = { s.bks with sbDmd := false, sbConfirmed := false } := rfl
@[simp] theorem releaseSb_rco (s : State) : (releaseSb s).rco = s.rco := rfl

@[simp] theorem takeSnapshot_bks (s : State) : (takeSnapshot s).bks = s.bks := rfl
@[simp] theorem takeSnapshot_rco (s : State) : (takeSnapshot s).rco = s.rco := rfl

/-- The Brake Sequencer once step S2 has completed (R120). -/
def Bks.stopped (b : Bks) : Bks := { b with lastStop := stopOutcome b.faults, faults := [], slot := .idle, stepTimer := none }

@[simp] theorem completeStop_bks (s : State) : (completeStop s).bks = s.bks.stopped := by
  unfold completeStop
  rw [settle_bks]
  rfl

theorem awaitDrop_bks (s : State) :
    (awaitDrop s).bks =
      if s.bks.eblRisen then { s.bks with stepTimer := some { which := .ebDrop, remaining := Config.ebDropConfirm } }
      else s.bks.stopped := by
  unfold awaitDrop
  split <;> simp

/-- An aborted departure leaves both rope brakes on and the slot idle (R118). -/
theorem abortDeparture_bks (c : AbortCause) (s : State) :
    (abortDeparture c s).bks =
      match s.bks.slot with
      | .departure step =>
        { s.bks with
          sbDmd := true, sbConfirmed := s.bks.sbDmd && s.bks.sbConfirmed, ebHold := false, ebProved := false
          stepTimer := none, lastDeparture := .aborted c step, slot := .idle }
      | _ => s.bks := by
  unfold abortDeparture
  rcases slot : s.bks.slot with _ | step | step
  · rfl
  · simp [assertSb_bks]
  · rfl

@[simp] theorem startCheckFor_rco (l : Level) (s : State) : (startCheckFor l s).rco = s.rco := by
  unfold startCheckFor
  split <;> rfl

@[simp] theorem escalateTo_rco (l : Level) (s : State) : (escalateTo l s).rco = s.rco := by
  unfold escalateTo
  repeat' split
  all_goals simp [cancelCheck]

/-- A check changes the escalation record alone (R107). -/
theorem startCheckFor_bks (l : Level) (s : State) : ∃ esc, (startCheckFor l s).bks = { s.bks with esc := esc } := by
  unfold startCheckFor
  split <;> exact ⟨_, rfl⟩

theorem escalateTo_bks (l : Level) (s : State) : ∃ esc, (escalateTo l s).bks = { s.bks with esc := esc } := by
  unfold escalateTo
  split
  · exact ⟨_, rfl⟩
  split
  · exact ⟨_, rfl⟩
  · exact startCheckFor_bks l s

theorem lossAtBks_bks (s : State) : ∃ esc, (lossAtBks s).bks = { s.bks with esc := esc } := by
  unfold lossAtBks
  split
  · exact startCheckFor_bks _ s
  · exact ⟨_, rfl⟩

@[simp] theorem lossAtBks_rco (s : State) : (lossAtBks s).rco = s.rco := by
  unfold lossAtBks
  split <;> simp

theorem setDemand_bks (d : Demand) (s : State) : (setDemand d s).bks = { s.bks with demand := d } := by
  unfold setDemand
  split <;> simp

theorem foldl_withdrawGiven_bks (w : WithdrawalCause) (l : List Car) (s : State) : (l.foldl (withdrawGiven w) s).bks = s.bks :=
  foldl_bks (by simp) l s

theorem foldl_withdrawGiven_rco (w : WithdrawalCause) (l : List Car) (s : State) : (l.foldl (withdrawGiven w) s).rco = s.rco :=
  foldl_rco (by simp) l s

/-- The loss of standstill changes the escalation record alone (R109). -/
theorem loseStandstill_bks (s : State) : ∃ esc, (loseStandstill s).bks = { s.bks with esc := esc } := by
  unfold loseStandstill
  rw [foldl_withdrawGiven_bks]
  obtain ⟨esc, h⟩ := lossAtBks_bks (lossAtRco (s.withMsu { s.msu with standstill := false }))
  exact ⟨esc, by simpa using h⟩

theorem loseStandstill_rco (s : State) :
    (loseStandstill s).rco = (lossAtRco (s.withMsu { s.msu with standstill := false })).rco := by
  unfold loseStandstill
  rw [foldl_withdrawGiven_rco, lossAtBks_rco]

/-! ### Operations that energize nothing (R100, R104) -/

/-- The demand record stays, no output is energized that was not, the service brake stays demanded, and no departure begins; the line
mode does not become LOCKED. -/
structure Lowers (s t : State) : Prop where
  demand : t.bks.demand = s.bks.demand
  hold : t.bks.ebHold = true → s.bks.ebHold = true
  asserted : s.bks.sbDmd = true → t.bks.sbDmd = true
  departure : t.bks.slot.isDeparture = true → s.bks.slot.isDeparture = true

theorem Lowers.refl (s : State) : Lowers s s := ⟨rfl, id, id, id⟩

theorem Lowers.trans {s t u : State} (a : Lowers s t) (b : Lowers t u) : Lowers s u :=
  ⟨b.demand.trans a.demand, fun h => a.hold (b.hold h), fun h => b.asserted (a.asserted h), fun h => a.departure (b.departure h)⟩

theorem Lowers.after {s t u : State} (b : Lowers t u) (a : Lowers s t) : Lowers s u := a.trans b

theorem Lowers.of_bks {s t : State} (h : t.bks = s.bks) : Lowers s t := ⟨by rw [h], by rw [h]; exact id, by rw [h]; exact id, by rw [h]; exact id⟩

theorem Lowers.ite {s a b : State} {c : Prop} [Decidable c] (ha : c → Lowers s a) (hb : ¬c → Lowers s b) :
    Lowers s (if c then a else b) := by
  split
  · exact ha ‹_›
  · exact hb ‹_›

theorem Lowers.assertSb (s : State) : Lowers s (assertSb s) := by
  constructor <;> simp [assertSb_bks]

theorem Lowers.setStepTimer (t : Option RunningStep) (s : State) : Lowers s (setStepTimer t s) := ⟨rfl, id, id, id⟩

theorem Lowers.startStep (w : StepTimer) (n : Nat) (s : State) : Lowers s (startStep w n s) := ⟨rfl, id, id, id⟩

theorem Lowers.dropEbHold (s : State) : Lowers s (dropEbHold s) := ⟨rfl, by simp, id, id⟩

theorem Lowers.completeStop (s : State) : Lowers s (completeStop s) := by
  constructor <;> simp [Bks.stopped, Slot.isDeparture]

theorem Lowers.awaitDrop (s : State) : Lowers s (awaitDrop s) := .ite (fun _ => .startStep ..) fun _ => .completeStop s

theorem Lowers.deenergizeEb (s : State) : Lowers s (deenergizeEb s) :=
  .ite (fun _ => .ite (fun _ => .after (.awaitDrop _) (.after (.setStepTimer ..) (.dropEbHold s))) fun _ => .dropEbHold s)
    fun _ => .dropEbHold s

theorem Lowers.stopSlot (x : StopStep) (s : State) : Lowers s (setSlot (.stop x) s) := ⟨rfl, id, id, by simp [Slot.isDeparture]⟩

theorem Lowers.startS2 (s : State) : Lowers s (startS2 s) := by
  unfold Machine.startS2
  have begun := Lowers.after (.setStepTimer none _) (.stopSlot .s2 s)
  exact .ite (fun _ => .ite (fun _ => .after (.deenergizeEb _) begun) fun _ => .after (.startStep ..) begun) fun _ =>
    .after (.awaitDrop _) begun

theorem Lowers.startStop (s : State) : Lowers s (startStop s) := by
  unfold Machine.startStop
  have begun : Lowers s (s.withBks { s.bks with slot := .stop .s1, faults := [], stepTimer := none }) :=
    ⟨rfl, id, id, by simp [Slot.isDeparture]⟩
  have asserted := Lowers.after (.assertSb _) begun
  exact .ite (fun _ => .after (.startS2 _) asserted) fun _ => .after (.startStep ..) asserted

theorem Lowers.setRunState (r : RunState) (s : State) : Lowers s (setRunState r s) := .of_bks (by simp)

theorem Lowers.beginStop (s : State) : Lowers s (beginStop s) := by
  unfold Machine.beginStop
  exact .after (.startStop _) (.trans (.setRunState .stopping s) (.of_bks rfl))

theorem Lowers.abortDeparture (c : AbortCause) (s : State) : Lowers s (abortDeparture c s) := by
  rcases slot : s.bks.slot with _ | step | step
  · exact .of_bks (by rw [abortDeparture_bks, slot])
  · constructor <;> rw [abortDeparture_bks, slot] <;> simp [Slot.isDeparture]
  · exact .of_bks (by rw [abortDeparture_bks, slot])

theorem Lowers.of_esc {s t : State} (h : ∃ esc, t.bks = { s.bks with esc := esc }) : Lowers s t := by
  obtain ⟨esc, same⟩ := h
  constructor <;> rw [same] <;> exact id

theorem Lowers.arrest (s : State) : Lowers s (arrest s) := by
  unfold Machine.arrest
  cases s.rco.runState with
  | running => exact .ite (fun _ => .beginStop s) fun _ => .of_bks (by simp)
  | atStop => exact .ite (fun _ => .refl s) fun _ => .of_bks (by simp)
  | offStop => exact .ite (fun _ => .refl s) fun _ => .of_bks (by simp)
  | closing => exact .ite (fun _ => .refl s) fun _ => .of_bks (by simp)
  | departing => exact .refl s
  | stopping => exact .refl s
  | arrested => exact .refl s

theorem Lowers.reachService (c : AbortCause) (s : State) : Lowers s (reachService c s) := by
  unfold Machine.reachService
  have withdrawn := Lowers.trans (.assertSb s) (.of_bks (withdrawAuthority_bks (Machine.assertSb s)))
  have closed := (withdrawn.trans (.arrest _)).trans (.of_bks (closeAll_bks .latch _))
  exact (closed.trans (.abortDeparture c _)).trans (.of_bks (State.setAttention_bks _ .brakeLatched))

/-- The effects of a rise of the latched level energize nothing (R100, R107). -/
theorem Lowers.latchRise (before : Level) (c : AbortCause) (s : State) : Lowers s (latchRise before c s) := by
  unfold Machine.latchRise
  refine .ite (fun _ => .refl s) fun _ => .after (.of_esc (escalateTo_bks ..)) ?_
  have reached := Lowers.ite (s := s) (c := before.rank < 2 ∧ 2 ≤ s.bks.demand.latched.rank) (fun _ => .reachService c s)
    fun _ => .refl s
  have dropped := Lowers.ite (c := before.rank < 3 ∧ 3 ≤ s.bks.demand.latched.rank)
    (fun _ => .after (.deenergizeEb _) reached) fun _ => reached
  exact .ite (fun _ => .after (.of_bks (by simp)) dropped) fun _ => dropped

theorem raiseAs_demand (a : AbortCause) (c : Cause) (l : Level) (s : State) :
    (raiseAs a c l s).bks.demand = s.bks.demand.add c l := by
  unfold raiseAs
  rw [(Lowers.latchRise ..).demand, setDemand_demand]

end Sys2Proof.Machine
end

section
/-! The events of the part made of the operations of its blocks, for a law that turns on the run record, the brakes, the doors, the gates,
the tables and standstill alone. -/

namespace Sys2Proof.Machine

/-! ### What the laws of the run, the brakes, the doors and the gates turn on -/

/-- What those laws read is the same: the tables, standstill, the doors, the gates, the run record but for the fields that no law reads, and
the brakes but for the escalation, ESTOP and the level of EBL. -/
structure SameLaw (s t : State) : Prop where
  tables : t.cfs.tables = s.cfs.tables
  standstill : t.msu.standstill = s.msu.standstill
  dou : t.dou = s.dou
  adu : t.adu = s.adu
  rco : ∃ report failing jog dwell elapsed ceiling, t.rco =
    { s.rco with
      driveReport := report, firstFailing := failing, jogTimer := jog, dwellTimer := dwell, dwellElapsed := elapsed
      authority := { s.rco.authority with ceiling := ceiling } }
  bks : ∃ esc estop risen, t.bks = { s.bks with esc := esc, estop := estop, eblRisen := risen }

theorem SameBlocks.sameLaw {s t : State} (h : SameBlocks s t) : SameLaw s t :=
  ⟨by rw [h.cfs], by rw [h.msu], h.dou, h.adu, ⟨_, _, _, _, _, _, h.rco⟩, ⟨_, _, _, h.bks⟩⟩

/-- An update of what no law reads. -/
theorem SameLaw.of_rfl {s t : State} (tables : t.cfs.tables = s.cfs.tables := by rfl)
    (standstill : t.msu.standstill = s.msu.standstill := by rfl) (dou : t.dou = s.dou := by rfl) (adu : t.adu = s.adu := by rfl)
    (rco : t.rco = s.rco := by rfl) (bks : t.bks = s.bks := by rfl) : SameLaw s t :=
  ⟨tables, standstill, dou, adu, ⟨_, _, _, _, _, _, rco⟩, ⟨_, _, _, bks⟩⟩

/-! ### The operations of which the events are made -/

/-- What the operations of the blocks keep, for a law of the run, the brakes, the doors and the gates. -/
structure LawRules (P : State → Prop) : Prop where
  blind : ∀ {s t}, SameLaw s t → P s → P t
  raise : ∀ a c l s, l.brakes = true → Keeps P s (raiseAs a c l s)
  asked : ∀ l s, Keeps P s (takeAsked l s)
  lose : ∀ s, Keeps P s (loseStandstill s)
  confirm : ∀ s, Keeps P s (confirmStandstill s)
  arrive : ∀ s, s.rco.runState = .running → Keeps P s (beginStop s)
  abort : ∀ c s, Keeps P s (abortDeparture c s)
  drive : ∀ r s, Keeps P s (driveStep r (followSb r.sb s))
  report : ∀ c door token rail fault s,
    Keeps P s (doorsWhileGranted c (judgeToken c token (takeFields c door token rail fault s)))
  testD1 : ∀ s, Keeps P s (testD1 s)
  lifts : ∀ risen s, s.bks.ebHold = true → s.bks.slot = .departure .d2 →
    Keeps P s (startStep .ebSettle Config.ebSettle (s.withBks { s.bks with eblRisen := risen, ebProved := true }))
  drops : ∀ s, s.bks.slot = .stop .s2 → Keeps P s (completeStop s)
  timer : ∀ s, Keeps P s (setStepTimer none s)
  ebSettle : ∀ s, Keeps P s (ebSettleEnd s)
  sbConfirm : ∀ s, Keeps P s (sbConfirmEnd s)
  deenergize : ∀ s, Keeps P s (deenergizeEb s)
  ebDrop : ∀ s, Keeps P s (ebDropEnd s)
  takeHead : ∀ s, Keeps P s (takeHead s)
  jog : ∀ s, Keeps P s (jogExpiry s)
  ack : ∀ c s, Keeps P s (ackExpiry c s)
  close : ∀ c s, Keeps P s (closeExpiry c s)
  reservation : ∀ g s, Keeps P s (reservationExpiry g s)
  exitQuiet : ∀ p s, Keeps P s (exitQuietExpiry p s)
  stationLost : ∀ x s, Keeps P s (stationLost x s)
  load : ∀ c l s, Keeps P s (s.withLoad c l)
  tally : ∀ c n s, Keeps P s (afterTally c (setTally c n s))
  validate : ∀ x g s, Keeps P s (decideValidate x g s).1
  passage : ∀ x g s, Keeps P s (decidePassage x g s).1
  gateReport : ∀ x g fault s, Keeps P s (decideGateReport x g fault s).1
  mask : ∀ g s, Keeps P s (takeOut g .masked (s.withGate g { s.gate g with masked := true }))
  unmask : ∀ g s, Keeps P s (s.withGate g { s.gate g with masked := false })
  requestStop : ∀ k o s, Keeps P s (requestStop k o s).1
  maintenance : ∀ s, s.rco.mode = .locked ∨ s.rco.mode = .standby → Keeps P s (enterMaintenance s)
  standby : ∀ s, Keeps P s (enterStandby .console s)
  service : ∀ s, s.rco.mode = .standby → s.rco.runState = .atStop → Keeps P s (enterService s)
  cancel : ∀ k s, Keeps P s (s.withRco { s.rco with queue := withoutTarget k s.rco.queue })
  holdRunning : ∀ s, s.mayRetarget = true → Keeps P s (holdRunning s).1
  holdClosing : ∀ s, s.rco.mode.isPublic = true → s.rco.runState = .closing → Keeps P s (holdClosing s)
  jogStart : ∀ k dir s, s.rco.mode = .maintenance → s.rco.runState.atRest = true → s.readiness = none →
    Keeps P s (startDeparture k dir (s.withRco { s.rco with jogRun := true }))
  departs : ∀ t s, s.rco.runState = .closing → s.readiness = none → s.rco.tripInHand = some t →
    Keeps P s (startDeparture t.target s.rco.tripDir (s.withRco { s.rco with firstFailing := none }))
  brakeReset : ∀ s, s.bks.slot = .idle → Keeps P s (takeBrakeReset s)
  evacuate : ∀ c side s, s.msu.standstill = true → s.rco.authority.state = .none → (s.door c).release = .none →
    Keeps P s (orderRelease c side .evacuation s)
  evacuateEnd : ∀ c s, (s.door c).kind = some .evacuation → (s.door c).given = true → Keeps P s (withdraw c .evacuateEnd s)
  tables : ∀ x s, s.rco.mode = .maintenance → s.rco.runState.atRest = true → Keeps P s (s.withCfs x)

namespace LawRules

variable {P : State → Prop} (rules : LawRules P)
include rules

theorem same {s t : State} (h : SameLaw s t) : Keeps P s t := ⟨rules.blind h⟩

theorem withMsu (s : State) (x : Msu) (h : x.standstill = s.msu.standstill) : Keeps P s (s.withMsu x) :=
  rules.same (.of_rfl (standstill := h))

theorem setAttention (s : State) (i : Attention) : Keeps P s (s.setAttention i) := rules.same .of_rfl

theorem raise_setAttention (c : Cause) {l : Level} (i : Attention) (s : State) (hl : l.brakes = true) :
    Keeps P s (Machine.raise c l (s.setAttention i)) :=
  .after (rules.raise _ c l _ hl) (rules.setAttention s i)

theorem raiseEbFault (s : State) : Keeps P s (raiseEbFault s) := rules.raise_setAttention _ _ s rfl

/-! #### Measurement -/

theorem checkRange (good1 good2 : Bool) (s : State) : Keeps P s (checkRange good1 good2 s) :=
  .ite (fun _ => .after (rules.raise_setAttention _ _ _ rfl) (rules.withMsu s _ rfl)) fun _ => rules.withMsu s _ rfl

theorem checkPositions (s : State) : Keeps P s (checkPositions s) :=
  .ite (fun _ => .ite (fun _ => .after (rules.raise_setAttention _ _ _ rfl) (rules.withMsu s _ rfl)) fun _ => rules.withMsu s _ rfl)
    fun _ => .refl s

theorem checkSpeeds (recomputed : Bool) (s : State) : Keeps P s (checkSpeeds recomputed s) :=
  .ite (fun _ => .ite (fun _ =>
      .ite (fun _ => .after (rules.raise_setAttention _ _ _ rfl) (rules.withMsu s _ rfl)) fun _ => rules.withMsu s _ rfl)
    fun _ => rules.withMsu s _ rfl) fun _ => .refl s

theorem settleStandstill (s : State) : Keeps P s (settleStandstill s) :=
  .ite (fun _ => .ite (fun _ => rules.withMsu s _ rfl) fun _ => .refl s) fun _ =>
    .ite (fun _ => .after (rules.lose _) (rules.withMsu s _ rfl)) fun _ => rules.withMsu s _ rfl

theorem takeReads (r1 r2 : SensorRead) (s : State) : Keeps P s (takeReads r1 r2 s) :=
  .ite (fun _ => .after (rules.raise_setAttention _ _ _ rfl) (rules.withMsu s _ rfl)) fun _ => rules.withMsu s _ rfl

theorem settleValues (s : State) : Keeps P s (settleValues s) := by
  refine rules.withMsu s _ ?_
  unfold Msu.supervise
  split <;> rfl

theorem measure (r1 r2 : SensorRead) (s : State) : Keeps P s (measure r1 r2 s) :=
  .after (rules.settleStandstill _) (.after (.after (rules.checkSpeeds ..) (.after (rules.checkPositions _) (rules.checkRange ..)))
    (.after (rules.settleValues _) (rules.takeReads r1 r2 s)))

theorem retestArrival (s : State) : Keeps P s (retestArrival s) := by
  unfold Machine.retestArrival
  refine .ite (fun run => ?_) fun _ => .refl s
  split
  · exact .ite (fun _ => rules.arrive s run.1) fun _ => .refl s
  · exact .refl s

theorem takeCeiling (s : State) : Keeps P s (takeCeiling s) :=
  .ite (fun _ => rules.same ⟨rfl, rfl, rfl, rfl, ⟨_, _, _, _, _, _, rfl⟩, ⟨_, _, _, rfl⟩⟩) fun _ => .refl s

theorem superviseLine (s : State) : Keeps P s (superviseLine s) := by
  unfold Machine.superviseLine
  dsimp only
  have ceiling : Keeps P s (Machine.takeCeiling (s.withSsv s.supervised)) := .after (rules.takeCeiling _) (rules.same .of_rfl)
  exact .ite (fun _ => .after (rules.raise _ _ _ _ rfl) (ceiling.trans (rules.asked ..))) fun _ => ceiling.trans (rules.asked ..)

theorem sampleEvent (r1 r2 : SensorRead) (s : State) : Keeps P s (sampleEvent r1 r2 s) :=
  .ite (fun _ => .after (rules.superviseLine _)
    (.after (rules.retestArrival _) (.after (rules.measure ..) (rules.withMsu s _ rfl)))) fun _ => .refl s

theorem datumEvent (n : Fin 4) (s : State) : Keeps P s (datumEvent n s) :=
  .ite (fun _ => .ite (fun _ => .after (rules.raise_setAttention _ _ _ rfl) (rules.withMsu s _ rfl)) fun _ => rules.withMsu s _ rfl)
    fun _ => .refl s

theorem calibrationChange (first second : Bool) (s : State) : Keeps P s (calibrationChange first second s) :=
  .ite (fun _ => .ite (fun _ => .after (rules.lose _) (rules.withMsu s _ rfl)) fun _ => rules.withMsu s _ rfl) fun _ => .refl s

/-! #### Loads -/

theorem evaluateLoad (s : State) (c : Car) : Keeps P s (evaluateLoad s c) := by
  unfold Machine.evaluateLoad
  dsimp only
  have flagged (b : Bool) (l : LoadRecord) :
      Keeps P s (if b then (s.withLoad c l).setAttention .tallyOver else s.withLoad c l) :=
    .ite (fun _ => .after (rules.setAttention ..) (rules.load ..)) fun _ => rules.load ..
  exact .ite (fun _ => .after (rules.same (SameBlocks.handNotice ..).sameLaw) (flagged ..)) fun _ => flagged ..

theorem evaluateLoads (s : State) : Keeps P s (allCars.foldl Machine.evaluateLoad s) := .foldl rules.evaluateLoad _ s

theorem takeWeigh (c : Car) (w : Option Nat) (s : State) : Keeps P s (takeWeigh c w s) := .after (rules.evaluateLoad ..) (rules.load ..)

theorem acceptWrite (id : TableId) (index : Nat) (bytes : List Byte) (s : State) (mode : s.rco.mode = .maintenance)
    (rest : s.rco.runState.atRest = true) : Keeps P s (acceptWrite id index bytes s) := by
  have effects (old : LineConsts) (t : State) : Keeps P t (writeEffects id old t) := by
    unfold writeEffects
    split
    · exact .after (rules.evaluateLoads _) (rules.calibrationChange ..)
    · exact rules.same .of_rfl
    · exact .refl t
  exact .after (effects ..) (rules.tables _ s mode rest)

/-! #### Brakes -/

theorem linkCause (c : Cause) (s : State) : Keeps P s (linkCause c s) := .ite (fun _ => rules.raise _ _ _ s rfl) fun _ => .refl s

theorem pins (s : State) (esc : Escalation) (estop : Estop) (risen : Bool) :
    Keeps P s (s.withBks { s.bks with esc := esc, estop := estop, eblRisen := risen }) :=
  rules.same ⟨rfl, rfl, rfl, rfl, ⟨_, _, _, _, _, _, rfl⟩, ⟨_, _, _, rfl⟩⟩

theorem escalationExpiry (s : State) : Keeps P s (escalationExpiry s) := by
  unfold Machine.escalationExpiry
  dsimp only
  refine .ite (fun _ => .ite (fun _ => .after (rules.raise_setAttention _ _ _ ?_) (rules.pins s _ _ _)) fun _ => rules.pins s _ _ _)
    fun _ => .refl s
  split <;> rfl

theorem estopQualify (s : State) : Keeps P s (estopQualify s) :=
  .ite (fun _ => .after (rules.abort ..) (.after (rules.raise _ _ _ _ rfl) (.after (rules.setAttention ..) (rules.pins s _ _ _))))
    fun _ => .refl s

theorem eblRises (s : State) : Keeps P s (eblRises s) := by
  unfold Machine.eblRises
  dsimp only
  split
  · exact .after (rules.raiseEbFault _) (rules.pins s _ _ _)
  · rename_i held
    split
    · rename_i awaited
      exact rules.lifts true s (by simpa using held) awaited.1
    · exact rules.pins s _ _ _

theorem eblFalls (s : State) : Keeps P s (eblFalls s) := by
  unfold Machine.eblFalls
  dsimp only
  split
  · exact .ite (fun _ => .after (rules.raiseEbFault _) (rules.pins s _ _ _)) fun _ => rules.pins s _ _ _
  · split
    · rename_i awaited
      exact .after (rules.drops _ awaited.1) (rules.pins s _ _ _)
    · exact rules.pins s _ _ _

/-! #### Reports -/

theorem takeDriveReport (r : DriveReport) (s : State) : Keeps P s (takeDriveReport r s) := by
  have stepped : Keeps P s (driveStep r (followSb r.sb (s.withRco { s.rco with driveReport := some r }))) :=
    .after (rules.drive ..) (rules.same ⟨rfl, rfl, rfl, rfl, ⟨_, _, _, _, _, _, rfl⟩, ⟨_, _, _, rfl⟩⟩)
  exact .ite (fun _ => .after (rules.raise _ _ _ _ rfl) stepped) fun _ => stepped

theorem takeCarReport (c : Car) (door : DoorCond) (token : Option (Fin 16)) (rail : RailCond) (fault : Bool) (s : State) :
    Keeps P s (takeCarReport c door token rail fault s) := by
  have departing (t : State) : Keeps P t (doorsInDeparture c t) := .ite (fun _ => .refl t) fun _ => rules.abort ..
  have opening (x y z : Bool) (t : State) : Keeps P t (dealOpening x y z t) :=
    .ite (fun _ => .ite (fun _ => rules.raise_setAttention _ _ t rfl) fun _ => rules.setAttention ..) fun _ => .refl t
  have faulty (b : Bool) (t : State) : Keeps P t (if b then Machine.raise .car .service t else t) :=
    .ite (fun _ => rules.raise _ _ _ t rfl) fun _ => .refl t
  have onset (p : Prop) [Decidable p] (t : State) : Keeps P t (if p then t.setAttention .railFault else t) :=
    .ite (fun _ => rules.setAttention ..) fun _ => .refl t
  exact .after (rules.testD1 _) (.after (onset _ _) (.after (faulty _ _) (.after (opening ..) (.after (departing _)
    (rules.report ..)))))

/-! ### The events -/

theorem dwellExpiry (s : State) : Keeps P s (dwellExpiry s) :=
  .ite (fun _ => .after (rules.takeHead _) (rules.same ⟨rfl, rfl, rfl, rfl, ⟨_, _, _, _, _, _, rfl⟩, ⟨_, _, _, rfl⟩⟩)) fun _ => .refl s

theorem completeCommit (readBack : Option Tables) (s : State) : Keeps P s (completeCommit readBack s) := by
  unfold Machine.completeCommit
  dsimp only
  repeat' split
  · exact rules.same .of_rfl
  · exact rules.same .of_rfl
  · exact .refl s

theorem endLoad (active risen : Bool) (s : State) : Keeps P s (endLoad active risen s) := by
  have started : Keeps P s (s.started active risen) :=
    rules.same ⟨rfl, rfl, rfl, rfl, ⟨_, _, _, _, _, _, rfl⟩, ⟨_, _, _, rfl⟩⟩
  rw [endLoad_eq]
  exact .after (rules.evaluateLoads _) (.ite (fun _ => .after (rules.raiseEbFault _) started) fun _ => started)

theorem requestRules : RequestRules (Keeps P) where
  refl := .refl
  trans := .trans
  driveReport := rules.takeDriveReport
  carReport := rules.takeCarReport
  weigh := rules.takeWeigh
  validate := rules.validate
  passage := rules.passage
  gateReport := rules.gateReport
  requestStop := rules.requestStop
  validation _ := rules.same .of_rfl
  maintenance := rules.maintenance
  standby s _ := rules.standby s
  service := rules.service
  cancel := rules.cancel
  holdRunning := rules.holdRunning
  holdClosing := rules.holdClosing
  jogStart := rules.jogStart
  jogHold _ := rules.same ⟨rfl, rfl, rfl, rfl, ⟨_, _, _, _, _, _, rfl⟩, ⟨_, _, _, rfl⟩⟩
  stop s := rules.raise _ _ _ s rfl
  brakeReset := rules.brakeReset
  evacuate := rules.evacuate
  evacuateEnd := rules.evacuateEnd
  mask := rules.mask
  unmask := rules.unmask
  tally := rules.tally
  buffers _ _ := rules.same .of_rfl
  write id index bytes s _ mode rest := rules.acceptWrite id index bytes s mode rest
  commit _ _ := rules.same .of_rfl
  clear i s := .after (t := clearEffect i s) (rules.same .of_rfl) (rules.same (SameBlocks.clearEffect i s).sameLaw)
  notClear i s := .after (t := clearEffect i s) (rules.same .of_rfl) (rules.same (SameBlocks.clearEffect i s).sameLaw)

theorem eventRules : EventRules (Keeps P) where
  requests := rules.requestRules
  commit := rules.completeCommit
  sample := rules.sampleEvent
  standstill s := .ite (fun _ => rules.confirm s) fun _ => .refl s
  escalation := rules.escalationExpiry
  datum := rules.datumEvent
  estopFall s := rules.pins s _ _ _
  estopRise s := rules.pins s _ _ _
  estopQualify := rules.estopQualify
  eblRises := rules.eblRises
  eblFalls := rules.eblFalls
  stepTimeout _ s := .ite (fun _ => .after (rules.abort ..) (rules.timer s)) fun _ => .refl s
  ebSettle := rules.ebSettle
  sbConfirm := rules.sbConfirm
  stopDelay s := .ite (fun _ => .after (rules.deenergize _) (rules.timer s)) fun _ => .refl s
  ebDrop := rules.ebDrop
  dwell := rules.dwellExpiry
  jog := rules.jog
  ack := rules.ack
  close := rules.close
  reservation := rules.reservation
  exitQuiet := rules.exitQuiet
  linkCause := rules.linkCause
  stationLost := rules.stationLost
  departs := rules.departs
  waits _ := rules.same ⟨rfl, rfl, rfl, rfl, ⟨_, _, _, _, _, _, rfl⟩, ⟨_, _, _, rfl⟩⟩
  endLoad := rules.endLoad
  estopPin _ s := rules.pins s _ _ _
  eblPin _ s := rules.pins s _ _ _

/-- A law that the operations of the blocks keep holds after every step where it held before, and where either reset and the passing of
time keep it. -/
theorem keeps_step (resets : ∀ previous cause a b s, P s → P (resetTo previous cause a b s)) (elapses : ∀ s, P s → P s.elapse)
    {s t : State} (law : P s) (next : step s = .next t) : P t :=
  (rules.eventRules.step (fun h => rules.same h.sameLaw) (fun _ _ _ _ _ => ⟨resets _ _ _ _ _⟩) (fun s => ⟨elapses s⟩) next).law law

end LawRules

end Sys2Proof.Machine
end

section
/-! Every step keeps the laws of the brake demand record (section 6.1). -/

namespace Sys2Proof.Machine

/-! ### The cause set and its levels (R98, R99) -/

theorem Level.rank_max (a b : Level) : (Level.max a b).rank = Nat.max a.rank b.rank := by cases a <;> cases b <;> rfl

theorem Level.max_brakes_right (a : Level) {b : Level} (h : b.brakes = true) : (Level.max a b).brakes = true := by
  cases a <;> cases b <;> simp_all [Level.brakes, Level.rank, Level.max]

theorem Level.rank_le_max_right (a b : Level) : b.rank ≤ (Level.max a b).rank := by
  rw [Level.rank_max]
  exact Nat.le_max_right ..

theorem mem_addCause {c : Cause} {l : Level} {causes : List CauseEntry} {e : CauseEntry} (h : e ∈ addCause c l causes) :
    e ∈ causes ∨ e = { cause := c, level := l } ∨ ∃ old ∈ causes, e = { old with level := old.level.max l } := by
  induction causes with
  | nil => exact .inr (.inl (by simpa [addCause] using h))
  | cons x rest ih =>
    unfold addCause at h
    split at h
    · rcases List.mem_cons.mp h with rfl | h
      · exact .inr (.inr ⟨x, List.mem_cons_self, rfl⟩)
      · exact .inl (List.mem_cons_of_mem _ h)
    · rcases List.mem_cons.mp h with rfl | h
      · exact .inl List.mem_cons_self
      · rcases ih h with old | new | ⟨old, mem, same⟩
        · exact .inl (List.mem_cons_of_mem _ old)
        · exact .inr (.inl new)
        · exact .inr (.inr ⟨old, List.mem_cons_of_mem _ mem, same⟩)

/-- The causes of the set after a cause is handed. -/
theorem addCause_causes (c : Cause) (l : Level) (causes : List CauseEntry) :
    (addCause c l causes).map CauseEntry.cause =
      if c ∈ causes.map CauseEntry.cause then causes.map CauseEntry.cause else causes.map CauseEntry.cause ++ [c] := by
  induction causes with
  | nil => simp [addCause]
  | cons x rest ih =>
    unfold addCause
    by_cases same : x.cause = c
    · simp [same]
    · rw [if_neg same, List.map_cons, ih]
      have other : c ≠ x.cause := fun h => same h.symm
      by_cases mem : c ∈ rest.map CauseEntry.cause <;> simp [mem, other]

/-- An entry that is new keeps a list without repetition. -/
theorem nodup_append_singleton {α : Type} {l : List α} {a : α} (h : l.Nodup) (new : a ∉ l) : (l ++ [a]).Nodup :=
  List.pairwise_append.mpr ⟨h, List.pairwise_singleton .., fun _ mem _ last => fun same => new (List.mem_singleton.mp last ▸ same ▸ mem)⟩

theorem addCause_nodup (c : Cause) (l : Level) {causes : List CauseEntry} (h : (causes.map CauseEntry.cause).Nodup) :
    ((addCause c l causes).map CauseEntry.cause).Nodup := by
  rw [addCause_causes]
  split
  · exact h
  · rename_i new
    exact nodup_append_singleton h new

theorem addCause_holds_level (c : Cause) (l : Level) (causes : List CauseEntry) :
    ∃ e ∈ addCause c l causes, e.cause = c ∧ l.rank ≤ e.level.rank := by
  induction causes with
  | nil => exact ⟨_, List.mem_cons_self, rfl, Nat.le_refl _⟩
  | cons x rest ih =>
    unfold addCause
    split
    · rename_i same
      exact ⟨_, List.mem_cons_self, same, Level.rank_le_max_right _ _⟩
    · obtain ⟨e, mem, cause, rank⟩ := ih
      exact ⟨e, List.mem_cons_of_mem _ mem, cause, rank⟩

/-- The level from which a maximum is taken, and each level taken, is at most the maximum. -/
theorem foldl_max_rank (causes : List CauseEntry) (l : Level) :
    l.rank ≤ (causes.foldl (fun a e => a.max e.level) l).rank ∧
      ∀ e ∈ causes, e.level.rank ≤ (causes.foldl (fun a e => a.max e.level) l).rank := by
  induction causes generalizing l with
  | nil => exact ⟨Nat.le_refl _, by simp⟩
  | cons x rest ih =>
    obtain ⟨base, all⟩ := ih (l.max x.level)
    rw [Level.rank_max] at base
    refine ⟨Nat.le_trans (Nat.le_max_left ..) base, fun e mem => ?_⟩
    rcases List.mem_cons.mp mem with rfl | mem
    · exact Nat.le_trans (Nat.le_max_right ..) base
    · exact all e mem

theorem rank_le_highest {causes : List CauseEntry} {e : CauseEntry} (h : e ∈ causes) : e.level.rank ≤ (highest causes).rank :=
  (foldl_max_rank causes .none).2 e h

theorem rank_le_highest_addCause (c : Cause) (l : Level) (causes : List CauseEntry) :
    l.rank ≤ (highest (addCause c l causes)).rank := by
  obtain ⟨e, mem, _, rank⟩ := addCause_holds_level c l causes
  exact Nat.le_trans rank (rank_le_highest mem)

/-! ### The record -/

/-- The laws of the demand record but for that of its current level. -/
structure Demand.Grounded (d : Demand) : Prop where
  levels : ∀ e ∈ d.causes, e.level.brakes = true
  nodup : (d.causes.map CauseEntry.cause).Nodup
  latched : d.latched = highest d.causes
  first : match d.first with | some c => holdsCause d.causes c = true | none => d.causes = []

theorem Demand.lawful_iff (d : Demand) : d.lawful = true ↔ d.Grounded ∧ d.current = currentLevel d.latched d.caution := by
  obtain ⟨causes, latched, first, caution, current⟩ := d
  cases first <;> simp only [Demand.lawful, Bool.and_eq_true, List.all_eq_true, decide_eq_true_eq, beq_iff_eq] <;>
  exact ⟨fun ⟨⟨⟨⟨levels, nodup⟩, latched⟩, first⟩, current⟩ => ⟨⟨levels, nodup, latched, first⟩, current⟩,
    fun ⟨⟨levels, nodup, latched, first⟩, current⟩ => ⟨⟨⟨⟨levels, nodup⟩, latched⟩, first⟩, current⟩⟩

/-- An empty cause set is latched at NONE, and so the first cause of a set that is not empty stands. -/
theorem Demand.Grounded.latched_of_first {d : Demand} (h : d.Grounded) (empty : d.first = none) : d.latched = .none := by
  have first := h.first
  rw [empty] at first
  rw [h.latched, first]
  rfl

/-- A record takes a cause (R99). -/
theorem Demand.add_lawful {d : Demand} (h : d.Grounded) (c : Cause) {l : Level} (hl : l.brakes = true) : (d.add c l).lawful = true := by
  have reached : (highest (addCause c l d.causes)).brakes = true :=
    decide_eq_true (Nat.le_trans (of_decide_eq_true hl) (rank_le_highest_addCause c l d.causes))
  refine (Demand.lawful_iff _).mpr ⟨⟨fun e mem => ?_, addCause_nodup c l h.nodup, rfl, ?_⟩, rfl⟩
  · rcases mem_addCause mem with old | rfl | ⟨old, -, rfl⟩
    · exact h.levels e old
    · exact hl
    · exact Level.max_brakes_right _ hl
  · unfold Demand.add
    dsimp only
    split
    · rename_i first named
      split at named
      · cases named
        simp [holdsCause_addCause]
      · have first := h.first
        rw [named] at first
        simp [holdsCause_addCause, first]
    · rename_i unnamed
      split at unnamed
      · cases unnamed
      · rename_i kept
        exact absurd ⟨h.latched_of_first unnamed, reached⟩ kept

theorem Demand.cleared_lawful (d : Demand) : d.cleared.lawful = true :=
  (Demand.lawful_iff _).mpr ⟨⟨by simp [Demand.cleared], List.nodup_nil, rfl, rfl⟩, rfl⟩

/-! ### The operations -/

/-- The law of the demand record of a state. -/
def DemandLaw (s : State) : Prop := s.bks.demand.lawful = true

theorem Keeps.of_demand {s t : State} (h : t.bks.demand = s.bks.demand) : Keeps DemandLaw s t :=
  ⟨fun law => show t.bks.demand.lawful = true by rw [h]; exact law⟩

theorem Keeps.demand_of_bks {s t : State} (h : t.bks = s.bks) : Keeps DemandLaw s t := .of_demand (by rw [h])

theorem Lowers.keepsDemand {s t : State} (h : Lowers s t) : Keeps DemandLaw s t := .of_demand h.demand

theorem raiseAs_keepsDemand (a : AbortCause) (c : Cause) {l : Level} (s : State) (hl : l.brakes = true) :
    Keeps DemandLaw s (raiseAs a c l s) :=
  ⟨fun law => show (raiseAs a c l s).bks.demand.lawful = true by
    rw [raiseAs_demand]
    exact Demand.add_lawful ((Demand.lawful_iff _).mp law).1 c hl⟩

theorem takeAsked_keepsDemand (l : Level) (s : State) : Keeps DemandLaw s (takeAsked l s) := by
  refine ⟨fun law => ?_⟩
  obtain ⟨ground, -⟩ := (Demand.lawful_iff _).mp law
  obtain ⟨levels, nodup, latched, first⟩ := ground
  unfold takeAsked DemandLaw
  dsimp only
  split
  · rename_i brakes
    rw [raise, raiseAs_demand]
    exact Demand.add_lawful (d := { s.bks.demand with caution := l == .caution }) ⟨levels, nodup, latched, first⟩ .overspeed brakes
  · rw [setDemand_demand]
    exact (Demand.lawful_iff _).mpr ⟨⟨levels, nodup, latched, first⟩, rfl⟩

theorem raiseEbFault_keepsDemand (s : State) : Keeps DemandLaw s (raiseEbFault s) :=
  .after (raiseAs_keepsDemand _ _ _ rfl) (.demand_of_bks (by simp))

theorem startD2_keepsDemand (s : State) : Keeps DemandLaw s (startD2 s) := by
  unfold startD2
  exact .ite (fun _ => .after (raiseEbFault_keepsDemand _) (.of_demand rfl)) fun _ => .of_demand rfl

theorem testD1_keepsDemand (s : State) : Keeps DemandLaw s (testD1 s) := .ite (fun _ => startD2_keepsDemand s) fun _ => .refl s

theorem startDeparture_keepsDemand (k : Fin 6) (dir : Dir) (s : State) : Keeps DemandLaw s (startDeparture k dir s) := by
  unfold startDeparture startD1
  exact .after (testD1_keepsDemand _) (.of_demand (by simp))

theorem startD3_demand (s : State) : (startD3 s).bks.demand = s.bks.demand := by
  unfold startD3
  simp [foldl_withdrawGiven_bks]

theorem grantAuthority_demand (s : State) : (grantAuthority s).bks.demand = s.bks.demand := by
  unfold grantAuthority
  simp

theorem completeD4_keepsDemand (s : State) : Keeps DemandLaw s (completeD4 s) :=
  .ite (fun _ => .of_demand (grantAuthority_demand s)) fun _ => (Lowers.abortDeparture _ s).keepsDemand

theorem driveStep_keepsDemand (r : DriveReport) (s : State) : Keeps DemandLaw s (driveStep r s) := by
  unfold driveStep
  split
  · exact .ite (fun _ => .of_demand rfl) fun _ => .refl s
  · exact .ite (fun _ => .after (completeD4_keepsDemand _) (.of_demand rfl)) fun _ => .refl s
  · exact .ite (fun _ => (Lowers.startS2 s).keepsDemand) fun _ => .refl s
  · exact .refl s

theorem followSb_demand (sb : SbCondition) (s : State) : (followSb sb s).bks.demand = s.bks.demand := by
  unfold followSb
  split <;> rfl

theorem standstillAtRco_lowers (s : State) : Lowers s (standstillAtRco s) := by
  unfold standstillAtRco
  cases s.rco.runState with
  | arrested => exact .ite (fun _ => .of_bks (by simp)) fun _ => .beginStop s
  | running =>
    dsimp only
    split
    · exact .ite (fun _ => .beginStop s) fun _ => .refl s
    · exact .ite (fun _ => .beginStop s) fun _ => .refl s
    · exact .refl s
  | _ => exact .refl s

theorem confirmStandstill_lowers (s : State) : Lowers s (confirmStandstill s) := by
  unfold confirmStandstill cancelCheck
  exact .after (.of_esc ⟨_, rfl⟩) (.after (standstillAtRco_lowers _) (.of_bks rfl))

theorem jogExpiry_lowers (s : State) : Lowers s (jogExpiry s) := by
  unfold jogExpiry
  refine .ite (fun _ => ?_) fun _ => .refl s
  dsimp only
  split
  · exact .ite (fun _ => .after (.beginStop _) (.of_bks (by simp))) fun _ => .of_bks (by simp)
  · exact .of_bks rfl

theorem sbConfirmEnd_keepsDemand (s : State) : Keeps DemandLaw s (sbConfirmEnd s) := by
  unfold sbConfirmEnd
  refine .ite (fun _ => ?_) fun _ => .refl s
  exact .after (Lowers.startS2 _).keepsDemand (.after (raiseAs_keepsDemand _ _ _ rfl) (.of_demand rfl))

theorem ebDropEnd_keepsDemand (s : State) : Keeps DemandLaw s (ebDropEnd s) := by
  unfold ebDropEnd
  refine .ite (fun _ => ?_) fun _ => .refl s
  exact .after (Lowers.completeStop _).keepsDemand (.trans (t := raiseEbFault (setStepTimer none s))
    (.after (raiseEbFault_keepsDemand _) (.of_demand rfl)) (.of_demand rfl))

theorem takeBrakeReset_keepsDemand (s : State) : Keeps DemandLaw s (takeBrakeReset s) := by
  refine ⟨fun _ => ?_⟩
  unfold takeBrakeReset DemandLaw
  dsimp only
  split
  · rw [takeHead_bks, changeMode_bks, setDemand_demand]
    exact Demand.cleared_lawful _
  · rw [setDemand_demand]
    exact Demand.cleared_lawful _

/-- Every operation of the blocks keeps the laws of the demand record. -/
theorem demand_lawRules : LawRules DemandLaw where
  blind same law := by
    obtain ⟨_, _, _, bks⟩ := same.bks
    exact (Keeps.of_demand (by rw [bks])).law law
  raise a c _ s hl := raiseAs_keepsDemand a c s hl
  asked := takeAsked_keepsDemand
  lose s := (Lowers.of_esc (loseStandstill_bks s)).keepsDemand
  confirm s := (confirmStandstill_lowers s).keepsDemand
  arrive s _ := (Lowers.beginStop s).keepsDemand
  abort c s := (Lowers.abortDeparture c s).keepsDemand
  drive r s := .after (driveStep_keepsDemand r _) (.of_demand (followSb_demand ..))
  report c door token rail fault s := .ite
    (fun _ => .after (raiseAs_keepsDemand _ _ _ rfl) (.demand_of_bks (by simp [takeFields]))) fun _ => .demand_of_bks (by simp [takeFields])
  testD1 := testD1_keepsDemand
  lifts _ _ _ _ := .of_demand rfl
  drops s _ := (Lowers.completeStop s).keepsDemand
  timer _ := .of_demand rfl
  ebSettle s := .ite (fun _ => .after (.of_demand (startD3_demand _)) (.of_demand rfl)) fun _ => .refl s
  sbConfirm := sbConfirmEnd_keepsDemand
  deenergize s := (Lowers.deenergizeEb s).keepsDemand
  ebDrop := ebDropEnd_keepsDemand
  takeHead s := .demand_of_bks (by simp)
  jog s := (jogExpiry_lowers s).keepsDemand
  ack _ s := .demand_of_bks (by simp)
  close _ s := .demand_of_bks (by simp)
  reservation _ s := .demand_of_bks (by simp)
  exitQuiet _ s := .demand_of_bks (by simp)
  stationLost _ s := .demand_of_bks (by simp)
  load _ _ s := .of_demand rfl
  tally _ _ s := .demand_of_bks (by simp)
  validate _ _ s := .demand_of_bks (by simp)
  passage _ _ s := .demand_of_bks (by simp)
  gateReport _ _ _ s := .demand_of_bks (by simp)
  mask _ s := .demand_of_bks (by simp)
  unmask _ s := .of_demand rfl
  requestStop _ _ s := .demand_of_bks (by simp)
  maintenance s _ := .of_demand rfl
  standby s := .demand_of_bks (by simp)
  service s _ _ := .demand_of_bks (by simp)
  cancel _ s := .of_demand rfl
  holdRunning s _ := .demand_of_bks (by simp)
  holdClosing s _ _ := .demand_of_bks (by simp)
  jogStart k dir s _ _ _ := .after (startDeparture_keepsDemand k dir _) (.of_demand rfl)
  departs t s _ _ _ := .after (startDeparture_keepsDemand t.target s.rco.tripDir _) (.of_demand rfl)
  brakeReset s _ := takeBrakeReset_keepsDemand s
  evacuate _ _ s _ _ _ := .demand_of_bks (by simp)
  evacuateEnd _ s _ _ := .demand_of_bks (by simp)
  tables _ s _ _ := .of_demand rfl

/-- Settles O3: a reset gives the record its lawful reset value, a handed cause joins the set, a BRAKE RESET empties it, and no other
operation of the blocks changes it. -/
theorem stepKeepsDemandLaw : Obligations.StepKeepsDemandLaw := by
  intro s t law next
  exact demand_lawRules.keeps_step (fun _ _ _ _ _ _ => rfl) (fun _ law => law) (P := DemandLaw) law next

end Sys2Proof.Machine
end

section
/-! What the Run Coordinator's operations make of the run record. -/

namespace Sys2Proof.Machine

/-! ### The authority, the run state and the trips -/

@[simp] theorem setAuthority_rco (a : Authority) (s : State) : (setAuthority a s).rco = { s.rco with authority := a } := by
  unfold setAuthority
  dsimp only
  split <;> simp

@[simp] theorem clearAuthority_rco (s : State) : (clearAuthority s).rco = { s.rco with authority := Authority.reset } :=
  setAuthority_rco ..

/-- An authority record once a GRANTED authority is withdrawn (R58). -/
def Authority.taken (a : Authority) : Authority := if a.state = .granted then { a with state := .withdrawn } else a

@[simp] theorem withdrawAuthority_rco (s : State) :
    (withdrawAuthority s).rco = { s.rco with authority := s.rco.authority.taken } := by
  unfold withdrawAuthority Authority.taken
  split
  · simp
  · rfl

@[simp] theorem setRunState_rco (r : RunState) (s : State) :
    (setRunState r s).rco =
      { s.rco with
        runState := r, dwellTimer := if r = .atStop then s.rco.dwellTimer else none
        dwellElapsed := decide (r = .atStop) && s.rco.dwellElapsed } := by
  unfold setRunState
  split
  · rename_i atStop
    simp [atStop]
  · rename_i other
    simp [other]

@[simp] theorem startDwell_rco (s : State) :
    (startDwell s).rco = { s.rco with dwellTimer := startSec s.line.dwellMin, dwellElapsed := false } := rfl

@[simp] theorem askReleases_rco (s : State) : (askReleases s).rco = s.rco := by
  unfold askReleases
  split
  · exact foldl_rco (fun s c => by split <;> simp) _ s
  · rfl

/-- The run record once the trip in hand is returned to the queue (R66). -/
def Rco.returned (r : Rco) : Rco :=
  match r.tripInHand with
  | none => r
  | some t =>
    if r.queue.length < queueCapacity then { r with tripInHand := none, queue := t :: r.queue }
    else { r with tripInHand := none, droppedCount := satInc 255 r.droppedCount, lastDropped := some t }

@[simp] theorem returnTrip_rco (s : State) : (returnTrip s).rco = s.rco.returned := by
  unfold returnTrip Rco.returned
  cases s.rco.tripInHand with
  | none => rfl
  | some t =>
    dsimp only
    split <;> rfl

section
variable (r : Rco)

/-- Returning the trip changes the trips alone. -/
theorem Rco.returned_eq : ∃ queue dropped last, r.returned =
    { r with tripInHand := none, queue := queue, droppedCount := dropped, lastDropped := last } := by
  unfold returned
  split
  · rename_i none
    exact ⟨_, _, _, by rw [← none]⟩
  · split <;> exact ⟨_, _, _, rfl⟩

@[simp] theorem Rco.returned_mode : r.returned.mode = r.mode := by obtain ⟨_, _, _, h⟩ := r.returned_eq; rw [h]
@[simp] theorem Rco.returned_runState : r.returned.runState = r.runState := by obtain ⟨_, _, _, h⟩ := r.returned_eq; rw [h]
@[simp] theorem Rco.returned_authority : r.returned.authority = r.authority := by obtain ⟨_, _, _, h⟩ := r.returned_eq; rw [h]
@[simp] theorem Rco.returned_brakesSet : r.returned.brakesSet = r.brakesSet := by obtain ⟨_, _, _, h⟩ := r.returned_eq; rw [h]
@[simp] theorem Rco.returned_jogRun : r.returned.jogRun = r.jogRun := by obtain ⟨_, _, _, h⟩ := r.returned_eq; rw [h]
@[simp] theorem Rco.returned_currentStop : r.returned.currentStop = r.currentStop := by obtain ⟨_, _, _, h⟩ := r.returned_eq; rw [h]
@[simp] theorem Rco.returned_tripInHand : r.returned.tripInHand = none := by obtain ⟨_, _, _, h⟩ := r.returned_eq; rw [h]

end

/-! ### Taking the head (R68, R69) -/

@[simp] theorem beginClosing_rco (s : State) :
    (beginClosing s).rco = { s.rco with runState := .closing, dwellTimer := none, dwellElapsed := false } := by
  unfold beginClosing
  rw [foldl_rco (by simp)]
  simp

@[simp] theorem takeTrip_rco (t : Trip) (rest : List Trip) (s : State) :
    (takeTrip t rest s).rco =
      { s.rco with
        queue := rest, tripInHand := some t, tripDir := directionTo s.reference (s.stopEntry t.target).position
        runState := .closing, dwellTimer := none, dwellElapsed := false } := by
  unfold takeTrip
  simp

/-- The requests for the current stop go; the first for another stop is taken, if there is one (R68). -/
theorem takeFrom_cases (q : List Trip) (s : State) :
    takeFrom q s = s.withRco { s.rco with queue := [] } ∨
      ∃ t rest, t :: rest <:+ q ∧ s.rco.currentStop ≠ some t.target ∧ takeFrom q s = takeTrip t rest s := by
  induction q with
  | nil => exact .inl rfl
  | cons t rest ih =>
    unfold takeFrom
    split
    · rcases ih with none | ⟨u, after, suffix, other, taken⟩
      · exact .inl none
      · exact .inr ⟨u, after, suffix.trans (List.suffix_cons ..), other, taken⟩
    · rename_i other
      exact .inr ⟨t, rest, List.suffix_rfl, other, rfl⟩

/-- The head is taken at a stop or off every stop, in SERVICE and RECOVERY alone (R68). -/
theorem State.mayTake_rests {s : State} (h : s.mayTake = true) :
    s.rco.mode.isPublic = true ∧ (s.rco.runState = .atStop ∨ s.rco.runState = .offStop) := by
  unfold State.mayTake at h
  split at h
  · rename_i mode run
    exact ⟨by rw [mode]; rfl, .inl run⟩
  · rename_i mode run
    exact ⟨by rw [mode]; rfl, .inl run⟩
  · rename_i mode run
    exact ⟨by rw [mode]; rfl, .inr run⟩
  · cases h

/-- What the test of the head can do (R68). -/
theorem takeHead_cases (s : State) :
    takeHead s = s ∨ (s.mayTake = true ∧ (takeHead s = s.withRco { s.rco with queue := [] } ∨
      ∃ t rest, t :: rest <:+ s.rco.queue ∧ s.rco.currentStop ≠ some t.target ∧ takeHead s = takeTrip t rest s)) := by
  unfold takeHead
  split
  · rename_i may
    exact .inr ⟨may, takeFrom_cases _ s⟩
  · exact .inl rfl

/-! ### Changes of line mode (R22, R27 to R29) -/

@[simp] theorem enterStandby_rco (c : ModeCause) (s : State) :
    (enterStandby c s).rco =
      { s.rco with
        mode := .standby
        modeChange := { previous := s.rco.mode, new := .standby, cause := c, cancelled := s.rco.queue }
        queue := [], dwellTimer := none, dwellElapsed := false, abortCount := 0 } := by
  unfold enterStandby
  dsimp only
  rw [foldl_rco (by simp)]
  simp [changeMode]

@[simp] theorem enterService_rco (s : State) :
    (enterService s).rco =
      { s.rco with
        mode := .service
        modeChange := { previous := s.rco.mode, new := .service, cause := .console, cancelled := [] }
        dwellTimer := startSec s.line.dwellMin, dwellElapsed := false } := by
  unfold enterService
  rw [askReleases_rco]
  rfl

@[simp] theorem changeMode_rco (m : LineMode) (c : ModeCause) (l : List Trip) (s : State) :
    (changeMode m c l s).rco =
      { s.rco with mode := m, modeChange := { previous := s.rco.mode, new := m, cause := c, cancelled := l } } := rfl

/-- A counted abort leaves the line in its mode with its queue, or takes it to STANDBY with none (R29, R73). -/
theorem countAbort_rco (s : State) :
    (∃ n, (countAbort s).rco = { s.rco with abortCount := n }) ∨
      ∃ change, (countAbort s).rco =
        { s.rco with
          mode := .standby, modeChange := change, queue := [], dwellTimer := none, dwellElapsed := false, abortCount := 0 } := by
  unfold countAbort
  dsimp only
  split
  · exact .inr ⟨_, by rw [State.setAttention_rco, enterStandby_rco]; rfl⟩
  · exact .inl ⟨_, rfl⟩

/-! ### Where no sequence has the line -/

/-- A run state to which no sequence of the Brake Sequencer belongs. -/
def RunState.free (r : RunState) : Bool := r != .departing && r != .stopping

/-- No sequence has the line, and a LOCKED line is not in CLOSING. -/
def State.Rests (s : State) : Prop :=
  s.rco.runState.free = true ∧ (s.rco.runState = .closing → s.rco.mode ≠ .locked)

/-- The Brake Sequencer stays, the line does not become LOCKED, and the run state stays or goes on among the free ones. -/
structure Steers (s t : State) : Prop where
  bks : t.bks = s.bks
  locked : t.rco.mode = .locked → s.rco.mode = .locked
  run : t.rco.runState = s.rco.runState ∨ (s.rco.runState.free = true ∧ t.Rests)

namespace Steers

theorem refl (s : State) : Steers s s := ⟨rfl, id, .inl rfl⟩

theorem trans {s t u : State} (a : Steers s t) (b : Steers t u) : Steers s u := by
  refine ⟨b.bks.trans a.bks, fun h => a.locked (b.locked h), ?_⟩
  rcases a.run with same | ⟨free, rests⟩
  · rcases b.run with still | ⟨free, rests⟩
    · exact .inl (still.trans same)
    · exact .inr ⟨same ▸ free, rests⟩
  · refine .inr ⟨free, ?_⟩
    rcases b.run with still | ⟨-, rests⟩
    · exact ⟨still ▸ rests.1, fun closing locked => rests.2 (still ▸ closing) (b.locked locked)⟩
    · exact rests

theorem after {s t u : State} (b : Steers t u) (a : Steers s t) : Steers s u := a.trans b

theorem ite {s a b : State} {c : Prop} [Decidable c] (ha : c → Steers s a) (hb : ¬c → Steers s b) : Steers s (if c then a else b) := by
  split
  · exact ha ‹_›
  · exact hb ‹_›

/-- The run state, the line mode and the Brake Sequencer are the same. -/
theorem of_same {s t : State} (bks : t.bks = s.bks) (mode : t.rco.mode = s.rco.mode) (run : t.rco.runState = s.rco.runState) :
    Steers s t :=
  ⟨bks, by rw [mode]; exact id, .inl run⟩

theorem of_rco {s t : State} (bks : t.bks = s.bks) (rco : t.rco = s.rco) : Steers s t := .of_same bks (by rw [rco]) (by rw [rco])

theorem setRunState {s : State} (r : RunState) (free : s.rco.runState.free = true) (next : r.free = true) (open_ : r ≠ .closing) :
    Steers s (setRunState r s) :=
  ⟨by simp, by simp, .inr ⟨free, by simp [State.Rests, next, open_]⟩⟩

/-- A change to a mode other than LOCKED. -/
theorem ofMode {s t : State} (bks : t.bks = s.bks) (mode : t.rco.mode ≠ .locked) (run : t.rco.runState = s.rco.runState) : Steers s t :=
  ⟨bks, fun h => absurd h mode, .inl run⟩

theorem takeTrip {s : State} (t : Trip) (rest : List Trip) (free : s.rco.runState.free = true) (mode : s.rco.mode ≠ .locked) :
    Steers s (takeTrip t rest s) :=
  ⟨by simp, by simp, .inr ⟨free, by simpa [State.Rests, RunState.free] using mode⟩⟩

theorem takeHead (s : State) : Steers s (takeHead s) := by
  rcases takeHead_cases s with same | ⟨may, same | ⟨t, rest, -, -, same⟩⟩
  · rw [same]
    exact .refl s
  · rw [same]
    exact .of_same rfl rfl rfl
  · obtain ⟨mode, run⟩ := State.mayTake_rests may
    rw [same]
    refine .takeTrip t rest ?_ fun locked => ?_
    · rcases run with run | run <;> rw [run] <;> rfl
    · rw [locked] at mode
      cases mode

theorem returnTrip (s : State) : Steers s (returnTrip s) := .of_same (by simp) (by simp) (by simp)

theorem askReleases (s : State) : Steers s (askReleases s) := .of_rco (by simp) (by simp)

end Steers

/-! ### Settling (R61) -/

theorem settleRecovery_steers (b : Bool) (s : State) : Steers s (settleRecovery b s) :=
  .ite (fun _ => .ofMode rfl (by simp) rfl) fun _ => .refl s

theorem settleEffects_steers (s : State) : Steers s (settleEffects s) :=
  .ite (fun _ => .after (.askReleases _) (.of_same rfl rfl rfl)) fun _ => .ite (fun _ => .takeHead s) fun _ => .refl s

theorem settleTrip_steers (s : State) : Steers s (settleTrip s) := by
  unfold settleTrip
  cases s.rco.tripInHand with
  | none => exact .of_same rfl rfl rfl
  | some t =>
    dsimp only
    split
    · exact .of_same rfl rfl rfl
    · exact .trans (.returnTrip s) (.of_same rfl rfl rfl)

/-- The window test leaves the line at a stop or off every stop (R61). -/
theorem settleWindow_runState (s : State) :
    (settleWindow s).rco.runState = .atStop ∨ (settleWindow s).rco.runState = .offStop := by
  unfold settleWindow
  split
  · exact .inl (by simp)
  · exact .inr (by simp)

theorem settleWindow_mode (s : State) : (settleWindow s).rco.mode = s.rco.mode := by
  unfold settleWindow
  split <;> simp

theorem settleAuthority_mode (b : Bool) (s : State) : (settleAuthority b s).rco.mode = s.rco.mode := by
  cases b <;> simp [settleAuthority]

/-- A settled line rests, and did not become LOCKED. -/
theorem settle_rests (b : Bool) (s : State) :
    (settle b s).Rests ∧ ((settle b s).rco.mode = .locked → s.rco.mode = .locked) := by
  have placed := settleWindow_runState (settleAuthority b s)
  have mode : (settleWindow (settleAuthority b s)).rco.mode = s.rco.mode := by rw [settleWindow_mode, settleAuthority_mode]
  have after : Steers (settleWindow (settleAuthority b s)) (settle b s) :=
    .after (settleEffects_steers _) (.after (settleRecovery_steers ..) (settleTrip_steers _))
  refine ⟨?_, fun locked => by rw [← mode]; exact after.locked locked⟩
  rcases after.run with same | ⟨-, rests⟩
  · unfold State.Rests
    rw [same]
    rcases placed with atStop | offStop
    · rw [atStop]
      simp [RunState.free]
    · rw [offStop]
      simp [RunState.free]
  · exact rests

theorem countAbort_mode (s : State) : (countAbort s).rco.mode = .locked → s.rco.mode = .locked := by
  rcases countAbort_rco s with ⟨_, same⟩ | ⟨_, standby⟩
  · rw [same]
    exact id
  · rw [standby]
    simp

/-- The line once a departure abort is counted, before the run state follows (R73, steps 1 to 3). -/
def State.abortCounted (s : State) : State :=
  let s1 := clearAuthority s
  let s2 := returnTrip (s1.withRco { s1.rco with brakesSet := true })
  countAbort (s2.withRco { s2.rco with jogRun := false })

theorem abortAtRco_eq (s : State) :
    abortAtRco s =
      if s.abortCounted.msu.standstill then settle false s.abortCounted else setRunState .arrested s.abortCounted := rfl

/-- An aborted departure leaves the line at rest or arrested. -/
theorem abortAtRco_rests (s : State) : (abortAtRco s).Rests ∧ ((abortAtRco s).rco.mode = .locked → s.rco.mode = .locked) := by
  have counted (h : s.abortCounted.rco.mode = .locked) : s.rco.mode = .locked := by simpa using countAbort_mode _ h
  rw [abortAtRco_eq]
  split
  · obtain ⟨rests, mode⟩ := settle_rests false s.abortCounted
    exact ⟨rests, fun h => counted (mode h)⟩
  · exact ⟨by simp [State.Rests, RunState.free], fun h => counted (by simpa using h)⟩

end Sys2Proof.Machine
end

section
/-! Every step keeps the laws of the brake outputs, the sequence slot and the run state (sections 6.1, 6.3, 6.7). -/

namespace Sys2Proof.Machine

/-! ### The laws as propositions -/

/-- Each proof stands with its output, and EB-HOLD is de-energized in LOCKED. -/
structure Wired (s : State) : Prop where
  proved : s.bks.ebProved = true → s.bks.ebHold = true
  confirmed : s.bks.sbConfirmed = true → s.bks.sbDmd = true
  unlit : s.rco.mode = .locked → s.bks.ebHold = false

/-- The slot and the run state are in step, and the step timer is one of the slot's step. -/
structure Sequenced (s : State) : Prop extends Wired s where
  departure : s.bks.slot.isDeparture = true ↔ s.rco.runState = .departing
  stop : s.bks.slot.isStop = true ↔ s.rco.runState = .stopping
  timer : s.bks.timerFits = true
  locked : s.rco.mode = .locked → s.bks.slot.isDeparture = false ∧ s.rco.runState ≠ .closing

/-- What a latched level forbids, and what it demands (R100). -/
structure Restrained (b : Bks) : Prop where
  departure : b.slot.isDeparture = true → b.demand.latched.brakes = false
  hold : b.ebHold = true → b.demand.latched.rank < 3
  demanded : b.demand.latched.brakes = true → b.sbDmd = true

/-- The laws of the brakes and the run state. -/
structure BrakeLaw (s : State) : Prop where
  seq : Sequenced s
  held : Restrained s.bks

theorem brakesLawful_iff (s : State) : s.brakesLawful = true ↔ BrakeLaw s := by
  unfold State.brakesLawful
  simp only [Bool.and_eq_true]
  constructor
  · rintro ⟨⟨⟨⟨⟨⟨⟨⟨departure, stop⟩, timer⟩, free⟩, hold⟩, demanded⟩, proved⟩, confirmed⟩, locked⟩
    exact ⟨⟨⟨by grind, by grind, by grind⟩, by grind, by grind, timer, by grind⟩, ⟨by grind, by grind, by grind⟩⟩
  · rintro ⟨⟨⟨proved, confirmed, unlit⟩, departure, stop, timer, locked⟩, ⟨free, hold, demanded⟩⟩
    exact ⟨⟨⟨⟨⟨⟨⟨⟨by grind, by grind⟩, timer⟩, by grind⟩, by grind⟩, by grind⟩, by grind⟩, by grind⟩, by grind⟩

/-! ### What energizes nothing keeps what a latch forbids -/

theorem Restrained.lowers {s t : State} (law : Restrained s.bks) (h : Lowers s t) : Restrained t.bks :=
  ⟨fun departure => by rw [h.demand]; exact law.departure (h.departure departure),
    fun hold => by rw [h.demand]; exact law.hold (h.hold hold), fun brakes => h.asserted (law.demanded (by rwa [h.demand] at brakes))⟩

theorem Level.brakes_iff (l : Level) : l.brakes = true ↔ 2 ≤ l.rank := decide_eq_true_iff

theorem Lowers.setRailOrder (o : RailOrder) (s : State) : Lowers s (setRailOrder o s) := .of_bks (by simp)

/-- After an abort the slot holds no departure. -/
theorem abortDeparture_slot (c : AbortCause) (s : State) : (abortDeparture c s).bks.slot.isDeparture = false := by
  rw [abortDeparture_bks]
  split
  · rfl
  · rename_i other
    cases slot : s.bks.slot with
    | departure step => exact absurd slot (other step)
    | idle => rfl
    | stop step => rfl

/-- Below SERVICE nothing is departing any more once SERVICE is reached, and the service brake is demanded (R100). -/
theorem reachService_restrains (c : AbortCause) (s : State) :
    (reachService c s).bks.slot.isDeparture = false ∧ (reachService c s).bks.sbDmd = true := by
  unfold reachService
  dsimp only
  rw [State.setAttention_bks]
  have asserted : (assertSb s).bks.sbDmd = true := by simp [assertSb_bks]
  have arrested := Lowers.trans (.of_bks (withdrawAuthority_bks (assertSb s))) (.arrest (withdrawAuthority (assertSb s)))
  have closed := arrested.trans (.of_bks (closeAll_bks .latch _))
  exact ⟨abortDeparture_slot .., (closed.trans (.abortDeparture c _)).asserted asserted⟩

theorem deenergizeEb_hold (s : State) : (deenergizeEb s).bks.ebHold = false := by
  have dropped : Lowers (dropEbHold s) (deenergizeEb s) :=
    .ite (fun _ => .ite (fun _ => .after (.awaitDrop _) (.setStepTimer ..)) fun _ => .refl _) fun _ => .refl _
  cases hold : (deenergizeEb s).bks.ebHold with
  | false => rfl
  | true => cases dropped.hold hold

/-- A rise of the latched level once SERVICE has acted (R100). -/
def State.atService (before : Level) (c : AbortCause) (s : State) : State :=
  if before.rank < 2 ∧ 2 ≤ s.bks.demand.latched.rank then reachService c s else s

/-- A rise of the latched level once EMERGENCY has acted. -/
def State.atEmergency (before : Level) (c : AbortCause) (s : State) : State :=
  if before.rank < 3 ∧ 3 ≤ s.bks.demand.latched.rank then deenergizeEb (s.atService before c) else s.atService before c

/-- A rise of the latched level once RAIL has acted. -/
def State.atRail (before : Level) (c : AbortCause) (s : State) : State :=
  if before.rank < 4 ∧ 4 ≤ s.bks.demand.latched.rank then setRailOrder .apply (s.atEmergency before c) else s.atEmergency before c

theorem latchRise_eq (before : Level) (c : AbortCause) (s : State) :
    latchRise before c s =
      if s.bks.demand.latched.rank ≤ before.rank then s else escalateTo s.bks.demand.latched (s.atRail before c) := rfl

/-- A rise to SERVICE or higher restrains what was restrained at the level before (R100). -/
theorem latchRise_restrains (before : Level) (c : AbortCause) {s : State} (brakes : s.bks.demand.latched.brakes = true)
    (departure : 2 ≤ before.rank → s.bks.slot.isDeparture = false) (demanded : 2 ≤ before.rank → s.bks.sbDmd = true)
    (hold : 3 ≤ before.rank → s.bks.ebHold = false) : Restrained (latchRise before c s).bks := by
  have high := (Level.brakes_iff _).mp brakes
  rw [latchRise_eq]
  split
  · rename_i below
    refine ⟨fun h => ?_, fun h => ?_, fun _ => demanded (by omega)⟩
    · rw [departure (by omega)] at h
      cases h
    · refine Nat.lt_of_not_le fun above => ?_
      rw [hold (by omega)] at h
      cases h
  · have serviced : (s.atService before c).bks.slot.isDeparture = false ∧ (s.atService before c).bks.sbDmd = true := by
      unfold State.atService
      split
      · exact reachService_restrains c s
      · exact ⟨departure (by omega), demanded (by omega)⟩
    have toService : Lowers s (s.atService before c) := .ite (fun _ => .reachService c s) fun _ => .refl s
    have toEmergency : Lowers (s.atService before c) (s.atEmergency before c) := .ite (fun _ => .deenergizeEb _) fun _ => .refl _
    have toEnd : Lowers (s.atEmergency before c) (escalateTo s.bks.demand.latched (s.atRail before c)) :=
      .after (.of_esc (escalateTo_bks ..)) (.ite (fun _ => .setRailOrder ..) fun _ => .refl _)
    have dropped (above : 3 ≤ s.bks.demand.latched.rank) : (s.atEmergency before c).bks.ebHold = false := by
      unfold State.atEmergency
      split
      · exact deenergizeEb_hold _
      · have unheld := hold (by omega)
        exact Bool.eq_false_iff.mpr fun held => by simp [toService.hold held] at unheld
    refine ⟨fun h => ?_, fun h => ?_, fun _ => toEnd.asserted (toEmergency.asserted serviced.2)⟩
    · have departing := toEmergency.departure (toEnd.departure h)
      rw [serviced.1] at departing
      cases departing
    · rw [((toService.trans toEmergency).trans toEnd).demand]
      refine Nat.lt_of_not_le fun above => ?_
      have held := toEnd.hold h
      rw [dropped above] at held
      cases held

theorem Demand.add_brakes (d : Demand) (c : Cause) {l : Level} (hl : l.brakes = true) : (d.add c l).latched.brakes = true :=
  (Level.brakes_iff _).mpr (Nat.le_trans ((Level.brakes_iff _).mp hl) (rank_le_highest_addCause c l d.causes))

/-- A cause taken at SERVICE or higher keeps what the latched level restrains (R99, R100). -/
theorem raiseAs_restrained (a : AbortCause) (c : Cause) {l : Level} {s : State} (hl : l.brakes = true) (law : Restrained s.bks) :
    Restrained (raiseAs a c l s).bks := by
  unfold raiseAs
  refine latchRise_restrains _ _ ?_ (fun before => ?_) (fun before => ?_) fun before => ?_
  · rw [setDemand_demand]
    exact Demand.add_brakes _ c hl
  all_goals rw [setDemand_bks]
  · cases slot : s.bks.slot.isDeparture with
    | false => rfl
    | true =>
      have := law.departure slot
      rw [(Level.brakes_iff _).mpr before] at this
      cases this
  · exact law.demanded ((Level.brakes_iff _).mpr before)
  · cases hold : s.bks.ebHold with
    | false => rfl
    | true => exact absurd (law.hold hold) (by omega)

/-! ### The slot, the run state and the outputs -/

section
variable {s t : State}

/-- What leaves the outputs, the slot, the step timer, the line mode and the run state keeps them in step. -/
theorem Sequenced.of_same (law : Sequenced s) (slot : t.bks.slot = s.bks.slot) (timer : t.bks.stepTimer = s.bks.stepTimer)
    (hold : t.bks.ebHold = s.bks.ebHold) (proved : t.bks.ebProved = s.bks.ebProved) (dmd : t.bks.sbDmd = s.bks.sbDmd)
    (confirmed : t.bks.sbConfirmed = s.bks.sbConfirmed) (mode : t.rco.mode = s.rco.mode) (run : t.rco.runState = s.rco.runState) :
    Sequenced t := by
  obtain ⟨⟨h1, h2, h3⟩, h4, h5, h6, h7⟩ := law
  unfold Bks.timerFits at h6
  refine ⟨⟨?_, ?_, ?_⟩, ?_, ?_, ?_, ?_⟩ <;> simpa only [Bks.timerFits, slot, timer, hold, proved, dmd, confirmed, mode, run]

/-- The Run Coordinator's operations that leave the Brake Sequencer keep them in step. -/
theorem Sequenced.steers (law : Sequenced s) (h : Steers s t) : Sequenced t := by
  obtain ⟨⟨proved, confirmed, unlit⟩, departure, stop, timer, locked⟩ := law
  obtain ⟨bks, mode, run⟩ := h
  refine ⟨⟨by rwa [bks], by rwa [bks], fun h => bks ▸ unlit (mode h)⟩, ?_, ?_, by rwa [bks], fun h => ⟨bks ▸ (locked (mode h)).1, ?_⟩⟩ <;>
    rcases run with same | ⟨free, rests⟩
  · rwa [bks, same]
  · simp only [RunState.free, State.Rests] at free rests
    rw [bks, departure]
    grind
  · rwa [bks, same]
  · simp only [RunState.free, State.Rests] at free rests
    rw [bks, stop]
    grind
  · rw [same]
    exact (locked (mode h)).2
  · exact fun closing => rests.2 closing h

/-- A line that rests with its slot idle is in step. -/
theorem Wired.idle (law : Wired t) (slot : t.bks.slot = .idle) (timer : t.bks.stepTimer = none) (rests : t.Rests) : Sequenced t := by
  obtain ⟨free, closing⟩ := rests
  simp only [RunState.free, Bool.and_eq_true, bne_iff_ne, ne_eq] at free
  refine ⟨law, ?_, ?_, by simp [Bks.timerFits, timer], fun locked => ⟨by rw [slot]; rfl, fun h => closing h locked⟩⟩
  · rw [slot]
    simp [Slot.isDeparture, free]
  · rw [slot]
    simp [Slot.isStop, free]

theorem Wired.stopping (law : Wired t) {x : StopStep} (slot : t.bks.slot = .stop x) (run : t.rco.runState = .stopping)
    (timer : t.bks.timerFits = true) : Sequenced t :=
  ⟨law, by simp [slot, run, Slot.isDeparture], by simp [slot, run, Slot.isStop], timer,
    fun _ => ⟨by rw [slot]; rfl, by rw [run]; decide⟩⟩

theorem Wired.departing (law : Wired t) {x : DepStep} (slot : t.bks.slot = .departure x) (run : t.rco.runState = .departing)
    (timer : t.bks.timerFits = true) (mode : t.rco.mode ≠ .locked) : Sequenced t :=
  ⟨law, by simp [slot, run, Slot.isDeparture], by simp [slot, run, Slot.isStop], timer, fun locked => absurd locked mode⟩

theorem Wired.completeStop (law : Wired s) : Sequenced (completeStop s) := by
  have whole := settle_rests true
    (s.withBks { s.bks with lastStop := stopOutcome s.bks.faults, faults := [], slot := .idle, stepTimer := none })
  obtain ⟨proved, confirmed, unlit⟩ := law
  refine Wired.idle ⟨?_, ?_, fun locked => ?_⟩ (by simp [Bks.stopped]) (by simp [Bks.stopped]) whole.1 <;> rw [completeStop_bks]
  · exact proved
  · exact confirmed
  · exact unlit (whole.2 locked)

theorem Wired.awaitDrop (law : Wired s) (slot : s.bks.slot = .stop .s2) (run : s.rco.runState = .stopping) :
    Sequenced (awaitDrop s) := by
  unfold Machine.awaitDrop
  split
  · exact Wired.stopping ⟨law.proved, law.confirmed, law.unlit⟩ slot run (by simp [Bks.timerFits, slot])
  · exact law.completeStop

theorem Wired.dropEbHold (law : Wired s) : Wired (dropEbHold s) := ⟨by simp, law.confirmed, fun _ => rfl⟩

theorem Sequenced.setStepTimer_none (law : Sequenced s) : Sequenced (setStepTimer none s) := by
  obtain ⟨wired, departure, stop, _, locked⟩ := law
  exact ⟨⟨wired.proved, wired.confirmed, wired.unlit⟩, departure, stop, rfl, locked⟩

theorem Sequenced.dropEbHold (law : Sequenced s) : Sequenced (dropEbHold s) := by
  obtain ⟨wired, departure, stop, timer, locked⟩ := law
  exact ⟨wired.dropEbHold, departure, stop, timer, locked⟩

theorem Sequenced.deenergizeEb (law : Sequenced s) : Sequenced (deenergizeEb s) := by
  unfold Machine.deenergizeEb
  split
  · split
    · rename_i slot
      exact law.dropEbHold.setStepTimer_none.toWired.awaitDrop slot (law.stop.mp (by rw [slot]; rfl))
    · exact law.dropEbHold
  · exact law.dropEbHold

theorem Wired.startS2 (law : Wired s) (run : s.rco.runState = .stopping) : Sequenced (startS2 s) := by
  have begun : Sequenced (setStepTimer none (setSlot (.stop .s2) s)) :=
    Wired.stopping (x := .s2) ⟨law.proved, law.confirmed, law.unlit⟩ rfl run rfl
  unfold Machine.startS2
  dsimp only
  split
  · split
    · exact begun.deenergizeEb
    · exact Wired.stopping (x := .s2) ⟨law.proved, law.confirmed, law.unlit⟩ rfl run rfl
  · exact begun.toWired.awaitDrop rfl run

theorem Wired.assertSb (law : Wired s) : Wired (assertSb s) := by
  obtain ⟨proved, confirmed, unlit⟩ := law
  exact ⟨by simpa [assertSb_bks] using proved, by simp [assertSb_bks], by simpa [assertSb_bks] using unlit⟩

theorem Wired.startStop (law : Wired s) (run : s.rco.runState = .stopping) : Sequenced (startStop s) := by
  have asserted : Wired (Machine.assertSb (s.withBks { s.bks with slot := .stop .s1, faults := [], stepTimer := none })) :=
    Wired.assertSb ⟨law.proved, law.confirmed, law.unlit⟩
  unfold Machine.startStop
  dsimp only
  split
  · exact asserted.startS2 (by simpa using run)
  · exact Wired.stopping (x := .s1) ⟨asserted.proved, asserted.confirmed, asserted.unlit⟩ (by simp [assertSb_bks]) (by simpa using run)
      (by simp [Bks.timerFits, assertSb_bks])

theorem Wired.beginStop (law : Wired s) : Sequenced (beginStop s) := by
  unfold Machine.beginStop
  obtain ⟨proved, confirmed, unlit⟩ := law
  exact Wired.startStop ⟨by simpa using proved, by simpa using confirmed, by simpa using unlit⟩ (by simp)

theorem Sequenced.abortDeparture (law : Sequenced s) (c : AbortCause) : Sequenced (abortDeparture c s) := by
  rcases slot : s.bks.slot with _ | step | step
  · rwa [show Machine.abortDeparture c s = s by unfold Machine.abortDeparture; rw [slot]]
  · have bks := abortDeparture_bks c s
    rw [slot] at bks
    have rests : (Machine.abortDeparture c s).Rests ∧ ((Machine.abortDeparture c s).rco.mode = .locked → s.rco.mode = .locked) := by
      unfold Machine.abortDeparture
      rw [slot]
      obtain ⟨rests, mode⟩ := abortAtRco_rests (((Machine.dropEbHold (Machine.assertSb (setStepTimer none s))).withBks
        { (Machine.dropEbHold (Machine.assertSb (setStepTimer none s))).bks with
          lastDeparture := .aborted c step, slot := .idle }).setAttention .departureAborted)
      exact ⟨rests, fun locked => by simpa using mode locked⟩
    exact Wired.idle ⟨by simp [bks], by simp [bks], by simp [bks]⟩ (by rw [bks]) (by rw [bks]) rests.1
  · rwa [show Machine.abortDeparture c s = s by unfold Machine.abortDeparture; rw [slot]]

theorem Sequenced.arrest (law : Sequenced s) : Sequenced (arrest s) := by
  have arrested (free : s.rco.runState.free = true) : Steers s (setRunState .arrested s) :=
    .setRunState .arrested free rfl (by decide)
  unfold Machine.arrest
  cases run : s.rco.runState with
  | running =>
    dsimp only
    split
    · exact law.toWired.beginStop
    · exact law.steers (.trans (arrested (by rw [run]; rfl)) (.of_same rfl rfl rfl))
  | atStop => exact law.steers (.ite (fun _ => .refl s) fun _ => arrested (by rw [run]; rfl))
  | offStop => exact law.steers (.ite (fun _ => .refl s) fun _ => arrested (by rw [run]; rfl))
  | closing => exact law.steers (.ite (fun _ => .refl s) fun _ => .trans (arrested (by rw [run]; rfl)) (.returnTrip _))
  | departing => exact law
  | stopping => exact law
  | arrested => exact law

theorem Sequenced.assertSb (law : Sequenced s) : Sequenced (assertSb s) := by
  obtain ⟨wired, departure, stop, timer, locked⟩ := law
  unfold Bks.timerFits at timer
  exact ⟨wired.assertSb, by simpa [assertSb_bks] using departure, by simpa [assertSb_bks] using stop,
    by simpa [Bks.timerFits, assertSb_bks] using timer, by simpa [assertSb_bks] using locked⟩

theorem Sequenced.reachService (law : Sequenced s) (c : AbortCause) : Sequenced (reachService c s) := by
  have arrested := (law.assertSb.steers (.of_same (t := withdrawAuthority (Machine.assertSb s)) (by simp) (by simp) (by simp))).arrest
  have closed := arrested.steers (.of_rco (closeAll_bks .latch _) (closeAll_rco .latch _))
  exact (closed.abortDeparture c).steers (.of_rco (State.setAttention_bks ..) (State.setAttention_rco ..))

theorem Sequenced.of_esc (law : Sequenced s) (h : ∃ esc, t.bks = { s.bks with esc := esc }) (rco : t.rco = s.rco) : Sequenced t := by
  obtain ⟨esc, bks⟩ := h
  exact law.of_same (by rw [bks]) (by rw [bks]) (by rw [bks]) (by rw [bks]) (by rw [bks]) (by rw [bks]) (by rw [rco]) (by rw [rco])

theorem Sequenced.latchRise (law : Sequenced s) (before : Level) (c : AbortCause) : Sequenced (latchRise before c s) := by
  rw [latchRise_eq]
  split
  · exact law
  · refine Sequenced.of_esc ?_ (escalateTo_bks ..) (escalateTo_rco ..)
    have serviced : Sequenced (s.atService before c) := by
      unfold State.atService
      split
      · exact law.reachService c
      · exact law
    have dropped : Sequenced (s.atEmergency before c) := by
      unfold State.atEmergency
      split
      · exact serviced.deenergizeEb
      · exact serviced
    exact dropped.steers (.ite (fun _ => .of_rco (by simp) (by simp)) fun _ => .refl _)

theorem Sequenced.setDemand (law : Sequenced s) (d : Demand) : Sequenced (setDemand d s) := by
  apply law.of_same <;> simp [setDemand_bks]

theorem Sequenced.raiseAs (law : Sequenced s) (a : AbortCause) (c : Cause) (l : Level) : Sequenced (raiseAs a c l s) :=
  (law.setDemand _).latchRise _ a

theorem Steers.brakeLaw (h : Steers s t) : Keeps BrakeLaw s t := ⟨fun law => ⟨law.seq.steers h, by rw [h.bks]; exact law.held⟩⟩

theorem Keeps.brakes_same (bks : t.bks = s.bks) (mode : t.rco.mode = s.rco.mode) (run : t.rco.runState = s.rco.runState) :
    Keeps BrakeLaw s t := (Steers.of_same bks mode run).brakeLaw

theorem Keeps.brakes_of_rco (bks : t.bks = s.bks) (rco : t.rco = s.rco) : Keeps BrakeLaw s t := (Steers.of_rco bks rco).brakeLaw

end

/-! ### The operations -/

theorem raiseAs_brakeLaw (a : AbortCause) (c : Cause) {l : Level} (s : State) (hl : l.brakes = true) : Keeps BrakeLaw s (raiseAs a c l s) :=
  ⟨fun law => ⟨law.seq.raiseAs a c l, raiseAs_restrained a c hl law.held⟩⟩

theorem takeAsked_brakeLaw (l : Level) (s : State) : Keeps BrakeLaw s (takeAsked l s) := by
  unfold takeAsked
  refine .ite (fun brakes => .after (raiseAs_brakeLaw _ _ _ brakes) ⟨fun law => ?_⟩) fun _ => ⟨fun law => ⟨law.seq.setDemand _, ?_⟩⟩
  · exact ⟨law.seq.of_same rfl rfl rfl rfl rfl rfl rfl rfl, law.held.departure, law.held.hold, law.held.demanded⟩
  · rw [setDemand_bks]
    exact ⟨law.held.departure, law.held.hold, law.held.demanded⟩

theorem raiseEbFault_brakeLaw (s : State) : Keeps BrakeLaw s (raiseEbFault s) :=
  .after (raiseAs_brakeLaw _ _ _ rfl) (.brakes_of_rco (by simp) (by simp))

theorem lossAtRco_steers (s : State) : Steers s (lossAtRco s) := by
  have arrested (free : s.rco.runState.free = true) : Steers s (setRunState .arrested s) :=
    .setRunState .arrested free rfl (by decide)
  unfold lossAtRco
  refine .ite (fun _ => ?_) fun _ => .refl s
  cases run : s.rco.runState with
  | atStop => exact arrested (by rw [run]; rfl)
  | offStop => exact arrested (by rw [run]; rfl)
  | closing => exact .trans (arrested (by rw [run]; rfl)) (.returnTrip _)
  | _ => exact .refl s

theorem loseStandstill_brakeLaw (s : State) : Keeps BrakeLaw s (loseStandstill s) := by
  refine ⟨fun law => ⟨?_, law.held.lowers (.of_esc (loseStandstill_bks s))⟩⟩
  unfold loseStandstill
  refine (Sequenced.of_esc ?_ (lossAtBks_bks _) (lossAtBks_rco _)).steers
    (.of_rco (foldl_withdrawGiven_bks ..) (foldl_withdrawGiven_rco ..))
  exact law.seq.steers (.after (lossAtRco_steers _) (.of_rco rfl rfl))

/-- The operation energizes nothing and keeps the slot, the run state and the outputs in step. -/
theorem Lowers.brakeLaw {s t : State} (h : Lowers s t) (seq : Sequenced s → Sequenced t) : Keeps BrakeLaw s t :=
  ⟨fun law => ⟨seq law.seq, law.held.lowers h⟩⟩

theorem beginStop_brakeLaw (s : State) : Keeps BrakeLaw s (beginStop s) :=
  (Lowers.beginStop s).brakeLaw fun law => law.toWired.beginStop

theorem completeStop_brakeLaw (s : State) : Keeps BrakeLaw s (completeStop s) :=
  (Lowers.completeStop s).brakeLaw fun law => law.toWired.completeStop

theorem abortDeparture_brakeLaw (c : AbortCause) (s : State) : Keeps BrakeLaw s (abortDeparture c s) :=
  (Lowers.abortDeparture c s).brakeLaw fun law => law.abortDeparture c

theorem deenergizeEb_brakeLaw (s : State) : Keeps BrakeLaw s (deenergizeEb s) :=
  (Lowers.deenergizeEb s).brakeLaw Sequenced.deenergizeEb

theorem setStepTimer_brakeLaw (s : State) : Keeps BrakeLaw s (setStepTimer none s) :=
  (Lowers.setStepTimer none s).brakeLaw Sequenced.setStepTimer_none

theorem standstillAtRco_brakeLaw (s : State) : Keeps BrakeLaw s (standstillAtRco s) := by
  unfold standstillAtRco
  cases run : s.rco.runState with
  | arrested =>
    refine .ite (fun _ => (Lowers.of_bks (by simp)).brakeLaw fun law => ?_) fun _ => beginStop_brakeLaw s
    obtain ⟨rests, mode⟩ := settle_rests false s
    have free : s.rco.runState.free = true := by rw [run]; rfl
    exact law.steers ⟨settle_bks false s, mode, .inr ⟨free, rests⟩⟩
  | running =>
    dsimp only
    split
    · exact .ite (fun _ => beginStop_brakeLaw s) fun _ => .refl s
    · exact .ite (fun _ => beginStop_brakeLaw s) fun _ => .refl s
    · exact .refl s
  | _ => exact .refl s

theorem confirmStandstill_brakeLaw (s : State) : Keeps BrakeLaw s (confirmStandstill s) := by
  have cancelled (t : State) : Keeps BrakeLaw t (cancelCheck t) :=
    (Lowers.of_esc (t := cancelCheck t) ⟨_, rfl⟩).brakeLaw fun law => law.of_esc ⟨_, rfl⟩ rfl
  exact .after (cancelled _) (.after (standstillAtRco_brakeLaw _) (.brakes_of_rco rfl rfl))

/-- A departure goes on to a step: no latch stands that could forbid what the step energizes, or demand what it releases (R100). -/
theorem nextStep_brakeLaw {s t : State} {x y : DepStep} (slot : s.bks.slot = .departure x) (next : t.bks.slot = .departure y)
    (timer : t.bks.timerFits = true) (demand : t.bks.demand = s.bks.demand) (mode : t.rco.mode = s.rco.mode)
    (run : t.rco.runState = s.rco.runState)
    (proved : (s.bks.ebProved = true → s.bks.ebHold = true) → t.bks.ebProved = true → t.bks.ebHold = true)
    (confirmed : (s.bks.sbConfirmed = true → s.bks.sbDmd = true) → t.bks.sbConfirmed = true → t.bks.sbDmd = true) :
    Keeps BrakeLaw s t := by
  refine ⟨fun law => ?_⟩
  have departs : s.bks.slot.isDeparture = true := by rw [slot]; rfl
  have unlocked : t.rco.mode ≠ .locked := fun locked => by
    have held := (law.seq.locked (mode ▸ locked)).1
    rw [departs] at held
    cases held
  have free : t.bks.demand.latched.brakes = false := by rw [demand]; exact law.held.departure departs
  refine ⟨Wired.departing ⟨proved law.seq.proved, confirmed law.seq.confirmed, fun locked => absurd locked unlocked⟩ next
    (run.trans (law.seq.departure.mp departs)) timer unlocked, fun _ => free, fun _ => ?_, fun brakes => ?_⟩
  · refine Nat.lt_of_not_le fun above => ?_
    rw [(Level.brakes_iff _).mpr (Nat.le_of_succ_le above)] at free
    cases free
  · rw [free] at brakes
    cases brakes

/-- Step D2 energizes EB-HOLD, which no latch forbids in a departure (R114). -/
theorem startD2_brakeLaw (s : State) (slot : s.bks.slot = .departure .d1) : Keeps BrakeLaw s (startD2 s) := by
  unfold startD2
  refine .ite (fun _ => .after (raiseEbFault_brakeLaw _) ?_) fun _ => ?_
  · exact nextStep_brakeLaw (y := .d2) slot rfl rfl rfl rfl rfl id id
  · exact nextStep_brakeLaw (y := .d2) slot rfl rfl rfl rfl rfl (fun _ _ => rfl) id

theorem testD1_brakeLaw (s : State) : Keeps BrakeLaw s (testD1 s) := .ite (fun h => startD2_brakeLaw s h.1) fun _ => .refl s

/-- A departure starts where no latch stands, from a free run state, and never in LOCKED (R71, R77). -/
theorem startDeparture_brakeLaw (k : Fin 6) (dir : Dir) (s : State) (latched : s.bks.demand.latched = .none)
    (mode : s.rco.mode ≠ .locked) : Keeps BrakeLaw s (startDeparture k dir s) := by
  unfold startDeparture startD1
  refine .after (testD1_brakeLaw _) ⟨fun law => ⟨?_, ?_⟩⟩
  · exact Wired.departing (x := .d1) ⟨by simpa using law.seq.proved, by simpa using law.seq.confirmed, by simpa using law.seq.unlit⟩
      (by simp) (by simp) (by simp [Bks.timerFits]) (by simpa using mode)
  · refine ⟨?_, ?_, ?_⟩ <;> simp [latched, Level.brakes, Level.rank]

theorem readiness_none {s : State} (ready : s.readiness = none) (c : ReadyCond) : s.readyHolds c = true := by
  have holds := List.find?_eq_none.mp ready c (by cases c <;> decide)
  simpa using holds

theorem latched_of_ready {s : State} (ready : s.readiness = none) : s.bks.demand.latched = .none := by
  simpa [State.readyHolds] using readiness_none ready .brakeLatch

theorem startD3_brakeLaw (s : State) (slot : s.bks.slot = .departure .d2) : Keeps BrakeLaw s (startD3 s) := by
  have bks : (startD3 s).bks =
      { s.bks with slot := .departure .d3, stepTimer := some { which := .torqueProve, remaining := Config.torqueProve } } := by
    unfold startD3
    simp [foldl_withdrawGiven_bks]
  have rco : (startD3 s).rco = { s.rco with authority := { s.rco.authority with state := .prove } } := by
    unfold startD3
    simp [foldl_withdrawGiven_rco]
  refine nextStep_brakeLaw (y := .d3) slot (by rw [bks]) (by rw [bks]; rfl) (by rw [bks]) (by rw [rco]) (by rw [rco]) ?_ ?_ <;>
    rw [bks] <;> exact id

theorem startD4_brakeLaw (s : State) {x : DepStep} (slot : s.bks.slot = .departure x) : Keeps BrakeLaw s (startD4 s) :=
  nextStep_brakeLaw (y := .d4) slot rfl rfl rfl rfl rfl id (fun _ h => by cases h)

/-- The grant leaves the slot idle and the line running (R72). -/
theorem grantAuthority_brakeLaw (s : State) : Keeps BrakeLaw s (grantAuthority s) := by
  have bks : (grantAuthority s).bks = { s.bks with slot := .idle, stepTimer := none, lastDeparture := .completed } := by
    unfold grantAuthority
    simp
  have mode : (grantAuthority s).rco.mode = s.rco.mode := by
    unfold grantAuthority
    simp
  have run : (grantAuthority s).rco.runState = .running := by
    unfold grantAuthority
    simp
  refine ⟨fun law => ⟨Wired.idle ⟨by rw [bks]; exact law.seq.proved, by rw [bks]; exact law.seq.confirmed, fun locked => ?_⟩
    (by rw [bks]) (by rw [bks]) ⟨by rw [run]; rfl, by simp [run]⟩, ?_, ?_, ?_⟩⟩
  · rw [bks]
    exact law.seq.unlit (mode ▸ locked)
  · rw [bks]
    simp [Slot.isDeparture]
  · rw [bks]
    exact law.held.hold
  · rw [bks]
    exact law.held.demanded

theorem completeD4_brakeLaw (s : State) : Keeps BrakeLaw s (completeD4 s) :=
  .ite (fun _ => grantAuthority_brakeLaw s) fun _ => abortDeparture_brakeLaw _ s

theorem startS2_brakeLaw (s : State) (run : s.rco.runState = .stopping) : Keeps BrakeLaw s (startS2 s) :=
  (Lowers.startS2 s).brakeLaw fun law => law.toWired.startS2 run

theorem driveStep_brakeLaw (r : DriveReport) (s : State) : Keeps BrakeLaw s (driveStep r s) := by
  unfold driveStep
  split
  · rename_i slot
    exact .ite (fun _ => .after (startD4_brakeLaw _ slot) (setStepTimer_brakeLaw s)) fun _ => .refl s
  · exact .ite (fun _ => .after (completeD4_brakeLaw _) (setStepTimer_brakeLaw s)) fun _ => .refl s
  · rename_i slot
    refine .ite (fun _ => ⟨fun law => ?_⟩) fun _ => .refl s
    exact (startS2_brakeLaw s (law.seq.stop.mp (by rw [slot]; rfl))).law law
  · exact .refl s

theorem followSb_brakeLaw (sb : SbCondition) (s : State) : Keeps BrakeLaw s (followSb sb s) := by
  refine .ite (fun asserted => ⟨fun law => ?_⟩) fun _ => .refl s
  obtain ⟨⟨wired, departure, stop, timer, locked⟩, held⟩ := law
  exact ⟨⟨⟨wired.proved, fun _ => asserted, wired.unlit⟩, departure, stop, timer, locked⟩, held.departure, held.hold, held.demanded⟩

theorem timer_step {s : State} {w : StepTimer} (running : s.stepTimerIs w = true) : ∃ n, s.bks.stepTimer = some ⟨w, n⟩ := by
  unfold State.stepTimerIs at running
  split at running
  · rename_i t timer
    obtain ⟨which, remaining⟩ := t
    exact ⟨remaining, by rw [timer, show which = w by simpa using running]⟩
  · cases running

theorem Sequenced.slot_of_ebSettle {s : State} (law : Sequenced s) (running : s.stepTimerIs .ebSettle = true) :
    s.bks.slot = .departure .d2 := by
  obtain ⟨n, timer⟩ := timer_step running
  have fits := law.timer
  unfold Bks.timerFits at fits
  rw [timer] at fits
  dsimp only at fits
  split at fits <;> simp_all

theorem Sequenced.slot_of_sbConfirm {s : State} (law : Sequenced s) (running : s.stepTimerIs .sbConfirm = true) :
    s.bks.slot = .stop .s1 := by
  obtain ⟨n, timer⟩ := timer_step running
  have fits := law.timer
  unfold Bks.timerFits at fits
  rw [timer] at fits
  dsimp only at fits
  split at fits <;> simp_all

theorem ebSettleEnd_brakeLaw (s : State) : Keeps BrakeLaw s (ebSettleEnd s) :=
  .ite (fun running => ⟨fun law =>
    (startD3_brakeLaw (setStepTimer none s) (law.seq.slot_of_ebSettle running)).law ((setStepTimer_brakeLaw s).law law)⟩) fun _ => .refl s

/-- The line is in STOPPING, its stop sequence in step S1. -/
structure InS1 (s : State) : Prop where
  slot : s.bks.slot = .stop .s1
  run : s.rco.runState = .stopping

theorem InS1.reachService {s : State} (h : InS1 s) (c : AbortCause) : InS1 (reachService c s) := by
  have arrested : Machine.arrest (withdrawAuthority (Machine.assertSb s)) = withdrawAuthority (Machine.assertSb s) := by
    unfold Machine.arrest
    rw [show (withdrawAuthority (Machine.assertSb s)).rco.runState = .stopping by simpa using h.run]
  have still (u : State) (slot : u.bks.slot = .stop .s1) : Machine.abortDeparture c u = u := by
    unfold Machine.abortDeparture
    rw [slot]
  unfold Machine.reachService
  dsimp only
  rw [arrested, still _ (by simpa [assertSb_bks] using h.slot)]
  exact ⟨by simpa [assertSb_bks] using h.slot, by simpa using h.run⟩

theorem InS1.deenergizeEb {s : State} (h : InS1 s) : InS1 (deenergizeEb s) := by
  have other : s.bks.slot ≠ .stop .s2 := by rw [h.slot]; decide
  unfold Machine.deenergizeEb
  rw [if_neg other, ite_self]
  exact ⟨h.slot, h.run⟩

/-- A cause taken in step S1 leaves the stop sequence there. -/
theorem InS1.raiseAs {s : State} (h : InS1 s) (a : AbortCause) (c : Cause) (l : Level) : InS1 (raiseAs a c l s) := by
  have taken : InS1 (setDemand (s.bks.demand.add c l) s) := ⟨by rw [setDemand_bks]; exact h.slot, by simpa using h.run⟩
  unfold Machine.raiseAs
  rw [latchRise_eq]
  split
  · exact taken
  · have serviced : InS1 ((setDemand (s.bks.demand.add c l) s).atService s.bks.demand.latched a) := by
      unfold State.atService
      split
      · exact taken.reachService a
      · exact taken
    have dropped : InS1 ((setDemand (s.bks.demand.add c l) s).atEmergency s.bks.demand.latched a) := by
      unfold State.atEmergency
      split
      · exact serviced.deenergizeEb
      · exact serviced
    have railed : InS1 ((setDemand (s.bks.demand.add c l) s).atRail s.bks.demand.latched a) := by
      unfold State.atRail
      split
      · exact ⟨by simpa using dropped.slot, by simpa using dropped.run⟩
      · exact dropped
    obtain ⟨esc, bks⟩ := escalateTo_bks (setDemand (s.bks.demand.add c l) s).bks.demand.latched
      ((setDemand (s.bks.demand.add c l) s).atRail s.bks.demand.latched a)
    exact ⟨by rw [bks]; exact railed.slot, by simpa using railed.run⟩

/-- The list of faults of a stop sequence is read by no law. -/
theorem faults_brakeLaw (s : State) (l : List StopFault) : Keeps BrakeLaw s (s.withBks { s.bks with faults := l }) :=
  ⟨fun law => ⟨law.seq.of_same rfl rfl rfl rfl rfl rfl rfl rfl, law.held.departure, law.held.hold, law.held.demanded⟩⟩

theorem sbConfirmEnd_brakeLaw (s : State) : Keeps BrakeLaw s (sbConfirmEnd s) := by
  refine .ite (fun running => ⟨fun law => ?_⟩) fun _ => .refl s
  have slot := law.seq.slot_of_sbConfirm running
  have begun : Keeps BrakeLaw s
      ((s.withBks { s.bks with stepTimer := none, faults := s.bks.faults ++ [.sbUnconfirmed] }).setAttention .sbConfirm) :=
    .trans (.trans (setStepTimer_brakeLaw s) (faults_brakeLaw _ (s.bks.faults ++ [.sbUnconfirmed]))) (.brakes_of_rco rfl rfl)
  have stopping : InS1 ((s.withBks { s.bks with stepTimer := none, faults := s.bks.faults ++ [.sbUnconfirmed] }).setAttention .sbConfirm) :=
    ⟨slot, law.seq.stop.mp (by rw [slot]; rfl)⟩
  exact (startS2_brakeLaw _ (stopping.raiseAs ..).run).law ((raiseAs_brakeLaw _ _ _ rfl).law (begun.law law))

theorem ebDropEnd_brakeLaw (s : State) : Keeps BrakeLaw s (ebDropEnd s) :=
  .ite (fun _ => .after (completeStop_brakeLaw _)
    (.after (faults_brakeLaw ..) (.after (raiseEbFault_brakeLaw _) (setStepTimer_brakeLaw s)))) fun _ => .refl s

theorem jogExpiry_brakeLaw (s : State) : Keeps BrakeLaw s (jogExpiry s) := by
  unfold jogExpiry
  refine .ite (fun _ => ?_) fun _ => .refl s
  dsimp only
  split
  · exact .ite (fun _ => .after (beginStop_brakeLaw _) (.brakes_same (by simp) (by simp) (by simp))) fun _ =>
      .brakes_same (by simp) (by simp) (by simp)
  · exact .brakes_same rfl rfl rfl

theorem takeBrakeReset_brakeLaw (s : State) : Keeps BrakeLaw s (takeBrakeReset s) := by
  have cleared : Keeps BrakeLaw s (setDemand s.bks.demand.cleared (s.withBks { s.bks with esc := Escalation.reset })) := by
    refine ⟨fun law => ⟨?_, ?_⟩⟩
    · exact (law.seq.of_esc (t := s.withBks { s.bks with esc := Escalation.reset }) ⟨_, rfl⟩ rfl).setDemand _
    · rw [setDemand_bks]
      exact ⟨fun _ => rfl, fun _ => Nat.zero_lt_succ 2, fun h => by cases h⟩
  exact .ite (fun _ => .after (Steers.takeHead _).brakeLaw
    (.after (Steers.ofMode (changeMode_bks ..) (by simp) (by simp)).brakeLaw cleared)) fun _ => cleared

theorem requestStop_steers (k : Fin 6) (o : Origin) (s : State) : Steers s (requestStop k o s).1 := by
  have retargeted (t : Trip) (u : State) : Steers u (retarget t u) := .of_same (by simp) (by simp [retarget]) (by simp [retarget])
  have joined (q : List Trip) : Steers s (s.withRco { s.rco with queue := q }) := .of_same rfl rfl rfl
  unfold requestStop joinTrip insertTrip
  dsimp only
  repeat' split
  · exact .refl s
  · exact .refl s
  · exact .of_same rfl rfl rfl
  · exact joined _
  · exact .refl s
  · exact .after (.takeHead _) (.after (retargeted ..) (joined _))
  · exact .after (.takeHead _) (joined _)

theorem holdRunning_steers (s : State) : Steers s (holdRunning s).1 := by
  have retargeted (t : Trip) : Steers s (retarget t s) := .of_same (by simp) (by simp [retarget]) (by simp [retarget])
  unfold holdRunning
  repeat' split
  · exact .refl s
  · exact retargeted _
  · exact retargeted _
  · exact .refl s

theorem holdClosing_steers (s : State) (run : s.rco.runState = .closing) : Steers s (holdClosing s) := by
  have free : (returnTrip s).rco.runState.free = true := by simp [run, RunState.free]
  unfold holdClosing
  refine .after (.takeHead _) (.after ?_ (.returnTrip s))
  exact .ite (fun _ => .trans (.setRunState .atStop free rfl (by decide)) (.of_same rfl rfl rfl)) fun _ =>
    .setRunState .offStop free rfl (by decide)

/-- Every operation of the blocks keeps the laws of the brakes and the run state. -/
theorem brake_lawRules : LawRules BrakeLaw where
  blind := by
    intro s t same law
    obtain ⟨_, _, _, bks⟩ := same.bks
    obtain ⟨_, _, _, _, _, _, rco⟩ := same.rco
    refine ⟨law.seq.of_same ?_ ?_ ?_ ?_ ?_ ?_ ?_ ?_, ?_, ?_, ?_⟩ <;> simp only [bks, rco]
    · exact law.held.departure
    · exact law.held.hold
    · exact law.held.demanded
  raise a c _ s hl := raiseAs_brakeLaw a c s hl
  asked := takeAsked_brakeLaw
  lose := loseStandstill_brakeLaw
  confirm := confirmStandstill_brakeLaw
  arrive s _ := beginStop_brakeLaw s
  abort := abortDeparture_brakeLaw
  drive r s := .after (driveStep_brakeLaw r _) (followSb_brakeLaw ..)
  report c door token rail fault s := by
    have fields : Keeps BrakeLaw s (judgeToken c token (takeFields c door token rail fault s)) :=
      .brakes_of_rco (by simp [takeFields]) (by simp [takeFields])
    exact .ite (fun _ => .after (raiseAs_brakeLaw _ _ _ rfl) (.trans fields (.brakes_same (by simp) (by simp) (by simp))))
      fun _ => fields
  testD1 := testD1_brakeLaw
  lifts risen s hold slot := nextStep_brakeLaw (y := .d2) slot slot (by simp [Bks.timerFits, slot]) rfl rfl rfl (fun _ _ => hold) id
  drops s _ := completeStop_brakeLaw s
  timer := setStepTimer_brakeLaw
  ebSettle := ebSettleEnd_brakeLaw
  sbConfirm := sbConfirmEnd_brakeLaw
  deenergize := deenergizeEb_brakeLaw
  ebDrop := ebDropEnd_brakeLaw
  takeHead s := (Steers.takeHead s).brakeLaw
  jog := jogExpiry_brakeLaw
  ack _ s := .brakes_of_rco (by simp) (by unfold ackExpiry; split <;> simp)
  close _ s := .brakes_of_rco (by simp) (by unfold closeExpiry; split <;> simp)
  reservation _ s := .brakes_of_rco (by simp) (by unfold reservationExpiry; split <;> simp)
  exitQuiet _ s := .brakes_of_rco (by simp) (by unfold exitQuietExpiry; split <;> simp)
  stationLost _ s := .brakes_of_rco (by simp) (by simp)
  load _ _ s := .brakes_of_rco rfl rfl
  tally _ _ s := .brakes_of_rco (by simp) (by simp)
  validate _ _ s := .brakes_of_rco (by simp) (by simp)
  passage _ _ s := .brakes_of_rco (by simp) (by simp)
  gateReport _ _ _ s := .brakes_of_rco (by simp) (by simp)
  mask _ s := .brakes_of_rco (by simp) (by simp)
  unmask _ s := .brakes_of_rco rfl rfl
  requestStop k o s := (requestStop_steers k o s).brakeLaw
  maintenance s _ := (Steers.ofMode (s := s) (t := enterMaintenance s) rfl (by simp [enterMaintenance]) rfl).brakeLaw
  standby s := (Steers.ofMode (by simp) (by simp) (by simp)).brakeLaw
  service s _ _ := (Steers.ofMode (by simp) (by simp) (by simp)).brakeLaw
  cancel _ s := .brakes_same rfl rfl rfl
  holdRunning s _ := (holdRunning_steers s).brakeLaw
  holdClosing s _ run := (holdClosing_steers s run).brakeLaw
  jogStart k dir s mode _ ready := .after
    (startDeparture_brakeLaw k dir _ (latched_of_ready ready) (by simp [mode])) (.brakes_same rfl rfl rfl)
  departs t s closing ready _ := ⟨fun law =>
    (startDeparture_brakeLaw t.target s.rco.tripDir (s.withRco { s.rco with firstFailing := none }) (latched_of_ready ready)
      fun locked => (law.seq.locked locked).2 closing).law
        ((Keeps.brakes_same (s := s) (t := s.withRco { s.rco with firstFailing := none }) rfl rfl rfl).law law)⟩
  brakeReset s _ := takeBrakeReset_brakeLaw s
  evacuate _ _ s _ _ _ := .brakes_of_rco (by simp) (by simp)
  evacuateEnd _ s _ _ := .brakes_of_rco (by simp) (by simp)
  tables _ s _ _ := .brakes_of_rco rfl rfl

theorem brakeLaw_elapse {s : State} (law : BrakeLaw s) : BrakeLaw s.elapse := by
  obtain ⟨⟨⟨proved, confirmed, unlit⟩, departure, stop, timer, locked⟩, held⟩ := law
  have fits : s.elapse.bks.timerFits = s.bks.timerFits := by
    unfold Bks.timerFits State.elapse
    dsimp only
    cases s.bks.stepTimer <;> rfl
  exact ⟨⟨⟨proved, confirmed, unlit⟩, departure, stop, fits.trans timer, locked⟩, held.departure, held.hold, held.demanded⟩

/-- Settles O4: each operation that moves the slot moves the run state with it, and none energizes what the latch forbids. -/
theorem stepKeepsBrakeLaw : Obligations.StepKeepsBrakeLaw := by
  intro s t law next
  have reset (previous : LineMode) (cause : ResetCause) (a b : Nat) (s : State) (_ : BrakeLaw s) :
      BrakeLaw (resetTo previous cause a b s) := (brakesLawful_iff _).mp rfl
  exact (brakesLawful_iff t).mpr
    (brake_lawRules.keeps_step reset (fun _ => brakeLaw_elapse) ((brakesLawful_iff s).mp law) next)

end Sys2Proof.Machine
end

section
/-! Every step keeps the laws of the trip queue (sections 4.4, 4.5, 4.8). -/

namespace Sys2Proof.Machine

/-! ### The queue and the trip in hand (R62, R63, R66) -/

/-- The laws of the trip queue and the trip in hand. -/
structure TripLaw (r : Rco) : Prop where
  capacity : r.queue.length ≤ queueCapacity
  queued : ∀ t ∈ r.queue, t.lawful = true
  inHand : ∀ h ∈ r.tripInHand, h.lawful = true
  nodup : (r.queue.map Trip.target).Nodup
  other : ∀ h ∈ r.tripInHand, ∀ t ∈ r.queue, t.target ≠ h.target

theorem tripsLawful_iff (r : Rco) : r.tripsLawful = true ↔ TripLaw r := by
  unfold Rco.tripsLawful
  simp only [Bool.and_eq_true, decide_eq_true_eq, List.all_eq_true, Option.all_eq_true, bne_iff_ne]
  exact ⟨fun ⟨⟨⟨⟨capacity, queued⟩, inHand⟩, nodup⟩, other⟩ => ⟨capacity, queued, inHand, nodup, other⟩,
    fun ⟨capacity, queued, inHand, nodup, other⟩ => ⟨⟨⟨⟨capacity, queued⟩, inHand⟩, nodup⟩, other⟩⟩

theorem Trip.lawful_iff (t : Trip) : t.lawful = true ↔ 1 ≤ t.merged ∧ t.merged ≤ 255 := by simp [Trip.lawful]

theorem Trip.merge_lawful {t : Trip} (h : t.lawful = true) : t.merge.lawful = true := by
  rw [Trip.lawful_iff] at h ⊢
  unfold Trip.merge satInc
  dsimp only
  split <;> omega

namespace TripLaw

variable {r r' : Rco}

theorem of_same (law : TripLaw r) (queue : r'.queue = r.queue) (hand : r'.tripInHand = r.tripInHand) : TripLaw r' := by
  obtain ⟨capacity, queued, inHand, nodup, other⟩ := law
  constructor <;> simpa only [queue, hand]

theorem noTrip (law : TripLaw r) (queue : r'.queue = r.queue) (hand : r'.tripInHand = none) : TripLaw r' :=
  ⟨by rw [queue]; exact law.capacity, by rw [queue]; exact law.queued, by simp [hand], by rw [queue]; exact law.nodup, by simp [hand]⟩

theorem noQueue (law : TripLaw r) (queue : r'.queue = []) (hand : r'.tripInHand = r.tripInHand) : TripLaw r' :=
  ⟨by simp [queue], by simp [queue], by rw [hand]; exact law.inHand, by simp [queue], by simp [queue]⟩

/-- A queue that lost requests. -/
theorem sublist (law : TripLaw r) (queue : r'.queue.Sublist r.queue) (hand : r'.tripInHand = r.tripInHand) : TripLaw r' :=
  ⟨Nat.le_trans queue.length_le law.capacity, fun t mem => law.queued t (queue.subset mem), by rw [hand]; exact law.inHand,
    law.nodup.sublist (queue.map _), fun h mem t inQueue => law.other h (hand ▸ mem) t (queue.subset inQueue)⟩

/-- The trip in hand goes to the head of the queue, or is dropped (R66). -/
theorem returned (law : TripLaw r) : TripLaw r.returned := by
  unfold Rco.returned
  cases held : r.tripInHand with
  | none => exact law
  | some h =>
    dsimp only
    split
    · rename_i place
      refine ⟨place, fun t mem => ?_, by simp, ?_, by simp⟩
      · rcases List.mem_cons.mp mem with rfl | mem
        · exact law.inHand _ held
        · exact law.queued t mem
      · refine List.nodup_cons.mpr ⟨fun mem => ?_, law.nodup⟩
        obtain ⟨t, inQueue, same⟩ := List.mem_map.mp mem
        exact law.other h held t inQueue same
    · exact law.noTrip rfl rfl

/-- A request of the queue becomes the trip in hand, with what stood behind it left (R68). -/
theorem taken (law : TripLaw r) {t : Trip} {rest : List Trip} (suffix : t :: rest <:+ r.queue) (queue : r'.queue = rest)
    (hand : r'.tripInHand = some t) : TripLaw r' := by
  have nodup := law.nodup.sublist (suffix.sublist.map Trip.target)
  obtain ⟨new, nodup⟩ := List.nodup_cons.mp nodup
  have left : ∀ u ∈ rest, u ∈ r.queue := fun u mem => suffix.subset (List.mem_cons_of_mem _ mem)
  have length := suffix.length_le
  rw [List.length_cons] at length
  refine ⟨by rw [queue]; exact Nat.le_trans (Nat.le_of_succ_le length) law.capacity, by rw [queue]; exact fun u mem => law.queued u (left u mem),
    ?_, by rwa [queue], ?_⟩ <;> rw [hand]
  · rintro h ⟨⟩
    exact law.queued _ (suffix.subset List.mem_cons_self)
  · rintro h ⟨⟩ u mem same
    rw [queue] at mem
    exact new (List.mem_map.mpr ⟨u, mem, same⟩)

/-- The run is retargeted to a request: the trip in hand returns to the queue, from which that for the new stop is gone (R75). -/
theorem retargeted (law : TripLaw r) {t : Trip} (lawful : t.lawful = true) (other : ∀ h ∈ r.tripInHand, h.target ≠ t.target)
    (queue : r'.queue = ({ r with queue := withoutTarget t.target r.queue } : Rco).returned.queue) (hand : r'.tripInHand = some t) :
    TripLaw r' := by
  have without : TripLaw { r with queue := withoutTarget t.target r.queue } := law.sublist List.filter_sublist rfl
  have returned := without.returned
  refine ⟨by rw [queue]; exact returned.capacity, by rw [queue]; exact returned.queued, by rw [hand]; rintro _ ⟨⟩; exact lawful,
    by rw [queue]; exact returned.nodup, ?_⟩
  rw [queue, hand]
  rintro _ ⟨⟩ u mem same
  have absent : ∀ u ∈ withoutTarget t.target r.queue, u.target ≠ t.target := fun u mem => by
    simpa [withoutTarget] using (List.mem_filter.mp mem).2
  unfold Rco.returned at mem
  cases held : r.tripInHand with
  | none =>
    rw [held] at mem
    exact absent u mem same
  | some h =>
    simp only [held] at mem
    split at mem
    · rcases List.mem_cons.mp mem with rfl | mem
      · exact other _ held same
      · exact absent u mem same
    · exact absent u mem same

/-- A request for a new stop joins the tail (R63). -/
theorem joined (law : TripLaw r) {t : Trip} (lawful : t.lawful = true) (place : r.queue.length < queueCapacity)
    (new : ∀ u ∈ r.queue, u.target ≠ t.target) (other : ∀ h ∈ r.tripInHand, h.target ≠ t.target) :
    TripLaw { r with queue := r.queue ++ [t] } := by
  refine ⟨length_append_singleton_le place, fun u mem => ?_, law.inHand, ?_, fun h held u mem => ?_⟩
  · rcases List.mem_append.mp mem with mem | mem
    · exact law.queued u mem
    · rw [List.mem_singleton.mp mem]
      exact lawful
  · rw [List.map_append]
    refine nodup_append_singleton law.nodup fun mem => ?_
    obtain ⟨u, inQueue, same⟩ := List.mem_map.mp mem
    exact new u inQueue same
  · rcases List.mem_append.mp mem with mem | mem
    · exact law.other h held u mem
    · rw [List.mem_singleton.mp mem]
      exact fun same => other h held same.symm

theorem mergeQueue_target (k : Fin 6) (q : List Trip) : (mergeQueue k q).map Trip.target = q.map Trip.target := by
  unfold mergeQueue
  rw [List.map_map]
  refine List.map_congr_left fun t _ => ?_
  simp only [Function.comp_apply]
  split <;> rfl

/-- A request merges into a queued one (R63). -/
theorem mergedQueue (law : TripLaw r) (k : Fin 6) : TripLaw { r with queue := mergeQueue k r.queue } := by
  refine ⟨by simpa [mergeQueue] using law.capacity, fun u mem => ?_, law.inHand, by rw [mergeQueue_target]; exact law.nodup,
    fun h held u mem => ?_⟩ <;>
    obtain ⟨t, inQueue, rfl⟩ := List.mem_map.mp mem
  · split
    · exact Trip.merge_lawful (law.queued t inQueue)
    · exact law.queued t inQueue
  · have apart := law.other h held t inQueue
    split <;> exact apart

/-- A request merges into the trip in hand (R63). -/
theorem mergedHand (law : TripLaw r) : TripLaw { r with tripInHand := r.tripInHand.map Trip.merge } := by
  refine ⟨law.capacity, law.queued, fun h held => ?_, law.nodup, fun h held u mem => ?_⟩ <;>
    obtain ⟨t, inHand, rfl⟩ := Option.map_eq_some_iff.mp held
  · exact Trip.merge_lawful (law.inHand t inHand)
  · exact law.other t inHand u mem

end TripLaw

/-! ### The operations -/

/-- The laws of the trips of a state. -/
def Trips (s : State) : Prop := TripLaw s.rco

section
variable {s t : State}

theorem Keeps.trips_same (queue : t.rco.queue = s.rco.queue) (hand : t.rco.tripInHand = s.rco.tripInHand) : Keeps Trips s t :=
  ⟨fun law => law.of_same queue hand⟩

theorem Keeps.trips_of_rco (h : t.rco = s.rco) : Keeps Trips s t := .trips_same (by rw [h]) (by rw [h])

end

theorem returnTrip_trips (s : State) : Keeps Trips s (returnTrip s) :=
  ⟨fun law => show TripLaw (returnTrip s).rco by rw [returnTrip_rco]; exact TripLaw.returned law⟩

theorem takeHead_trips (s : State) : Keeps Trips s (takeHead s) := by
  rcases takeHead_cases s with same | ⟨-, same | ⟨t, rest, suffix, -, same⟩⟩
  · rw [same]
    exact .refl s
  · rw [same]
    exact ⟨fun law => TripLaw.noQueue law rfl rfl⟩
  · rw [same]
    exact ⟨fun law => TripLaw.taken law suffix (by simp) (by simp)⟩

theorem enterStandby_trips (c : ModeCause) (s : State) : Keeps Trips s (enterStandby c s) :=
  ⟨fun law => TripLaw.noQueue law (by simp) (by simp)⟩

theorem settleWindow_trips (s : State) : Keeps Trips s (settleWindow s) := by
  unfold settleWindow
  split <;> exact .trips_same (by simp) (by simp)

theorem settleTrip_trips (s : State) : Keeps Trips s (settleTrip s) := by
  unfold settleTrip
  cases s.rco.tripInHand with
  | none => exact .trips_same rfl rfl
  | some t =>
    dsimp only
    split
    · exact ⟨fun law => TripLaw.noTrip law rfl rfl⟩
    · exact .trans (returnTrip_trips s) (.trips_same rfl rfl)

theorem settle_trips (b : Bool) (s : State) : Keeps Trips s (settle b s) := by
  have authority : Keeps Trips s (settleAuthority b s) := .trips_same (by cases b <;> simp [settleAuthority])
    (by cases b <;> simp [settleAuthority])
  have recovery (t : State) : Keeps Trips t (settleRecovery b t) := by
    unfold settleRecovery
    split <;> exact .trips_same (by simp) (by simp)
  have effects (t : State) : Keeps Trips t (settleEffects t) :=
    .ite (fun _ => .trips_same (by simp) (by simp)) fun _ => .ite (fun _ => takeHead_trips t) fun _ => .refl t
  exact .after (effects _) (.after (recovery _) (.after (settleTrip_trips _) (.after (settleWindow_trips _) authority)))

theorem completeStop_trips (s : State) : Keeps Trips s (completeStop s) := .after (settle_trips ..) (.trips_of_rco (s := s) rfl)

theorem awaitDrop_trips (s : State) : Keeps Trips s (awaitDrop s) := .ite (fun _ => .trips_of_rco rfl) fun _ => completeStop_trips s

theorem deenergizeEb_trips (s : State) : Keeps Trips s (deenergizeEb s) :=
  .ite (fun _ => .ite (fun _ => .after (awaitDrop_trips _) (.trips_of_rco (s := s) rfl)) fun _ => .trips_of_rco rfl) fun _ => .trips_of_rco rfl

theorem startS2_trips (s : State) : Keeps Trips s (startS2 s) := by
  unfold startS2
  exact .ite (fun _ => .ite (fun _ => .after (deenergizeEb_trips _) (.trips_of_rco (s := s) rfl)) fun _ => .trips_of_rco rfl)
    fun _ => .after (awaitDrop_trips _) (.trips_of_rco (s := s) rfl)

theorem startStop_trips (s : State) : Keeps Trips s (startStop s) := by
  unfold startStop
  exact .ite (fun _ => .after (startS2_trips _) (.trips_of_rco (by simp))) fun _ => .trips_of_rco (by simp)

theorem beginStop_trips (s : State) : Keeps Trips s (beginStop s) := by
  unfold beginStop
  exact .after (startStop_trips _) (.trips_same (by simp) (by simp))

theorem countAbort_trips (s : State) : Keeps Trips s (countAbort s) := by
  rcases countAbort_rco s with ⟨_, same⟩ | ⟨_, standby⟩
  · exact .trips_same (by rw [same]) (by rw [same])
  · exact ⟨fun law => TripLaw.noQueue law (by rw [standby]) (by rw [standby])⟩

theorem abortCounted_trips (s : State) : Keeps Trips s s.abortCounted := by
  unfold State.abortCounted
  refine .after (countAbort_trips _) (.trans (.trans ?_ (returnTrip_trips _)) (.trips_same rfl rfl))
  exact .trips_same (by simp) (by simp)

theorem abortAtRco_trips (s : State) : Keeps Trips s (abortAtRco s) := by
  rw [abortAtRco_eq]
  exact .trans (abortCounted_trips s) (.ite (fun _ => settle_trips ..) fun _ => .trips_same (by simp) (by simp))

theorem abortDeparture_trips (c : AbortCause) (s : State) : Keeps Trips s (abortDeparture c s) := by
  unfold abortDeparture
  split
  · exact .after (abortAtRco_trips _) (.trips_of_rco (by simp))
  · exact .refl s

theorem arrest_trips (s : State) : Keeps Trips s (arrest s) := by
  have arrested : Keeps Trips s (setRunState .arrested s) := .trips_same (by simp) (by simp)
  unfold arrest
  cases s.rco.runState with
  | running => exact .ite (fun _ => beginStop_trips s) fun _ => .trans arrested (.trips_same rfl rfl)
  | atStop => exact .ite (fun _ => .refl s) fun _ => arrested
  | offStop => exact .ite (fun _ => .refl s) fun _ => arrested
  | closing => exact .ite (fun _ => .refl s) fun _ => .trans arrested (returnTrip_trips _)
  | _ => exact .refl s

theorem reachService_trips (c : AbortCause) (s : State) : Keeps Trips s (reachService c s) := by
  have withdrawn : Keeps Trips s (withdrawAuthority (assertSb s)) := .trips_same (by simp) (by simp)
  exact .trans (.trans (.trans withdrawn (arrest_trips _)) (.trips_of_rco (closeAll_rco .latch _)))
    (.trans (abortDeparture_trips c _) (.trips_of_rco (State.setAttention_rco ..)))

theorem latchRise_trips (before : Level) (c : AbortCause) (s : State) : Keeps Trips s (latchRise before c s) := by
  have serviced : Keeps Trips s (s.atService before c) := .ite (fun _ => reachService_trips c s) fun _ => .refl s
  have dropped : Keeps Trips s (s.atEmergency before c) :=
    .ite (fun _ => .trans serviced (deenergizeEb_trips _)) fun _ => serviced
  have railed : Keeps Trips s (s.atRail before c) :=
    .ite (fun _ => .trans dropped (.trips_of_rco (setRailOrder_rco ..))) fun _ => dropped
  rw [latchRise_eq]
  exact .ite (fun _ => .refl s) fun _ => .trans railed (.trips_of_rco (escalateTo_rco ..))

theorem raiseAs_trips (a : AbortCause) (c : Cause) (l : Level) (s : State) : Keeps Trips s (raiseAs a c l s) :=
  .after (latchRise_trips ..) (.trips_of_rco (setDemand_rco ..))

theorem raise_setAttention_trips (c : Cause) (l : Level) (i : Attention) (s : State) : Keeps Trips s (raise c l (s.setAttention i)) :=
  .after (raiseAs_trips ..) (.trips_of_rco (State.setAttention_rco ..))

theorem loseStandstill_trips (s : State) : Keeps Trips s (loseStandstill s) := by
  have lost (t : State) : Keeps Trips t (lossAtRco t) := by
    have arrested : Keeps Trips t (setRunState .arrested t) := .trips_same (by simp) (by simp)
    refine .ite (fun _ => ?_) fun _ => .refl t
    cases t.rco.runState with
    | atStop => exact arrested
    | offStop => exact arrested
    | closing => exact .trans arrested (returnTrip_trips _)
    | _ => exact .refl t
  refine ⟨fun law => ?_⟩
  unfold Trips
  rw [loseStandstill_rco]
  exact (lost _).law law

theorem standstillAtRco_trips (s : State) : Keeps Trips s (standstillAtRco s) := by
  unfold standstillAtRco
  cases s.rco.runState with
  | arrested => exact .ite (fun _ => settle_trips ..) fun _ => beginStop_trips s
  | running =>
    dsimp only
    split
    · exact .ite (fun _ => beginStop_trips s) fun _ => .refl s
    · exact .ite (fun _ => beginStop_trips s) fun _ => .refl s
    · exact .refl s
  | _ => exact .refl s

theorem confirmStandstill_trips (s : State) : Keeps Trips s (confirmStandstill s) :=
  .trans (.trans (.trips_of_rco (s := s) (t := s.withMsu { s.msu with standstill := true, standstillTimer := none }) rfl)
    (standstillAtRco_trips _)) (.trips_of_rco rfl)

theorem startD2_trips (s : State) : Keeps Trips s (startD2 s) := by
  unfold startD2
  exact .ite (fun _ => .after (raise_setAttention_trips ..) (.trips_of_rco (s := s) rfl)) fun _ => .trips_of_rco rfl

theorem testD1_trips (s : State) : Keeps Trips s (testD1 s) := .ite (fun _ => startD2_trips s) fun _ => .refl s

theorem startDeparture_trips (k : Fin 6) (dir : Dir) (s : State) : Keeps Trips s (startDeparture k dir s) := by
  unfold startDeparture startD1
  exact .after (testD1_trips _) (.trips_same (by simp) (by simp))

theorem startD3_rco (s : State) : (startD3 s).rco = { s.rco with authority := { s.rco.authority with state := .prove } } := by
  unfold startD3
  simp [foldl_withdrawGiven_rco]

theorem grantAuthority_rco (s : State) :
    ∃ jog, (grantAuthority s).rco =
      { s.rco with
        authority := { s.rco.authority with state := .granted }, runState := .running, dwellTimer := none, dwellElapsed := false
        abortCount := 0, jogTimer := jog } := by
  unfold grantAuthority
  exact ⟨_, by simp; rfl⟩

theorem driveStep_trips (r : DriveReport) (s : State) : Keeps Trips s (driveStep r s) := by
  have granted (t : State) : Keeps Trips t (grantAuthority t) := by
    obtain ⟨_, rco⟩ := grantAuthority_rco t
    exact .trips_same (by rw [rco]) (by rw [rco])
  have completed (t : State) : Keeps Trips t (completeD4 t) := .ite (fun _ => granted t) fun _ => abortDeparture_trips _ t
  unfold driveStep
  split
  · exact .ite (fun _ => .trips_of_rco rfl) fun _ => .refl s
  · exact .ite (fun _ => .after (completed _) (.trips_of_rco (s := s) rfl)) fun _ => .refl s
  · exact .ite (fun _ => startS2_trips s) fun _ => .refl s
  · exact .refl s

end Sys2Proof.Machine
end

section
/-! Every step keeps the authority in step with the run state and with the trip in hand (sections 4.2, 4.3, 4.6, 4.8). -/

namespace Sys2Proof.Machine

/-! ### The run state, the authority and the trip in hand -/

/-- The authority leads to the stop of the trip in hand, unless the run is a jog (R58). -/
def State.Leads (s : State) : Prop :=
  s.rco.jogRun = true ∨ ∀ k ∈ s.rco.tripInHand.map Trip.target, s.rco.authority.targetPosition = some (s.stopEntry k).position

/-- The laws of the run state and the authority. -/
structure RunLaw (s : State) : Prop where
  still : s.rco.runState = .atStop ∨ s.rco.runState = .offStop ∨ s.rco.runState = .closing → s.rco.authority.state = .none
  arrested : s.rco.runState = .arrested → s.rco.brakesSet = true → s.rco.authority.state = .none
  departing : s.rco.runState = .departing → s.rco.brakesSet = false ∧ s.rco.authority.state.running = false
  running : s.rco.runState = .running → s.rco.brakesSet = false
  leads : s.rco.runState = .departing ∨ (s.rco.runState = .running ∧ s.rco.authority.state = .granted) → s.Leads

theorem leadsToTrip_iff (s : State) :
    s.leadsToTrip = true ↔
      (s.rco.runState = .departing ∨ (s.rco.runState = .running ∧ s.rco.authority.state = .granted) → s.Leads) := by
  have trip : (s.rco.tripInHand.all fun h => s.rco.authority.targetPosition == some (s.stopEntry h.target).position) = true ↔
      ∀ k ∈ s.rco.tripInHand.map Trip.target, s.rco.authority.targetPosition = some (s.stopEntry k).position := by
    simp [Option.all_eq_true]
  unfold State.leadsToTrip State.Leads State.mayRetarget
  rw [Bool.or_eq_true, Bool.or_eq_true, trip]
  generalize (∀ k ∈ s.rco.tripInHand.map Trip.target, s.rco.authority.targetPosition = some (s.stopEntry k).position) = leads
  cases s.rco.jogRun with
  | true => simp
  | false =>
    simp
    grind

theorem runLawful_iff (s : State) : s.runLawful = true ↔ RunLaw s := by
  unfold State.runLawful
  rw [Bool.and_eq_true, leadsToTrip_iff]
  constructor
  · rintro ⟨match_, leads⟩
    constructor
    case leads => exact leads
    all_goals intro run
    · rcases run with run | run | run <;> simpa [run] using match_
    · intro set_
      simpa [run, set_] using match_
    · simpa [run] using match_
    · simpa [run] using match_
  · rintro ⟨still, arrested, departing, running, leads⟩
    refine ⟨?_, leads⟩
    cases run : s.rco.runState with
    | atStop => simpa using still (.inl run)
    | offStop => simpa using still (.inr (.inl run))
    | closing => simpa using still (.inr (.inr run))
    | arrested => cases set_ : s.rco.brakesSet <;> simp [*] at *
    | departing => simpa using departing run
    | running => simpa using running run
    | stopping => rfl

section
variable {s t : State}

/-- What the run law reads is the same. -/
theorem RunLaw.of_same (law : RunLaw s) (run : t.rco.runState = s.rco.runState) (auth : t.rco.authority.state = s.rco.authority.state)
    (target : t.rco.authority.targetPosition = s.rco.authority.targetPosition) (set_ : t.rco.brakesSet = s.rco.brakesSet)
    (jog : t.rco.jogRun = s.rco.jogRun) (hand : t.rco.tripInHand.map Trip.target = s.rco.tripInHand.map Trip.target)
    (tables : t.cfs.tables = s.cfs.tables) : RunLaw t := by
  obtain ⟨still, arrested, departing, running, leads⟩ := law
  constructor <;> simpa only [run, auth, target, set_, jog, hand, State.Leads, State.stopEntry, tables]

/-- Without an authority the law asks nothing but of a departure and a run. -/
theorem RunLaw.noAuthority (auth : t.rco.authority.state = .none) (departing : t.rco.runState ≠ .departing)
    (running : t.rco.runState ≠ .running) : RunLaw t :=
  ⟨fun _ => auth, fun _ _ => auth, fun run => absurd run departing, fun run => absurd run running, fun leads => by
    rcases leads with run | ⟨run, -⟩
    · exact absurd run departing
    · exact absurd run running⟩

theorem RunLaw.stopping (run : t.rco.runState = .stopping) : RunLaw t := by
  constructor <;> simp [run]

/-- An arrested run whose brakes are not set. -/
theorem RunLaw.arrestedFree (run : t.rco.runState = .arrested) (set_ : t.rco.brakesSet = false) : RunLaw t := by
  constructor <;> simp [run, set_]

theorem Keeps.run_of_rco (h : t.rco = s.rco) (tables : t.cfs = s.cfs) : Keeps RunLaw s t :=
  ⟨fun law => law.of_same (by rw [h]) (by rw [h]) (by rw [h]) (by rw [h]) (by rw [h]) (by rw [h]) (by rw [tables])⟩

theorem Keeps.run_calm (calm : Calm s t) (run : t.rco.runState = s.rco.runState)
    (auth : t.rco.authority.state = s.rco.authority.state) (target : t.rco.authority.targetPosition = s.rco.authority.targetPosition)
    (set_ : t.rco.brakesSet = s.rco.brakesSet) (jog : t.rco.jogRun = s.rco.jogRun)
    (hand : t.rco.tripInHand.map Trip.target = s.rco.tripInHand.map Trip.target) : Keeps RunLaw s t :=
  ⟨fun law => law.of_same run auth target set_ jog hand (by rw [calm.cfs])⟩

/-- The line is at rest or in CLOSING, without an authority. -/
structure Idles (t : State) : Prop where
  auth : t.rco.authority.state = .none
  run : t.rco.runState = .atStop ∨ t.rco.runState = .offStop ∨ t.rco.runState = .closing

theorem Idles.runLaw (h : Idles t) : RunLaw t := by
  refine .noAuthority h.auth ?_ ?_ <;> rcases h.run with run | run | run <;> rw [run] <;> decide

theorem Idles.of_rco (h : Idles s) (rco : t.rco = s.rco) : Idles t := ⟨by rw [rco]; exact h.auth, by rw [rco]; exact h.run⟩

theorem Idles.of_same (h : Idles s) (auth : t.rco.authority = s.rco.authority) (run : t.rco.runState = s.rco.runState) : Idles t :=
  ⟨by rw [auth]; exact h.auth, by rw [run]; exact h.run⟩

theorem Idles.takeHead (h : Idles s) : Idles (takeHead s) := by
  rcases takeHead_cases s with same | ⟨-, same | ⟨_, _, -, -, same⟩⟩
  · rwa [same]
  · rw [same]
    exact ⟨h.auth, h.run⟩
  · rw [same]
    exact ⟨by simpa using h.auth, by simp⟩

/-! ### Settling and stopping (R61) -/

/-- A settled line has no authority where it had none or settles after a stop sequence. -/
theorem settle_idles (b : Bool) (auth : b = false → s.rco.authority.state = .none) : Idles (settle b s) := by
  have cleared : (settleAuthority b s).rco.authority.state = .none := by
    cases b with
    | false => exact auth rfl
    | true => simp [settleAuthority, Authority.reset]
  have placed : Idles (settleWindow (settleAuthority b s)) := by
    refine ⟨?_, by have := settleWindow_runState (settleAuthority b s); grind⟩
    unfold settleWindow
    split <;> simpa using cleared
  have tripped (t : State) (h : Idles t) : Idles (settleTrip t) := by
    unfold settleTrip
    cases t.rco.tripInHand with
    | none => exact h.of_same rfl rfl
    | some x =>
      dsimp only
      split
      · exact h.of_same rfl rfl
      · exact h.of_same (by simp) (by simp)
  have recovered (t : State) (h : Idles t) : Idles (settleRecovery b t) := by
    unfold settleRecovery
    split
    · exact h.of_same rfl rfl
    · exact h
  have finished (t : State) (h : Idles t) : Idles (settleEffects t) := by
    unfold settleEffects
    split
    · exact h.of_same (by simp) (by simp)
    split
    · exact h.takeHead
    · exact h
  exact finished _ (recovered _ (tripped _ placed))

theorem completeStop_idles (s : State) : Idles (completeStop s) := settle_idles true (by simp)

/-- A line in STOPPING or at rest. -/
theorem awaitDrop_runLaw (s : State) : Keeps RunLaw s (awaitDrop s) :=
  .ite (fun _ => .run_of_rco rfl rfl) fun _ => ⟨fun _ => (completeStop_idles s).runLaw⟩

theorem deenergizeEb_runLaw (s : State) : Keeps RunLaw s (deenergizeEb s) :=
  .ite (fun _ => .ite (fun _ => .after (awaitDrop_runLaw _) (.run_of_rco (s := s) rfl rfl)) fun _ => .run_of_rco rfl rfl)
    fun _ => .run_of_rco rfl rfl

theorem startS2_runLaw (s : State) : Keeps RunLaw s (startS2 s) := by
  unfold startS2
  exact .ite (fun _ => .ite (fun _ => .after (deenergizeEb_runLaw _) (.run_of_rco (s := s) rfl rfl)) fun _ => .run_of_rco rfl rfl)
    fun _ => .after (awaitDrop_runLaw _) (.run_of_rco (s := s) rfl rfl)

theorem startStop_runLaw (s : State) : Keeps RunLaw s (startStop s) := by
  unfold startStop
  exact .ite (fun _ => .after (startS2_runLaw _) (.run_of_rco (by simp) ((Calm.assertSb _).cfs))) fun _ =>
    .run_of_rco (by simp) (Calm.assertSb _).cfs

/-- In STOPPING the law asks nothing, and a sequence that completes at once leaves the line at rest. -/
theorem beginStop_runLaw (s : State) : RunLaw (beginStop s) := (startStop_runLaw _).law (.stopping (by simp))

/-! ### The departure abort (R73) -/

theorem abortCounted_auth (s : State) : s.abortCounted.rco.authority.state = .none := by
  unfold State.abortCounted
  dsimp only
  rcases countAbort_rco ((returnTrip ((clearAuthority s).withRco { (clearAuthority s).rco with brakesSet := true })).withRco
    { (returnTrip ((clearAuthority s).withRco { (clearAuthority s).rco with brakesSet := true })).rco with jogRun := false })
    with ⟨_, same⟩ | ⟨_, same⟩ <;> rw [same] <;> simp [Authority.reset]

theorem abortAtRco_runLaw (s : State) : RunLaw (abortAtRco s) := by
  rw [abortAtRco_eq]
  split
  · exact (settle_idles false fun _ => abortCounted_auth s).runLaw
  · exact .noAuthority (by simpa using abortCounted_auth s) (by simp) (by simp)

theorem abortDeparture_runLaw (c : AbortCause) (s : State) : Keeps RunLaw s (abortDeparture c s) := by
  unfold abortDeparture
  split
  · exact ⟨fun _ => abortAtRco_runLaw _⟩
  · exact .refl s

/-! ### A latch (R59, R100) -/

theorem withdrawAuthority_runLaw (s : State) : Keeps RunLaw s (withdrawAuthority s) := by
  refine ⟨fun law => ?_⟩
  unfold withdrawAuthority
  split
  · rename_i granted
    obtain ⟨still, arrested, departing, running, leads⟩ := law
    refine ⟨fun run => ?_, fun run set_ => ?_, fun run => ?_, fun run => by simpa using running (by simpa using run),
      fun run => ?_⟩
    · exact absurd (granted.symm.trans (still (by simpa using run))) (by decide)
    · exact absurd (granted.symm.trans (arrested (by simpa using run) (by simpa using set_))) (by decide)
    · have := (departing (by simpa using run)).2
      rw [granted] at this
      cases this
    · rcases run with run | ⟨-, granted⟩
      · have := (departing (by simpa using run)).2
        rw [granted] at this
        cases this
      · simp at granted
  · exact law

theorem arrested_runLaw (law : RunLaw s) (run : s.rco.runState ≠ .departing) (stopping : s.rco.runState ≠ .stopping) :
    RunLaw (setRunState .arrested s) := by
  cases at_ : s.rco.runState with
  | departing => exact absurd at_ run
  | stopping => exact absurd at_ stopping
  | running => exact .arrestedFree (by simp) (by simpa using law.running at_)
  | arrested =>
    cases set_ : s.rco.brakesSet with
    | false => exact .arrestedFree (by simp) (by simpa using set_)
    | true => exact .noAuthority (by simpa using law.arrested at_ set_) (by simp) (by simp)
  | atStop => exact .noAuthority (by simpa using law.still (.inl at_)) (by simp) (by simp)
  | offStop => exact .noAuthority (by simpa using law.still (.inr (.inl at_))) (by simp) (by simp)
  | closing => exact .noAuthority (by simpa using law.still (.inr (.inr at_))) (by simp) (by simp)

/-- A line that is arrested out of CLOSING returns its trip. -/
theorem arrestedClosing_runLaw (law : RunLaw s) (run : s.rco.runState = .closing) : RunLaw (returnTrip (setRunState .arrested s)) :=
  .noAuthority (by simpa using law.still (.inr (.inr run))) (by simp) (by simp)

theorem arrest_runLaw (s : State) : Keeps RunLaw s (arrest s) := by
  refine ⟨fun law => ?_⟩
  unfold arrest
  cases run : s.rco.runState with
  | running =>
    dsimp only
    split
    · exact beginStop_runLaw s
    · exact .arrestedFree (by simp) (by simpa using law.running run)
  | atStop =>
    dsimp only
    split
    · exact law
    · exact arrested_runLaw law (by simp [run]) (by simp [run])
  | offStop =>
    dsimp only
    split
    · exact law
    · exact arrested_runLaw law (by simp [run]) (by simp [run])
  | closing =>
    dsimp only
    split
    · exact law
    · exact arrestedClosing_runLaw law run
  | departing => exact law
  | stopping => exact law
  | arrested => exact law

theorem reachService_runLaw (c : AbortCause) (s : State) : Keeps RunLaw s (reachService c s) := by
  have asserted : Keeps RunLaw s (assertSb s) := .run_of_rco (by simp) (Calm.assertSb s).cfs
  have arrested := (asserted.trans (withdrawAuthority_runLaw _)).trans (arrest_runLaw _)
  have closed (t : State) : Keeps RunLaw t (closeAll .latch t) := .run_of_rco (closeAll_rco .latch t) (Calm.closeAll .latch t).cfs
  have told (t : State) : Keeps RunLaw t (t.setAttention .brakeLatched) := .run_of_rco (State.setAttention_rco ..) rfl
  exact ((arrested.trans (closed _)).trans (abortDeparture_runLaw c _)).trans (told _)

theorem latchRise_runLaw (before : Level) (c : AbortCause) (s : State) : Keeps RunLaw s (latchRise before c s) := by
  have serviced : Keeps RunLaw s (s.atService before c) := .ite (fun _ => reachService_runLaw c s) fun _ => .refl s
  have dropped : Keeps RunLaw s (s.atEmergency before c) :=
    .ite (fun _ => .trans serviced (deenergizeEb_runLaw _)) fun _ => serviced
  have railed : Keeps RunLaw s (s.atRail before c) :=
    .ite (fun _ => .trans dropped (.run_of_rco (setRailOrder_rco ..) (Calm.setRailOrder ..).cfs)) fun _ => dropped
  rw [latchRise_eq]
  exact .ite (fun _ => .refl s) fun _ => .trans railed (.run_of_rco (escalateTo_rco ..) (Calm.escalateTo ..).cfs)

theorem raiseAs_runLaw (a : AbortCause) (c : Cause) (l : Level) (s : State) : Keeps RunLaw s (raiseAs a c l s) :=
  .after (latchRise_runLaw ..) (.run_of_rco (setDemand_rco ..) (Calm.setDemand ..).cfs)

theorem raise_setAttention_runLaw (c : Cause) (l : Level) (i : Attention) (s : State) : Keeps RunLaw s (raise c l (s.setAttention i)) :=
  .after (raiseAs_runLaw ..) (.run_of_rco (State.setAttention_rco ..) rfl)

/-! ### Standstill (R60) -/

theorem loseStandstill_runLaw (s : State) : Keeps RunLaw s (loseStandstill s) := by
  have lost (t : State) : Keeps RunLaw t (lossAtRco t) := by
    refine .ite (fun _ => ⟨fun law => ?_⟩) fun _ => .refl t
    cases run : t.rco.runState with
    | atStop => exact arrested_runLaw law (by simp [run]) (by simp [run])
    | offStop => exact arrested_runLaw law (by simp [run]) (by simp [run])
    | closing => exact arrestedClosing_runLaw law run
    | _ => exact law
  unfold loseStandstill
  have began : Keeps RunLaw s (s.withMsu { s.msu with standstill := false }) := .run_of_rco rfl rfl
  exact .trans (.trans began (lost _)) (.run_of_rco (by rw [foldl_withdrawGiven_rco, lossAtBks_rco])
    ((Calm.foldl (fun _ _ => Calm.withdrawGiven ..) _ _).cfs.trans (Calm.lossAtBks _).cfs))

theorem confirmStandstill_runLaw (s : State) : Keeps RunLaw s (confirmStandstill s) := by
  have confirmed (t : State) : Keeps RunLaw t (standstillAtRco t) := by
    refine ⟨fun law => ?_⟩
    unfold standstillAtRco
    cases run : t.rco.runState with
    | arrested =>
      dsimp only
      split
      · rename_i set_
        exact (settle_idles false fun _ => law.arrested run set_).runLaw
      · exact beginStop_runLaw t
    | running =>
      dsimp only
      repeat' split
      all_goals first | exact beginStop_runLaw t | exact law
    | _ => exact law
  have began : Keeps RunLaw s (s.withMsu { s.msu with standstill := true, standstillTimer := none }) := .run_of_rco rfl rfl
  exact .trans (.trans began (confirmed _)) (.run_of_rco rfl rfl)

/-! ### Departures (R71, R72) -/

theorem startD2_runLaw (s : State) : Keeps RunLaw s (startD2 s) := by
  unfold startD2
  exact .ite (fun _ => .after (raise_setAttention_runLaw ..) (.run_of_rco (s := s) rfl rfl)) fun _ => .run_of_rco rfl rfl

theorem testD1_runLaw (s : State) : Keeps RunLaw s (testD1 s) := .ite (fun _ => startD2_runLaw s) fun _ => .refl s

/-- A departure starts from a line without an authority that runs, toward the trip in hand or as a jog (R71, R77). -/
theorem startDeparture_runLaw (k : Fin 6) (dir : Dir) (auth : s.rco.authority.state.running = false)
    (leads : s.rco.jogRun = true ∨ ∀ j ∈ s.rco.tripInHand.map Trip.target, j = k) : RunLaw (startDeparture k dir s) := by
  unfold startDeparture startD1
  refine (testD1_runLaw _).law ?_
  have tables : ∀ a : Authority, (setAuthority a s).cfs = s.cfs := fun a => (Calm.setAuthority a s).cfs
  have later (t : State) : (startStep .railConfirm Config.railConfirm (setRailOrder .lift (takeSnapshot (setSlot (.departure .d1) t)))).cfs
      = t.cfs := (Calm.setRailOrder .lift _).cfs
  refine ⟨by simp, by simp, by simpa using auth, by simp, fun _ => ?_⟩
  rcases leads with jog | same
  · exact .inl (by simpa using jog)
  · refine .inr fun j mem => ?_
    rw [same j (by simpa using mem)]
    unfold State.stopEntry
    rw [later]
    simp [tables, setRunState, State.withRco]

theorem startD3_runLaw (run : s.rco.runState = .departing) (law : RunLaw s) : RunLaw (startD3 s) := by
  have tables : (startD3 s).cfs = s.cfs := (Calm.startD3 s).cfs
  refine ⟨?_, ?_, fun _ => ⟨?_, ?_⟩, ?_, fun _ => ?_⟩
  · simp [startD3_rco, run]
  · simp [startD3_rco, run]
  · simpa [startD3_rco] using (law.departing run).1
  · simp [startD3_rco, AuthState.running]
  · simp [startD3_rco, run]
  · simpa only [State.Leads, State.stopEntry, startD3_rco, tables] using law.leads (.inl run)

/-- The grant leads where the departure led (R72). -/
theorem grantAuthority_runLaw (run : s.rco.runState = .departing) (law : RunLaw s) : RunLaw (grantAuthority s) := by
  have tables : (grantAuthority s).cfs = s.cfs := (Calm.grantAuthority s).cfs
  obtain ⟨_, rco⟩ := grantAuthority_rco s
  refine ⟨?_, ?_, ?_, fun _ => ?_, fun _ => ?_⟩
  · simp [rco]
  · simp [rco]
  · simp [rco]
  · simpa [rco] using (law.departing run).1
  · simpa only [State.Leads, State.stopEntry, rco, tables] using law.leads (.inl run)

theorem driveStep_runLaw (r : DriveReport) (s : State) (departing : s.bks.slot.isDeparture = true → s.rco.runState = .departing) :
    Keeps RunLaw s (driveStep r s) := by
  unfold driveStep
  split
  · exact .ite (fun _ => .run_of_rco rfl rfl) fun _ => .refl s
  · rename_i slot
    have run := departing (by rw [slot]; rfl)
    have completed : Keeps RunLaw (setStepTimer none s) (completeD4 (setStepTimer none s)) :=
      .ite (fun _ => ⟨grantAuthority_runLaw (s := setStepTimer none s) run⟩) fun _ => abortDeparture_runLaw ..
    exact .ite (fun _ => .after completed (.run_of_rco (s := s) rfl rfl)) fun _ => .refl s
  · exact .ite (fun _ => startS2_runLaw s) fun _ => .refl s
  · exact .refl s

/-! ### Trips (R63, R68, R75, R76, R78) -/

theorem takeHead_runLaw (s : State) : Keeps RunLaw s (takeHead s) := by
  refine ⟨fun law => ?_⟩
  rcases takeHead_cases s with same | ⟨may, same | ⟨t, rest, -, -, same⟩⟩
  · rwa [same]
  · rw [same]
    exact law.of_same rfl rfl rfl rfl rfl rfl rfl
  · have auth : s.rco.authority.state = .none := by
      rcases (State.mayTake_rests may).2 with run | run
      · exact law.still (.inl run)
      · exact law.still (.inr (.inl run))
    rw [same]
    exact .noAuthority (by simpa using auth) (by simp) (by simp)

theorem retarget_rco (t : Trip) (s : State) :
    (retarget t s).rco =
      { ({ s.rco with queue := withoutTarget t.target s.rco.queue } : Rco).returned with
        tripInHand := some t
        authority := { s.rco.authority with targetStop := some t.target, targetPosition := some (s.stopEntry t.target).position } } := by
  have tables (u : State) : (returnTrip u).cfs = u.cfs := (Calm.returnTrip u).cfs
  unfold retarget
  simp [State.stopEntry, tables]

theorem retarget_runLaw (t : Trip) (s : State) : Keeps RunLaw s (retarget t s) := by
  refine ⟨fun law => ?_⟩
  have tables : (retarget t s).cfs = s.cfs := (Calm.retarget t s).cfs
  obtain ⟨still, arrested, departing, running, leads⟩ := law
  refine ⟨?_, ?_, ?_, ?_, fun _ => .inr ?_⟩
  · simpa [retarget_rco] using still
  · simpa [retarget_rco] using arrested
  · simpa [retarget_rco] using departing
  · simpa [retarget_rco] using running
  · simp [retarget_rco, State.stopEntry, tables]

theorem requestStop_runLaw (k : Fin 6) (o : Origin) (s : State) : Keeps RunLaw s (requestStop k o s).1 := by
  have queued (q : List Trip) : Keeps RunLaw s (s.withRco { s.rco with queue := q }) :=
    ⟨fun law => law.of_same rfl rfl rfl rfl rfl rfl rfl⟩
  unfold requestStop joinTrip insertTrip
  dsimp only
  repeat' split
  · exact .refl s
  · exact .refl s
  · exact ⟨fun law => law.of_same rfl rfl rfl rfl rfl (by cases s.rco.tripInHand <;> rfl) rfl⟩
  · exact queued _
  · exact .refl s
  · exact .trans (.trans (queued _) (retarget_runLaw ..)) (takeHead_runLaw _)
  · exact .trans (queued _) (takeHead_runLaw _)

theorem holdRunning_runLaw (s : State) : Keeps RunLaw s (holdRunning s).1 := by
  unfold holdRunning
  repeat' split
  · exact .refl s
  · exact retarget_runLaw ..
  · exact retarget_runLaw ..
  · exact .refl s

theorem holdClosing_runLaw (s : State) (run : s.rco.runState = .closing) : Keeps RunLaw s (holdClosing s) := by
  refine ⟨fun law => ?_⟩
  have auth := law.still (.inr (.inr run))
  unfold holdClosing
  refine (Idles.takeHead ?_).runLaw
  split
  · exact ⟨by simpa using auth, by simp⟩
  · exact ⟨by simpa using auth, by simp⟩

/-- A run whose hold timer runs out is withdrawn (R78). -/
theorem jogExpiry_runLaw (s : State) : Keeps RunLaw s (jogExpiry s) := by
  unfold jogExpiry
  refine .ite (fun _ => ?_) fun _ => .refl s
  dsimp only
  split
  · rename_i granted _
    have withdrawn (a : Authority) (state : a.state = .withdrawn) (law : RunLaw s) :
        RunLaw (setAuthority a (s.withRco { s.rco with jogTimer := none })) := by
      have notStill (run : s.rco.runState = .atStop ∨ s.rco.runState = .offStop ∨ s.rco.runState = .closing) : False := by
        cases granted.symm.trans (law.still run)
      have notDeparting (run : s.rco.runState = .departing) : False := by
        have := (law.departing run).2
        rw [granted] at this
        cases this
      refine ⟨fun run => absurd (by simpa using run) notStill, fun run set_ => ?_, fun run => absurd (by simpa using run) notDeparting,
        fun run => by simpa using law.running (by simpa using run), fun run => ?_⟩
      · cases granted.symm.trans (law.arrested (by simpa using run) (by simpa using set_))
      · rcases run with run | ⟨-, again⟩
        · exact absurd (by simpa using run) notDeparting
        · simp [state] at again
    exact .ite (fun _ => ⟨fun _ => beginStop_runLaw _⟩) fun _ => ⟨withdrawn _ rfl⟩
  · exact ⟨fun law => law.of_same rfl rfl rfl rfl rfl rfl rfl⟩

end

/-! ### The stops ahead (R76) -/

/-- A stop is put into a list behind the stops that lie no further. -/
def insertNear {α : Type} (near : α → Nat) (sorted : List α) (k : α) : List α :=
  sorted.takeWhile (fun j => near j ≤ near k) ++ k :: sorted.dropWhile fun j => near j ≤ near k

section
variable {α : Type} (near : α → Nat)

theorem insertNear_perm (sorted : List α) (k : α) : (insertNear near sorted k).Perm (k :: sorted) := by
  unfold insertNear
  refine List.perm_middle.trans ?_
  rw [List.takeWhile_append_dropWhile]

theorem foldl_insertNear_perm (l sorted : List α) : (l.foldl (insertNear near) sorted).Perm (l ++ sorted) := by
  induction l generalizing sorted with
  | nil => exact .refl _
  | cons k l ih =>
    refine (ih _).trans ?_
    exact ((insertNear_perm near sorted k).append_left l).trans List.perm_middle

/-- Nearest first. -/
def NearestFirst (l : List α) : Prop := l.Pairwise fun j k => near j ≤ near k

theorem insertNear_nearestFirst {sorted : List α} (h : NearestFirst near sorted) (k : α) :
    NearestFirst near (insertNear near sorted k) := by
  unfold NearestFirst insertNear at *
  induction sorted with
  | nil => simp
  | cons x rest ih =>
    obtain ⟨below, rest_⟩ := List.pairwise_cons.mp h
    by_cases near_ : near x ≤ near k
    · rw [List.takeWhile_cons_of_pos (by simpa using near_), List.dropWhile_cons_of_pos (by simpa using near_), List.cons_append]
      refine List.pairwise_cons.mpr ⟨fun y mem => ?_, ih rest_⟩
      rcases List.mem_cons.mp ((insertNear_perm near rest k).mem_iff.mp mem) with rfl | mem
      · exact near_
      · exact below y mem
    · rw [List.takeWhile_cons_of_neg (by simpa using near_), List.dropWhile_cons_of_neg (by simpa using near_), List.nil_append]
      refine List.pairwise_cons.mpr ⟨fun y mem => ?_, h⟩
      rcases List.mem_cons.mp mem with rfl | mem
      · omega
      · exact Nat.le_trans (by omega) (below y mem)

theorem foldl_insertNear_nearestFirst (l : List α) {sorted : List α} (h : NearestFirst near sorted) :
    NearestFirst near (l.foldl (insertNear near) sorted) := by
  induction l generalizing sorted with
  | nil => exact h
  | cons k l ih => exact ih (insertNear_nearestFirst near h k)

end

/-- How far a stop lies from P_sup (R76). -/
def State.away (s : State) (k : Fin 6) : Nat := mag ((s.stopEntry k).position - s.msu.pSup.getD 0)

theorem stopsAhead_eq (s : State) : s.stopsAhead = (allStops.filter s.liesAhead).foldl (insertNear s.away) [] := rfl

theorem mem_stopsAhead {s : State} {k : Fin 6} : k ∈ s.stopsAhead ↔ s.liesAhead k = true := by
  have every : k ∈ allStops := by revert k; decide
  rw [stopsAhead_eq, (foldl_insertNear_perm ..).mem_iff]
  simp [every]

theorem stopsAhead_nearestFirst (s : State) : NearestFirst s.away s.stopsAhead :=
  foldl_insertNear_nearestFirst _ _ List.Pairwise.nil

/-- A stop that lies ahead of the run does not lie at its target position. -/
theorem liesAhead_target {s : State} {k : Fin 6} (h : s.liesAhead k = true) :
    s.rco.authority.targetPosition ≠ some (s.stopEntry k).position := by
  unfold State.liesAhead at h
  intro same
  rw [same] at h
  split at h
  · rename_i p t d _ target _
    cases target
    cases d <;> simp [Dir.beyond] at h
  · cases h

/-- A stop ahead of the run is not the stop of the trip in hand (R75, R76). -/
theorem liesAhead_other {s : State} (law : RunLaw s) (may : s.mayRetarget = true) {k : Fin 6} (h : s.liesAhead k = true) :
    ∀ t ∈ s.rco.tripInHand, t.target ≠ k := by
  rintro t held rfl
  simp only [State.mayRetarget, Bool.and_eq_true, beq_iff_eq, Bool.not_eq_true'] at may
  obtain ⟨⟨run, granted⟩, jog⟩ := may
  rcases law.leads (.inr ⟨run, granted⟩) with again | leads
  · rw [jog] at again
    cases again
  · exact liesAhead_target h (leads t.target (Option.map_eq_some_iff.mpr ⟨t, held, rfl⟩))

theorem retarget_trips {s : State} (law : TripLaw s.rco) {t : Trip} (lawful : t.lawful = true)
    (other : ∀ h ∈ s.rco.tripInHand, h.target ≠ t.target) : TripLaw (retarget t s).rco :=
  law.retargeted lawful other (by rw [retarget_rco]) (by rw [retarget_rco])

theorem holdRunning_trips {s : State} (run : RunLaw s) (may : s.mayRetarget = true) (law : TripLaw s.rco) :
    TripLaw (holdRunning s).1.rco := by
  unfold holdRunning
  split
  · exact law
  · rename_i k found
    have ahead := mem_stopsAhead.mp (List.mem_of_find?_eq_some found)
    have other := liesAhead_other run may ahead
    split
    · rename_i t queued
      have target : t.target = k := by simpa using List.find?_some queued
      exact retarget_trips law (law.queued t (List.mem_of_find?_eq_some queued)) (by rwa [target])
    · split
      · exact retarget_trips law rfl other
      · exact law

theorem requestStop_trips (k : Fin 6) (o : Origin) (s : State) : Keeps Trips s (requestStop k o s).1 := by
  refine ⟨fun law => ?_⟩
  unfold requestStop
  split
  · exact law
  split
  · exact law
  unfold joinTrip
  split
  · exact TripLaw.mergedHand law
  rename_i notHand
  split
  · exact TripLaw.mergedQueue law k
  rename_i notQueued
  split
  · exact law
  rename_i place
  have other : ∀ h ∈ s.rco.tripInHand, h.target ≠ k := fun h held same => notHand (by
    rw [Option.mem_def.mp held]
    simp [same])
  have new : ∀ u ∈ s.rco.queue, u.target ≠ k := fun u mem same => notQueued (by
    rw [queuedFor, List.find?_isSome]
    exact ⟨u, mem, by simp [same]⟩)
  have joined : TripLaw { s.rco with queue := s.rco.queue ++ [{ target := k, origin := o, merged := 1 }] } :=
    law.joined rfl (by omega) new other
  unfold insertTrip
  dsimp only
  split
  · exact (takeHead_trips _).law (retarget_trips (s := s.withRco _) joined rfl other)
  · exact (takeHead_trips _).law joined

/-! ### The law of the run -/

/-- The laws of the brakes, of the trips and of the run. -/
structure JourneyLaw (s : State) : Prop where
  brakes : BrakeLaw s
  trips : Trips s
  run : RunLaw s

section
variable {s t : State}

/-- An operation keeps each law on its own. -/
theorem Keeps.journey (brakes : Keeps BrakeLaw s t) (trips : Keeps Trips s t) (run : Keeps RunLaw s t) : Keeps JourneyLaw s t :=
  ⟨fun law => ⟨brakes.law law.brakes, trips.law law.trips, run.law law.run⟩⟩

/-- The run record, the Brake Sequencer and the tables are the same. -/
theorem Keeps.journey_of_rco (rco : t.rco = s.rco) (bks : t.bks = s.bks) (tables : t.cfs = s.cfs) : Keeps JourneyLaw s t :=
  .journey (.brakes_of_rco bks rco) (.trips_of_rco rco) (.run_of_rco rco tables)

/-- The queue apart, the run record, the Brake Sequencer and the tables are the same. -/
theorem Keeps.run_sameBut (calm : Calm s t) (same : ∃ q mode change dwell elapsed aborts, t.rco =
    { s.rco with
      queue := q, mode := mode, modeChange := change, dwellTimer := dwell, dwellElapsed := elapsed, abortCount := aborts }) :
    Keeps RunLaw s t := by
  obtain ⟨_, _, _, _, _, _, rco⟩ := same
  refine .run_calm calm ?_ ?_ ?_ ?_ ?_ ?_ <;> rw [rco]

end

theorem takeAsked_trips (l : Level) (s : State) : Keeps Trips s (takeAsked l s) := by
  unfold takeAsked
  exact .ite (fun _ => .after (raiseAs_trips ..) (.trips_of_rco (s := s) rfl)) fun _ => .trips_of_rco (setDemand_rco ..)

theorem takeAsked_runLaw (l : Level) (s : State) : Keeps RunLaw s (takeAsked l s) := by
  unfold takeAsked
  exact .ite (fun _ => .after (raiseAs_runLaw ..) (.run_of_rco (s := s) rfl rfl)) fun _ =>
    .run_of_rco (setDemand_rco ..) (Calm.setDemand ..).cfs

theorem jogExpiry_trips (s : State) : Keeps Trips s (jogExpiry s) := by
  unfold jogExpiry
  refine .ite (fun _ => ?_) fun _ => .refl s
  dsimp only
  split
  · exact .ite (fun _ => .after (beginStop_trips _) (.trips_same (by simp) (by simp))) fun _ => .trips_same (by simp) (by simp)
  · exact .trips_same rfl rfl

theorem takeBrakeReset_trips (s : State) : Keeps Trips s (takeBrakeReset s) := by
  have cleared : Keeps Trips s (setDemand s.bks.demand.cleared (s.withBks { s.bks with esc := Escalation.reset })) :=
    .trips_of_rco (by simp)
  exact .ite (fun _ => .trans (cleared.trans (.trips_same (by simp) (by simp))) (takeHead_trips (changeMode ..))) fun _ => cleared

theorem takeBrakeReset_runLaw (s : State) : Keeps RunLaw s (takeBrakeReset s) := by
  have cleared : Keeps RunLaw s (setDemand s.bks.demand.cleared (s.withBks { s.bks with esc := Escalation.reset })) :=
    .run_of_rco (by simp) (by rw [(Calm.setDemand ..).cfs]; rfl)
  have changed (t : State) : Keeps RunLaw t (changeMode .recovery .brakeReset [] t) := .run_sameBut (Calm.changeMode ..)
    ⟨_, _, _, _, _, _, rfl⟩
  exact .ite (fun _ => .after (takeHead_runLaw _) (cleared.trans (changed _))) fun _ => cleared

theorem ebDropEnd_trips (s : State) : Keeps Trips s (ebDropEnd s) := by
  have began : Keeps Trips s (raiseEbFault (setStepTimer none s)) := .after (raise_setAttention_trips ..) (.trips_of_rco (s := s) rfl)
  exact .ite (fun _ => .after (completeStop_trips _) (began.trans (.trips_of_rco rfl))) fun _ => .refl s

theorem ebDropEnd_runLaw (s : State) : Keeps RunLaw s (ebDropEnd s) := by
  unfold ebDropEnd
  exact .ite (fun _ => ⟨fun _ => (completeStop_idles _).runLaw⟩) fun _ => .refl s

theorem holdClosing_trips (s : State) : Keeps Trips s (holdClosing s) := by
  unfold holdClosing
  refine .after (takeHead_trips _) (.after ?_ (returnTrip_trips s))
  exact .ite (fun _ => .trips_same (by simp) (by simp)) fun _ => .trips_same (by simp) (by simp)

/-- Every operation of the blocks keeps the laws of the trips and the run beside those of the brakes. -/
theorem journey_lawRules : LawRules JourneyLaw where
  blind := by
    intro s t same law
    obtain ⟨_, _, _, _, _, _, rco⟩ := same.rco
    refine ⟨brake_lawRules.blind same law.brakes, law.trips.of_same (by rw [rco]) (by rw [rco]), ?_⟩
    refine law.run.of_same ?_ ?_ ?_ ?_ ?_ ?_ same.tables <;> rw [rco]
  raise a c l s hl := .journey (brake_lawRules.raise a c l s hl) (raiseAs_trips ..) (raiseAs_runLaw ..)
  asked l s := .journey (brake_lawRules.asked l s) (takeAsked_trips l s) (takeAsked_runLaw l s)
  lose s := .journey (brake_lawRules.lose s) (loseStandstill_trips s) (loseStandstill_runLaw s)
  confirm s := .journey (brake_lawRules.confirm s) (confirmStandstill_trips s) (confirmStandstill_runLaw s)
  arrive s run := .journey (brake_lawRules.arrive s run) (beginStop_trips s) ⟨fun _ => beginStop_runLaw s⟩
  abort c s := .journey (brake_lawRules.abort c s) (abortDeparture_trips c s) (abortDeparture_runLaw c s)
  drive r s := by
    have followed : Keeps JourneyLaw s (followSb r.sb s) := by
      have rco : (followSb r.sb s).rco = s.rco := by
        unfold followSb
        split <;> rfl
      exact .journey (followSb_brakeLaw ..) (.trips_of_rco rco) (.run_of_rco rco (Calm.followSb ..).cfs)
    exact followed.trans ⟨fun law => ⟨(driveStep_brakeLaw r _).law law.brakes, (driveStep_trips r _).law law.trips,
      (driveStep_runLaw r _ law.brakes.seq.departure.mp).law law.run⟩⟩
  report c door token rail fault s := by
    have fields : Keeps JourneyLaw s (judgeToken c token (takeFields c door token rail fault s)) :=
      .journey_of_rco (by simp [takeFields]) (by simp [takeFields]) (by rw [(Contained.judgeToken ..).cfs]; rfl)
    refine .journey (brake_lawRules.report c door token rail fault s) ⟨fun law => ?_⟩ ⟨fun law => ?_⟩
    · have withdrawn (t : State) : Keeps Trips t (withdrawAuthority t) := .trips_same (by simp) (by simp)
      have granted (t : State) : Keeps Trips t (doorsWhileGranted c t) :=
        .ite (fun _ => .after (raiseAs_trips ..) (withdrawn t)) fun _ => .refl t
      exact (granted _).law (law.of_same (by simp [takeFields]) (by simp [takeFields]))
    · have granted (t : State) : Keeps RunLaw t (doorsWhileGranted c t) :=
        .ite (fun _ => .after (raiseAs_runLaw ..) (withdrawAuthority_runLaw t)) fun _ => .refl t
      have taken : Keeps RunLaw s (judgeToken c token (takeFields c door token rail fault s)) :=
        .run_of_rco (by simp [takeFields]) (by rw [(Contained.judgeToken ..).cfs]; rfl)
      exact (taken.trans (granted _)).law law
  testD1 s := .journey (brake_lawRules.testD1 s) (testD1_trips s) (testD1_runLaw s)
  lifts risen s hold slot := .journey (brake_lawRules.lifts risen s hold slot) (.trips_of_rco rfl) (.run_of_rco rfl rfl)
  drops s slot := .journey (brake_lawRules.drops s slot) (completeStop_trips s) ⟨fun _ => (completeStop_idles s).runLaw⟩
  timer s := .journey (brake_lawRules.timer s) (.trips_of_rco rfl) (.run_of_rco rfl rfl)
  ebSettle s := by
    refine .ite (fun running => ⟨fun law => ?_⟩) fun _ => .refl s
    have slot := law.brakes.seq.slot_of_ebSettle running
    have departing := law.brakes.seq.departure.mp (by rw [slot]; rfl)
    refine ⟨(startD3_brakeLaw (setStepTimer none s) slot).law ((setStepTimer_brakeLaw s).law law.brakes), ?_,
      startD3_runLaw (s := setStepTimer none s) departing ((Keeps.run_of_rco (s := s) (t := setStepTimer none s) rfl rfl).law law.run)⟩
    exact TripLaw.of_same law.trips (by rw [startD3_rco]; rfl) (by rw [startD3_rco]; rfl)
  sbConfirm s := by
    have began : Keeps Trips s ((s.withBks { s.bks with stepTimer := none, faults := s.bks.faults ++ [.sbUnconfirmed] }).setAttention
        .sbConfirm) := .trips_of_rco rfl
    have began' : Keeps RunLaw s ((s.withBks { s.bks with stepTimer := none, faults := s.bks.faults ++ [.sbUnconfirmed] }).setAttention
        .sbConfirm) := .run_of_rco rfl rfl
    exact .journey (brake_lawRules.sbConfirm s) (.ite (fun _ => .after (startS2_trips _) (.after (raiseAs_trips ..) began)) fun _ => .refl s)
      (.ite (fun _ => .after (startS2_runLaw _) (.after (raiseAs_runLaw ..) began')) fun _ => .refl s)
  deenergize s := .journey (brake_lawRules.deenergize s) (deenergizeEb_trips s) (deenergizeEb_runLaw s)
  ebDrop s := .journey (brake_lawRules.ebDrop s) (ebDropEnd_trips s) (ebDropEnd_runLaw s)
  takeHead s := .journey (brake_lawRules.takeHead s) (takeHead_trips s) (takeHead_runLaw s)
  jog s := .journey (brake_lawRules.jog s) (jogExpiry_trips s) (jogExpiry_runLaw s)
  ack c s := .journey_of_rco (by unfold ackExpiry; split <;> simp) (by simp) (Calm.ackExpiry c s).cfs
  close c s := .journey_of_rco (by unfold closeExpiry; split <;> simp) (by simp) (Calm.closeExpiry c s).cfs
  reservation g s := .journey_of_rco (by unfold reservationExpiry; split <;> simp) (by simp) (Calm.reservationExpiry g s).cfs
  exitQuiet p s := .journey_of_rco (by unfold exitQuietExpiry; split <;> simp) (by simp) (Calm.exitQuietExpiry p s).cfs
  stationLost x s := .journey_of_rco (by simp) (by simp) (Calm.stationLost x s).cfs
  load _ _ s := .journey_of_rco rfl rfl rfl
  tally c _ s := .journey_of_rco (by simp) (by simp) (by rw [(Contained.afterTally ..).cfs]; rfl)
  validate x g s := .journey_of_rco (by simp) (by simp) (Contained.decideValidate x g s).cfs
  passage x g s := .journey_of_rco (by simp) (by simp) (Contained.decidePassage x g s).cfs
  gateReport x g f s := .journey_of_rco (by simp) (by simp) (Contained.decideGateReport x g f s).cfs
  mask g s := .journey_of_rco (by simp) (by simp) (Contained.takeOut_masked g s).cfs
  unmask _ s := .journey_of_rco rfl rfl rfl
  requestStop k o s := .journey (brake_lawRules.requestStop k o s) (requestStop_trips k o s) (requestStop_runLaw k o s)
  maintenance s mode := .journey (brake_lawRules.maintenance s mode) (.trips_same rfl rfl)
    (.run_sameBut (Calm.enterMaintenance s) ⟨_, _, _, _, _, _, rfl⟩)
  standby s := .journey (brake_lawRules.standby s) (enterStandby_trips .console s)
    (.run_sameBut (Calm.enterStandby ..) ⟨_, _, _, _, _, _, enterStandby_rco ..⟩)
  service s mode run := .journey (brake_lawRules.service s mode run) (.trips_same (by simp) (by simp))
    (.run_sameBut (Calm.enterService s) ⟨_, _, _, _, _, _, enterService_rco s⟩)
  cancel k s := .journey (brake_lawRules.cancel k s) ⟨fun law => TripLaw.sublist law List.filter_sublist rfl⟩
    ⟨fun law => law.of_same rfl rfl rfl rfl rfl rfl rfl⟩
  holdRunning s may := ⟨fun law => ⟨(brake_lawRules.holdRunning s may).law law.brakes, holdRunning_trips law.run may law.trips,
    (holdRunning_runLaw s).law law.run⟩⟩
  holdClosing s mode run := .journey (brake_lawRules.holdClosing s mode run) (holdClosing_trips s) (holdClosing_runLaw s run)
  jogStart k dir s mode rest ready := ⟨fun law => by
    have auth : s.rco.authority.state = .none := by
      cases run : s.rco.runState <;> simp [RunState.atRest, run] at rest
      · exact law.run.still (.inl run)
      · exact law.run.still (.inr (.inl run))
    refine ⟨(brake_lawRules.jogStart k dir s mode rest ready).law law.brakes, ?_, startDeparture_runLaw k dir ?_ (.inl rfl)⟩
    · exact (startDeparture_trips k dir (s.withRco { s.rco with jogRun := true })).law (TripLaw.of_same law.trips rfl rfl)
    · exact (congrArg AuthState.running auth).trans rfl⟩
  departs t s closing ready held := ⟨fun law => by
    have auth := law.run.still (.inr (.inr closing))
    refine ⟨(brake_lawRules.departs t s closing ready held).law law.brakes, ?_, startDeparture_runLaw t.target s.rco.tripDir ?_ (.inr ?_)⟩
    · exact (startDeparture_trips t.target s.rco.tripDir (s.withRco { s.rco with firstFailing := none })).law
        (TripLaw.of_same law.trips rfl rfl)
    · exact (congrArg AuthState.running auth).trans rfl
    · simp [held]⟩
  brakeReset s slot := .journey (brake_lawRules.brakeReset s slot) (takeBrakeReset_trips s) (takeBrakeReset_runLaw s)
  evacuate c side s _ _ _ := .journey_of_rco (by simp) (by simp) (Calm.orderRelease c side .evacuation s).cfs
  evacuateEnd c s _ _ := .journey_of_rco (by simp) (by simp) (Calm.withdraw c .evacuateEnd s).cfs
  tables x s mode rest := by
    refine .journey (brake_lawRules.tables x s mode rest) (.trips_of_rco rfl) ⟨fun law => ?_⟩
    cases run : s.rco.runState <;> simp [RunState.atRest, run] at rest
    · exact .noAuthority (law.still (.inl run)) (by simp [run]) (by simp [run])
    · exact .noAuthority (law.still (.inr (.inl run))) (by simp [run]) (by simp [run])

/-- Settles O6: the laws of the brakes, the trips and the run hold together after every operation of the blocks. -/
theorem stepKeepsTripLaw : Obligations.StepKeepsTripLaw := by
  intro s t brakes trips run next
  have law : JourneyLaw s := ⟨(brakesLawful_iff s).mp brakes, (tripsLawful_iff _).mp trips, (runLawful_iff s).mp run⟩
  have reset (previous : LineMode) (cause : ResetCause) (a b : Nat) (s : State) (_ : JourneyLaw s) :
      JourneyLaw (resetTo previous cause a b s) :=
    ⟨(brakesLawful_iff _).mp rfl, (tripsLawful_iff _).mp rfl, (runLawful_iff _).mp rfl⟩
  have elapses (s : State) (law : JourneyLaw s) : JourneyLaw s.elapse :=
    ⟨brakeLaw_elapse law.brakes, law.trips.of_same rfl rfl, law.run.of_same rfl rfl rfl rfl rfl rfl rfl⟩
  have kept := journey_lawRules.keeps_step reset elapses law next
  exact ⟨(tripsLawful_iff _).mpr kept.trips, (runLawful_iff t).mpr kept.run⟩

end Sys2Proof.Machine
end

section
/-! Every step keeps the laws that bind the releases, the tokens and the authority (sections 4.2, 7.1 to 7.7). -/

namespace Sys2Proof.Machine

/-! ### What leaves the Door Unit -/

@[simp] theorem setAuthority_dou (a : Authority) (s : State) : (setAuthority a s).dou = s.dou := by
  unfold setAuthority
  dsimp only
  split <;> simp

@[simp] theorem clearAuthority_dou (s : State) : (clearAuthority s).dou = s.dou := setAuthority_dou ..

@[simp] theorem withdrawAuthority_dou (s : State) : (withdrawAuthority s).dou = s.dou := by
  unfold withdrawAuthority
  split <;> simp

@[simp] theorem setRunState_dou (r : RunState) (s : State) : (setRunState r s).dou = s.dou := by
  unfold setRunState
  split <;> rfl

@[simp] theorem returnTrip_dou (s : State) : (returnTrip s).dou = s.dou := by
  unfold returnTrip
  repeat' split
  all_goals rfl

@[simp] theorem startDwell_dou (s : State) : (startDwell s).dou = s.dou := rfl
@[simp] theorem changeMode_dou (m : LineMode) (c : ModeCause) (l : List Trip) (s : State) : (changeMode m c l s).dou = s.dou := rfl
@[simp] theorem takeSnapshot_dou (s : State) : (takeSnapshot s).dou = s.dou := rfl
@[simp] theorem setSlot_dou (x : Slot) (s : State) : (setSlot x s).dou = s.dou := rfl

@[simp] theorem retarget_dou (t : Trip) (s : State) : (retarget t s).dou = s.dou := by simp [retarget]

@[simp] theorem settleAuthority_dou (b : Bool) (s : State) : (settleAuthority b s).dou = s.dou := by cases b <;> simp [settleAuthority]

@[simp] theorem settleWindow_dou (s : State) : (settleWindow s).dou = s.dou := by
  unfold settleWindow
  split <;> simp

@[simp] theorem settleTrip_dou (s : State) : (settleTrip s).dou = s.dou := by
  unfold settleTrip
  cases s.rco.tripInHand with
  | none => rfl
  | some t =>
    dsimp only
    split <;> simp

@[simp] theorem settleRecovery_dou (b : Bool) (s : State) : (settleRecovery b s).dou = s.dou := by
  unfold settleRecovery
  split <;> simp

@[simp] theorem assertSb_dou (s : State) : (assertSb s).dou = s.dou := by
  unfold assertSb
  split <;> rfl

@[simp] theorem setDemand_dou (d : Demand) (s : State) : (setDemand d s).dou = s.dou := by
  unfold setDemand
  split <;> simp

@[simp] theorem startCheckFor_dou (l : Level) (s : State) : (startCheckFor l s).dou = s.dou := by
  unfold startCheckFor
  split <;> rfl

@[simp] theorem escalateTo_dou (l : Level) (s : State) : (escalateTo l s).dou = s.dou := by
  unfold escalateTo
  repeat' split
  all_goals simp [cancelCheck]

@[simp] theorem lossAtBks_dou (s : State) : (lossAtBks s).dou = s.dou := by
  unfold lossAtBks
  split <;> simp

@[simp] theorem lossAtRco_dou (s : State) : (lossAtRco s).dou = s.dou := by
  unfold lossAtRco
  repeat' split
  all_goals simp

@[simp] theorem grantAuthority_dou (s : State) : (grantAuthority s).dou = s.dou := by
  unfold grantAuthority
  simp

/-! ### The door records -/

theorem Car.all_iff {p : Car → Prop} : (∀ c, p c) ↔ p .a ∧ p .b :=
  ⟨fun h => ⟨h .a, h .b⟩, fun ⟨a, b⟩ c => by cases c with | a => exact a | b => exact b⟩

theorem setDoor_dou (c : Car) (d : DoorRecord) (s : State) : (setDoor c d s).dou = s.dou.set c d := by
  unfold setDoor
  split <;> simp [State.withDoor]

theorem orderRelease_dou (c : Car) (side : Side) (kind : ReleaseKind) (s : State) :
    (orderRelease c side kind s).dou = s.dou.set c
      { s.door c with
        counter := nextToken (s.door c).counter, token := nextToken (s.door c).counter, side := side, kind := some kind
        release := .ordered, ackTimer := startMs s.line.ackTime, lastRefused := .none } := setDoor_dou ..

/-- A door record whose release has been taken away (R127 to R131). -/
def DoorRecord.withdrawn (d : DoorRecord) (timeout : Nat) (w : WithdrawalCause) : DoorRecord :=
  { d with
    token := 0, release := .withdrawing, ackTimer := none, closeTimer := startSec timeout, overdue := false, lastWithdrawal := w }

theorem withdraw_dou (c : Car) (w : WithdrawalCause) (s : State) :
    (withdraw c w s).dou = s.dou.set c ((s.door c).withdrawn s.line.closeTimeout w) := by
  unfold withdraw
  dsimp only
  split
  · rw [releaseLost_dou, setDoor_dou]
    rfl
  · rw [setDoor_dou]
    rfl

theorem takeUp_dou (c : Car) (s : State) :
    (takeUp c s).dou = s.dou.set c { s.door c with release := .held, ackTimer := none } := by
  unfold takeUp
  dsimp only
  split
  · rw [releaseHeld_dou]
    rfl
  · rfl

theorem countStale_dou (c : Car) (s : State) :
    (countStale c s).dou = s.dou.set c { s.door c with stale := satInc 255 (s.door c).stale } := rfl

/-- A door record whose withdrawal is complete (R130). -/
def DoorRecord.free (d : DoorRecord) : DoorRecord := { d with release := .none, kind := none, closeTimer := none, overdue := false }

theorem completeWithdrawal_dou (c : Car) (s : State) :
    (completeWithdrawal c s).dou = if (s.door c).door = .closedLocked then s.dou.set c (s.door c).free else s.dou := by
  unfold completeWithdrawal
  dsimp only
  split <;> rfl

/-- The laws of a door record. -/
structure DoorLaw (d : DoorRecord) : Prop where
  token : d.given = true → d.token = d.counter ∧ d.token ≠ 0
  free : d.given = false → d.token = 0
  ack : d.ackTimer.isSome = true → d.release = .ordered
  close : d.closeTimer.isSome = true → d.release = .withdrawing
  overdue : d.overdue = true → d.release = .withdrawing

theorem doorLawful_iff (d : DoorRecord) : d.lawful = true ↔ DoorLaw d := by
  have tokens : (if d.given then d.token == d.counter && d.token != 0 else d.token == 0) = true ↔
      (d.given = true → d.token = d.counter ∧ d.token ≠ 0) ∧ (d.given = false → d.token = 0) := by
    cases d.given <;> simp
  have timers (b : Bool) (r : ReleaseState) : (!b || d.release == r) = true ↔ (b = true → d.release = r) := by cases b <;> simp
  unfold DoorRecord.lawful
  rw [Bool.and_eq_true, Bool.and_eq_true, Bool.and_eq_true, tokens, timers, timers, timers]
  exact ⟨fun ⟨⟨⟨⟨token, free⟩, ack⟩, close⟩, overdue⟩ => ⟨token, free, ack, close, overdue⟩,
    fun ⟨token, free, ack, close, overdue⟩ => ⟨⟨⟨⟨token, free⟩, ack⟩, close⟩, overdue⟩⟩

theorem DoorRecord.given_withdrawn (d : DoorRecord) (n : Nat) (w : WithdrawalCause) : (d.withdrawn n w).given = false := rfl

theorem DoorLaw.withdrawn (d : DoorRecord) (n : Nat) (w : WithdrawalCause) : DoorLaw (d.withdrawn n w) :=
  ⟨fun given => (by cases given), fun _ => rfl, fun ack => (by cases ack), fun _ => rfl, fun overdue => (by cases overdue)⟩

theorem nextToken_ne_zero (t : Fin 16) : nextToken t ≠ 0 := by revert t; decide

/-- A release ordered anew: the timers of a withdrawal do not run (R126). -/
theorem DoorLaw.ordered {d : DoorRecord} (law : DoorLaw d) (release : d.release = .none) {e : DoorRecord} (token : e.token = e.counter)
    (some_ : e.token ≠ 0) (ordered : e.release = .ordered) (close : e.closeTimer = d.closeTimer) (overdue : e.overdue = d.overdue) :
    DoorLaw e := by
  refine ⟨fun _ => ⟨token, some_⟩, fun given => ?_, fun _ => ordered, fun running => ?_, fun late => ?_⟩
  · simp [DoorRecord.given, ordered] at given
  · have := law.close (close ▸ running)
    rw [release] at this
    cases this
  · have := law.overdue (overdue ▸ late)
    rw [release] at this
    cases this

theorem DoorLaw.held {d : DoorRecord} (law : DoorLaw d) (ordered : d.release = .ordered) :
    DoorLaw { d with release := .held, ackTimer := none } := by
  have given : d.given = true := by simp [DoorRecord.given, ordered]
  refine ⟨fun _ => law.token given, fun free => (by cases free), fun ack => (by cases ack), fun close => ?_, fun overdue => ?_⟩
  · cases ordered.symm.trans (law.close close)
  · cases ordered.symm.trans (law.overdue overdue)

/-- What a withdrawal that completes leaves (R130). -/
theorem DoorLaw.freed {d : DoorRecord} (law : DoorLaw d) (withdrawing : d.release = .withdrawing) : DoorLaw d.free := by
  have free : d.given = false := by simp [DoorRecord.given, withdrawing]
  refine ⟨fun given => (by cases given), fun _ => law.free free, fun ack => ?_, fun close => (by cases close), fun overdue => (by cases overdue)⟩
  cases withdrawing.symm.trans (law.ack ack)

/-- A door record whose release fields stay. -/
theorem DoorLaw.of_same {d e : DoorRecord} (law : DoorLaw d) (release : e.release = d.release) (token : e.token = d.token)
    (counter : e.counter = d.counter) (ack : e.ackTimer = d.ackTimer) (close : e.closeTimer = d.closeTimer)
    (overdue : e.overdue = d.overdue) : DoorLaw e := by
  obtain ⟨h1, h2, h3, h4, h5⟩ := law
  unfold DoorRecord.given at h1 h2
  constructor <;> simpa only [DoorRecord.given, release, token, counter, ack, close, overdue]

/-! ### The releases and the authority (R58, R126, R131) -/

/-- The laws that bind the releases and the authority. -/
structure ReleaseLaw (s : State) : Prop where
  door : ∀ c, DoorLaw (s.door c)
  given : ∀ c, (s.door c).given = true → s.msu.standstill = true ∧ s.rco.authority.state = .none
  granted : s.rco.authority.state = .granted → ∀ c, (s.door c).release = .none ∧ (s.door c).door = .closedLocked

theorem releasesLawful_iff (s : State) : s.releasesLawful = true ↔ ReleaseLaw s := by
  have doors : (s.dou.a.lawful && s.dou.b.lawful) = true ↔ ∀ c, DoorLaw (s.door c) := by
    rw [Bool.and_eq_true, doorLawful_iff, doorLawful_iff, Car.all_iff]
    rfl
  have given : (!(s.dou.a.given || s.dou.b.given) || (s.msu.standstill && s.rco.authority.state == .none)) = true ↔
      ∀ c, (s.door c).given = true → s.msu.standstill = true ∧ s.rco.authority.state = .none := by
    rw [Car.all_iff]
    change _ ↔ (s.dou.a.given = true → _) ∧ (s.dou.b.given = true → _)
    cases s.dou.a.given <;> cases s.dou.b.given <;> simp
  have granted : (s.rco.authority.state != .granted || (s.releasesNone && s.doorsLocked)) = true ↔
      (s.rco.authority.state = .granted → ∀ c, (s.door c).release = .none ∧ (s.door c).door = .closedLocked) := by
    rw [Car.all_iff]
    change _ ↔ (_ → (s.dou.a.release = _ ∧ s.dou.a.door = _) ∧ (s.dou.b.release = _ ∧ s.dou.b.door = _))
    simp only [State.releasesNone, State.doorsLocked, Bool.or_eq_true, bne_iff_ne, Bool.and_eq_true, beq_iff_eq]
    grind
  unfold State.releasesLawful
  rw [Bool.and_eq_true, Bool.and_eq_true, doors, given, granted]
  exact ⟨fun ⟨⟨door, given⟩, granted⟩ => ⟨door, given, granted⟩, fun ⟨door, given, granted⟩ => ⟨⟨door, given⟩, granted⟩⟩

section
variable {s t : State}

/-- The doors and standstill are the same, and the authority stays, becomes NONE, or is withdrawn. -/
theorem Keeps.releases_eased (dou : t.dou = s.dou) (still : t.msu.standstill = s.msu.standstill)
    (auth : t.rco.authority.state = s.rco.authority.state ∨ t.rco.authority.state = .none ∨
      (s.rco.authority.state = .granted ∧ t.rco.authority.state = .withdrawn)) : Keeps ReleaseLaw s t := by
  refine ⟨fun law => ?_⟩
  have door (c : Car) : t.door c = s.door c := by rw [State.door, dou]; rfl
  refine ⟨fun c => by rw [door]; exact law.door c, fun c given => ?_, fun granted c => ?_⟩
  · rw [door] at given
    obtain ⟨stands, none⟩ := law.given c given
    refine ⟨still.trans stands, ?_⟩
    rcases auth with same | none' | ⟨granted, -⟩
    · exact same.trans none
    · exact none'
    · cases none.symm.trans granted
  · rw [door]
    rcases auth with same | none | ⟨-, withdrawn⟩
    · exact law.granted (same.symm.trans granted) c
    · cases none.symm.trans granted
    · cases withdrawn.symm.trans granted

theorem Keeps.releases_same (dou : t.dou = s.dou) (still : t.msu.standstill = s.msu.standstill)
    (auth : t.rco.authority.state = s.rco.authority.state) : Keeps ReleaseLaw s t := .releases_eased dou still (.inl auth)

theorem Keeps.releases_calm (calm : Calm s t) (dou : t.dou = s.dou) (auth : t.rco.authority.state = s.rco.authority.state) :
    Keeps ReleaseLaw s t := .releases_same dou (by rw [calm.msu]) auth

/-- One door record changes, keeping its own law; a release newly given, or not NONE, does not meet an authority. -/
theorem ReleaseLaw.setDoor (law : ReleaseLaw s) {c : Car} {d : DoorRecord} (dou : t.dou = s.dou.set c d) (rco : t.rco = s.rco)
    (msu : t.msu = s.msu) (door : DoorLaw d) (given : d.given = true → s.msu.standstill = true ∧ s.rco.authority.state = .none)
    (granted : s.rco.authority.state = .granted → d.release = .none ∧ d.door = .closedLocked) : ReleaseLaw t := by
  have same : t.door c = d := by simp [State.door, dou]
  have other {e : Car} (h : e ≠ c) : t.door e = s.door e := by simp [State.door, dou, PerCar.get_set_other _ _ h]
  refine ⟨fun e => ?_, fun e => ?_, fun auth e => ?_⟩ <;> by_cases h : e = c
  · rw [h, same]
    exact door
  · rw [other h]
    exact law.door e
  · rw [h, same, msu, rco]
    exact given
  · rw [other h, msu, rco]
    exact law.given e
  · rw [h, same]
    exact granted (rco ▸ auth)
  · rw [other h]
    exact law.granted (rco ▸ auth) e

/-- A given release may be taken away (R127 to R131). -/
theorem withdraw_releases (c : Car) (w : WithdrawalCause) (s : State) (given : (s.door c).given = true) :
    Keeps ReleaseLaw s (withdraw c w s) := by
  refine ⟨fun law => law.setDoor (withdraw_dou c w s) (withdraw_rco ..) (Calm.withdraw ..).msu (.withdrawn ..) nofun fun auth => ?_⟩
  cases (law.given c given).2.symm.trans auth

theorem withdrawPlatform_releases (w : WithdrawalCause) (s : State) (c : Car) : Keeps ReleaseLaw s (withdrawPlatform w s c) := by
  refine .ite (fun h => withdraw_releases c w s ?_) fun _ => .refl s
  exact ((Bool.and_eq_true ..).mp h).1

/-- A release is ordered where none stands, at standstill and without an authority (R126, R134). -/
theorem orderRelease_releases (c : Car) (side : Side) (kind : ReleaseKind) (s : State) (stands : s.msu.standstill = true)
    (auth : s.rco.authority.state = .none) (release : (s.door c).release = .none) : Keeps ReleaseLaw s (orderRelease c side kind s) := by
  refine ⟨fun law => law.setDoor (orderRelease_dou ..) (orderRelease_rco ..) (Calm.orderRelease ..).msu ?_ (fun _ => ⟨stands, auth⟩)
    fun granted => ?_⟩
  · exact (law.door c).ordered release rfl (nextToken_ne_zero _) rfl rfl rfl
  · cases auth.symm.trans granted

/-- A field of a door record that no law reads. -/
theorem withDoor_releases (c : Car) {d : DoorRecord} (s : State) (release : d.release = (s.door c).release) (door : d.door = (s.door c).door)
    (token : d.token = (s.door c).token) (counter : d.counter = (s.door c).counter) (ack : d.ackTimer = (s.door c).ackTimer)
    (close : d.closeTimer = (s.door c).closeTimer) (overdue : d.overdue = (s.door c).overdue) (t : State) (dou : t.dou = s.dou.set c d)
    (rco : t.rco = s.rco) (msu : t.msu = s.msu) : Keeps ReleaseLaw s t := by
  refine ⟨fun law => law.setDoor dou rco msu ((law.door c).of_same release token counter ack close overdue) (fun given => ?_)
    fun auth => ?_⟩
  · exact law.given c (by simpa only [DoorRecord.given, release] using given)
  · rw [release, door]
    exact law.granted auth c

/-- What stands where the conditions of a platform release hold (R126). -/
theorem releaseTest_passed {c : Car} {k : Fin 6} {p : Fin 8} (passed : releaseTest c s = .inr (k, p)) :
    (s.rco.runState = .atStop ∧ s.rco.currentStop = some k ∧ (s.stopEntry k).platform c = some p) ∧
      s.msu.standstill = true ∧ s.bks.slot = .idle ∧ s.rco.authority.state = .none ∧ (s.door c).release = .none := by
  unfold releaseTest at passed
  split at passed
  · rename_i j run stop
    cases platform : (s.stopEntry j).platform c with
    | none =>
      rw [platform] at passed
      cases passed
    | some q =>
      simp only [platform] at passed
      repeat' split at passed
      all_goals cases passed
      simp_all
  · cases passed

theorem askRelease_releases (s : State) (c : Car) : Keeps ReleaseLaw s (askRelease s c) := by
  unfold askRelease
  split
  · rename_i reason _
    exact withDoor_releases c (d := { s.door c with lastRefused := reason }) s rfl rfl rfl rfl rfl rfl rfl _ rfl rfl rfl
  · rename_i k p passed
    obtain ⟨-, stands, -, auth, release⟩ := releaseTest_passed passed
    exact orderRelease_releases c _ _ s stands auth release

theorem askReleases_releases (s : State) : Keeps ReleaseLaw s (askReleases s) := by
  unfold askReleases
  split
  · exact .foldl (fun t c => .ite (fun _ => askRelease_releases t c) fun _ => .refl t) _ s
  · exact .refl s

/-! #### The Run Coordinator's operations -/

theorem beginClosing_releases (s : State) : Keeps ReleaseLaw s (beginClosing s) := by
  unfold beginClosing
  refine .after (.foldl (withdrawPlatform_releases .closing) _ _) (.releases_same (by simp) ?_ (by simp))
  rw [((Calm.closeAll .closing _).after (Calm.setRunState .closing s)).msu]

theorem takeHead_releases (s : State) : Keeps ReleaseLaw s (takeHead s) := by
  rcases takeHead_cases s with same | ⟨-, same | ⟨_, _, -, -, same⟩⟩ <;> rw [same]
  · exact .refl s
  · exact .releases_same rfl rfl rfl
  · exact .after (beginClosing_releases _) (.releases_same (s := s) rfl rfl rfl)

theorem enterStandby_releases (c : ModeCause) (s : State) : Keeps ReleaseLaw s (enterStandby c s) := by
  unfold enterStandby
  refine .after (.foldl (withdrawPlatform_releases .standby) _ _) (.releases_same (by simp) ?_ (by simp))
  rw [(Calm.closeAll .mode _).msu]
  rfl

theorem settle_releases (b : Bool) (s : State) : Keeps ReleaseLaw s (settle b s) := by
  have authority : Keeps ReleaseLaw s (settleAuthority b s) := by
    refine .releases_eased (by simp) (by rw [(Calm.settleAuthority b s).msu]) ?_
    cases b with
    | false => exact .inl rfl
    | true => exact .inr (.inl (by simp [settleAuthority, Authority.reset]))
  have window (t : State) : Keeps ReleaseLaw t (settleWindow t) :=
    .releases_calm (Calm.settleWindow t) (by simp) (by unfold settleWindow; split <;> simp)
  have trip (t : State) : Keeps ReleaseLaw t (settleTrip t) := by
    refine .releases_calm (Calm.settleTrip t) (by simp) ?_
    unfold settleTrip
    cases t.rco.tripInHand with
    | none => rfl
    | some x =>
      dsimp only
      split <;> simp
  have recovery (t : State) : Keeps ReleaseLaw t (settleRecovery b t) :=
    .releases_calm (Calm.settleRecovery b t) (by simp) (by unfold settleRecovery; split <;> rfl)
  have effects (t : State) : Keeps ReleaseLaw t (settleEffects t) :=
    .ite (fun _ => .after (askReleases_releases _) (.releases_same (s := t) rfl rfl rfl)) fun _ =>
      .ite (fun _ => takeHead_releases t) fun _ => .refl t
  exact .after (effects _) (.after (recovery _) (.after (trip _) (.after (window _) authority)))

theorem completeStop_releases (s : State) : Keeps ReleaseLaw s (completeStop s) :=
  .after (settle_releases ..) (.releases_same (s := s) rfl rfl rfl)

theorem awaitDrop_releases (s : State) : Keeps ReleaseLaw s (awaitDrop s) :=
  .ite (fun _ => .releases_same rfl rfl rfl) fun _ => completeStop_releases s

theorem deenergizeEb_releases (s : State) : Keeps ReleaseLaw s (deenergizeEb s) :=
  .ite (fun _ => .ite (fun _ => .after (awaitDrop_releases _) (.releases_same (s := s) rfl rfl rfl)) fun _ => .releases_same rfl rfl rfl)
    fun _ => .releases_same rfl rfl rfl

theorem startS2_releases (s : State) : Keeps ReleaseLaw s (startS2 s) := by
  unfold startS2
  exact .ite (fun _ => .ite (fun _ => .after (deenergizeEb_releases _) (.releases_same (s := s) rfl rfl rfl)) fun _ =>
    .releases_same rfl rfl rfl) fun _ => .after (awaitDrop_releases _) (.releases_same (s := s) rfl rfl rfl)

theorem assertSb_releases (s : State) : Keeps ReleaseLaw s (assertSb s) := .releases_calm (Calm.assertSb s) (by simp) (by simp)

theorem startStop_releases (s : State) : Keeps ReleaseLaw s (startStop s) := by
  have step (w : StepTimer) (n : Nat) (t : State) : Keeps ReleaseLaw t (startStep w n t) := .releases_same rfl rfl rfl
  have began : Keeps ReleaseLaw s (s.withBks { s.bks with slot := .stop .s1, faults := [], stepTimer := none }) :=
    .releases_same rfl rfl rfl
  have asserted := began.trans (assertSb_releases _)
  unfold startStop
  exact .ite (fun _ => asserted.trans (startS2_releases _)) fun _ => asserted.trans (step ..)

theorem beginStop_releases (s : State) : Keeps ReleaseLaw s (beginStop s) := by
  have began : Keeps ReleaseLaw s ((setRunState .stopping s).withRco { (setRunState .stopping s).rco with jogTimer := none }) :=
    .releases_same (by simp) (by rw [← (Calm.setRunState .stopping s).msu]; rfl) (by simp)
  exact began.trans (startStop_releases _)

theorem setRunState_releases (r : RunState) (s : State) : Keeps ReleaseLaw s (setRunState r s) :=
  .releases_calm (Calm.setRunState r s) (by simp) (by simp)

theorem returnTrip_releases (s : State) : Keeps ReleaseLaw s (returnTrip s) := .releases_calm (Calm.returnTrip s) (by simp) (by simp)

theorem abortAtRco_releases (s : State) : Keeps ReleaseLaw s (abortAtRco s) := by
  have cleared : Keeps ReleaseLaw s (clearAuthority s) :=
    .releases_eased (by simp) (by rw [(Calm.clearAuthority s).msu]) (.inr (.inl (by simp [Authority.reset])))
  have counted (t : State) : Keeps ReleaseLaw t (countAbort t) := by
    have count (n : Nat) : Keeps ReleaseLaw t (t.withRco { t.rco with abortCount := n }) := .releases_same rfl rfl rfl
    have told (u : State) : Keeps ReleaseLaw u (u.setAttention .abortLimit) := .releases_same rfl rfl rfl
    unfold countAbort
    exact .ite (fun _ => ((count 3).trans (enterStandby_releases ..)).trans (told _)) fun _ => count _
  have set_ (t : State) : Keeps ReleaseLaw t (t.withRco { t.rco with brakesSet := true }) := .releases_same rfl rfl rfl
  have jog (t : State) : Keeps ReleaseLaw t (t.withRco { t.rco with jogRun := false }) := .releases_same rfl rfl rfl
  have aborted : Keeps ReleaseLaw s s.abortCounted :=
    (((cleared.trans (set_ _)).trans (returnTrip_releases _)).trans (jog _)).trans (counted _)
  rw [abortAtRco_eq]
  exact aborted.trans (.ite (fun _ => settle_releases ..) fun _ => setRunState_releases ..)

theorem abortDeparture_releases (c : AbortCause) (s : State) : Keeps ReleaseLaw s (abortDeparture c s) := by
  unfold abortDeparture
  split
  · exact .after (abortAtRco_releases _) (.trans (.trans (.releases_same (s := s) (t := setStepTimer none s) rfl rfl rfl)
      (assertSb_releases _)) (.releases_same rfl rfl rfl))
  · exact .refl s

theorem withdrawAuthority_releases (s : State) : Keeps ReleaseLaw s (withdrawAuthority s) := by
  refine .releases_eased (by simp) (by rw [(Calm.withdrawAuthority s).msu]) ?_
  rw [withdrawAuthority_rco]
  unfold Authority.taken
  split
  · rename_i granted
    exact .inr (.inr ⟨granted, rfl⟩)
  · exact .inl rfl

theorem arrest_releases (s : State) : Keeps ReleaseLaw s (arrest s) := by
  have arrested : Keeps ReleaseLaw s (setRunState .arrested s) := setRunState_releases ..
  unfold arrest
  cases s.rco.runState with
  | running => exact .ite (fun _ => beginStop_releases s) fun _ => .trans arrested (.releases_same rfl rfl rfl)
  | atStop => exact .ite (fun _ => .refl s) fun _ => arrested
  | offStop => exact .ite (fun _ => .refl s) fun _ => arrested
  | closing => exact .ite (fun _ => .refl s) fun _ => .trans arrested (returnTrip_releases _)
  | _ => exact .refl s

theorem setRailOrder_releases (o : RailOrder) (s : State) : Keeps ReleaseLaw s (setRailOrder o s) := by
  refine .foldl (fun t c => ?_) _ s
  exact withDoor_releases c (d := { t.door c with railOrder := o }) t rfl rfl rfl rfl rfl rfl rfl _ (setDoor_dou ..) (setDoor_rco ..)
    (Calm.setDoor c { t.door c with railOrder := o } t rfl rfl rfl rfl rfl).msu

theorem raiseAs_releases (a : AbortCause) (c : Cause) (l : Level) (s : State) : Keeps ReleaseLaw s (raiseAs a c l s) := by
  have closed (t : State) : Keeps ReleaseLaw t (closeAll .latch t) :=
    .releases_calm (Calm.closeAll .latch t) (by simp) (by simp)
  have told (t : State) : Keeps ReleaseLaw t (t.setAttention .brakeLatched) := .releases_same rfl rfl rfl
  have reached (t : State) : Keeps ReleaseLaw t (reachService a t) :=
    (((((assertSb_releases t).trans (withdrawAuthority_releases _)).trans (arrest_releases _)).trans (closed _)).trans
      (abortDeparture_releases a _)).trans (told _)
  have taken (d : Demand) : Keeps ReleaseLaw s (setDemand d s) := .releases_calm (Calm.setDemand d s) (by simp) (by simp)
  have serviced (before : Level) (t : State) : Keeps ReleaseLaw t (t.atService before a) := .ite (fun _ => reached t) fun _ => .refl t
  have dropped (before : Level) (t : State) : Keeps ReleaseLaw t (t.atEmergency before a) :=
    .ite (fun _ => (serviced before t).trans (deenergizeEb_releases _)) fun _ => serviced before t
  have railed (before : Level) (t : State) : Keeps ReleaseLaw t (t.atRail before a) :=
    .ite (fun _ => (dropped before t).trans (setRailOrder_releases ..)) fun _ => dropped before t
  have escalated (l : Level) (t : State) : Keeps ReleaseLaw t (escalateTo l t) :=
    .releases_calm (Calm.escalateTo l t) (by simp) (by simp)
  unfold raiseAs
  rw [latchRise_eq]
  exact .ite (fun _ => taken _) fun _ => ((taken _).trans (railed ..)).trans (escalated ..)

theorem raise_setAttention_releases (c : Cause) (l : Level) (i : Attention) (s : State) :
    Keeps ReleaseLaw s (raise c l (s.setAttention i)) :=
  .after (raiseAs_releases ..) (.releases_same (s := s) rfl rfl rfl)

/-! #### Where every given release is taken away (R131) -/

/-- The laws of the releases but for what binds a given release to standstill and the authority. -/
structure DoorsLaw (s : State) : Prop where
  door : ∀ c, DoorLaw (s.door c)
  granted : s.rco.authority.state = .granted → ∀ c, (s.door c).release = .none ∧ (s.door c).door = .closedLocked

theorem DoorsLaw.withdrawGiven (law : DoorsLaw s) (w : WithdrawalCause) (c : Car) : DoorsLaw (withdrawGiven w s c) := by
  unfold Machine.withdrawGiven
  split
  · rename_i given
    have same : (withdraw c w s).door c = (s.door c).withdrawn s.line.closeTimeout w := by simp [State.door, withdraw_dou]
    have other {e : Car} (h : e ≠ c) : (withdraw c w s).door e = s.door e := by
      simp [State.door, withdraw_dou, PerCar.get_set_other _ _ h]
    refine ⟨fun e => ?_, fun auth => ?_⟩
    · by_cases h : e = c
      · rw [h, same]
        exact .withdrawn ..
      · rw [other h]
        exact law.door e
    · have none := (law.granted (by simpa using auth) c).1
      simp [DoorRecord.given, none] at given
  · exact law

theorem withdrawGiven_given (w : WithdrawalCause) (s : State) (c e : Car) (given : ((withdrawGiven w s c).door e).given = true) :
    e ≠ c ∧ (s.door e).given = true := by
  unfold withdrawGiven at given
  split at given
  · by_cases h : e = c
    · rw [h, show (withdraw c w s).door c = (s.door c).withdrawn s.line.closeTimeout w by simp [State.door, withdraw_dou]] at given
      cases given
    · rw [show (withdraw c w s).door e = s.door e by simp [State.door, withdraw_dou, PerCar.get_set_other _ _ h]] at given
      exact ⟨h, given⟩
  · rename_i free
    exact ⟨fun h => free (h ▸ given), given⟩

theorem DoorsLaw.withdrawAll (law : DoorsLaw s) (w : WithdrawalCause) : ReleaseLaw (allCars.foldl (Machine.withdrawGiven w) s) := by
  have kept := (law.withdrawGiven w .a).withdrawGiven w .b
  refine ⟨kept.door, fun c given => ?_, kept.granted⟩
  obtain ⟨notB, given⟩ := withdrawGiven_given w _ .b c given
  obtain ⟨notA, -⟩ := withdrawGiven_given w _ .a c given
  cases c with
  | a => exact absurd rfl notA
  | b => exact absurd rfl notB

theorem DoorsLaw.of_same (law : DoorsLaw s) (dou : t.dou = s.dou) (auth : t.rco.authority.state = s.rco.authority.state) : DoorsLaw t := by
  obtain ⟨door, granted⟩ := law
  constructor <;> simpa only [State.door, dou, auth]

theorem loseStandstill_releases (s : State) : Keeps ReleaseLaw s (loseStandstill s) := by
  refine ⟨fun law => DoorsLaw.withdrawAll (DoorsLaw.of_same ⟨law.door, law.granted⟩ (by simp) ?_) _⟩
  rw [lossAtBks_rco]
  unfold lossAtRco
  repeat' split
  all_goals simp

theorem startD3_releases (s : State) : Keeps ReleaseLaw s (startD3 s) := by
  refine ⟨fun law => ?_⟩
  have proving : DoorsLaw (setAuthority { (setSlot (.departure .d3) s).rco.authority with state := .prove } (setSlot (.departure .d3) s)) := by
    refine ⟨fun c => ?_, fun auth => by simp at auth⟩
    rw [State.door, setAuthority_dou]
    exact law.door c
  have step (t : State) : Keeps ReleaseLaw t (startStep .torqueProve Config.torqueProve t) := .releases_same rfl rfl rfl
  exact (step _).law (proving.withdrawAll .prove)

end

/-! #### A CAR REPORT (R125, R127, R128, R130, R132) -/

/-- The laws of the releases but for what the authority asks of one car, whose report is being taken. -/
structure Judged (c : Car) (s : State) : Prop where
  door : ∀ e, DoorLaw (s.door e)
  given : ∀ e, (s.door e).given = true → s.msu.standstill = true ∧ s.rco.authority.state = .none
  granted : s.rco.authority.state = .granted → ∀ e, e ≠ c → (s.door e).release = .none ∧ (s.door e).door = .closedLocked

section
variable {s t : State} {c : Car}

theorem ReleaseLaw.judged (law : ReleaseLaw s) (c : Car) : Judged c s := ⟨law.door, law.given, fun auth e _ => law.granted auth e⟩

theorem Judged.setDoor (law : Judged c s) {d : DoorRecord} (dou : t.dou = s.dou.set c d) (rco : t.rco = s.rco) (msu : t.msu = s.msu)
    (door : DoorLaw d) (given : d.given = true → (s.door c).given = true) : Judged c t := by
  have same : t.door c = d := by simp [State.door, dou]
  have other {e : Car} (h : e ≠ c) : t.door e = s.door e := by simp [State.door, dou, PerCar.get_set_other _ _ h]
  refine ⟨fun e => ?_, fun e => ?_, fun auth e h => ?_⟩
  · by_cases h : e = c
    · rw [h, same]
      exact door
    · rw [other h]
      exact law.door e
  · by_cases h : e = c
    · rw [h, same, msu, rco]
      exact fun g => law.given c (given g)
    · rw [other h, msu, rco]
      exact law.given e
  · rw [other h]
    exact law.granted (rco ▸ auth) e h

theorem Judged.takeFields (law : Judged c s) (door : DoorCond) (token : Option (Fin 16)) (rail : RailCond) (fault : Bool) :
    Judged c (takeFields c door token rail fault s) :=
  law.setDoor rfl rfl rfl ((law.door c).of_same rfl rfl rfl rfl rfl rfl) id

theorem Judged.countStale (law : Judged c s) : Judged c (countStale c s) :=
  law.setDoor (countStale_dou c s) rfl rfl ((law.door c).of_same rfl rfl rfl rfl rfl rfl) id

theorem Judged.withdraw (law : Judged c s) (w : WithdrawalCause) : Judged c (withdraw c w s) :=
  law.setDoor (withdraw_dou c w s) (withdraw_rco ..) (Calm.withdraw c w s).msu (.withdrawn ..) nofun

theorem Judged.takeUp (law : Judged c s) (ordered : (s.door c).release = .ordered) : Judged c (takeUp c s) :=
  law.setDoor (takeUp_dou c s) (takeUp_rco ..) (Contained.takeUp c s).msu ((law.door c).held ordered)
    fun _ => by simp [DoorRecord.given, ordered]

theorem Judged.completeWithdrawal (law : Judged c s) (withdrawing : (s.door c).release = .withdrawing) :
    Judged c (completeWithdrawal c s) := by
  unfold Machine.completeWithdrawal
  dsimp only
  split
  · exact law.setDoor rfl rfl rfl ((law.door c).freed withdrawing) nofun
  · exact law

/-- Judging the reported token keeps the laws, but for what the authority asks of the car (R128). -/
theorem Judged.judgeToken (law : Judged c s) (token : Option (Fin 16)) : Judged c (judgeToken c token s) := by
  unfold Machine.judgeToken
  dsimp only
  cases release : (s.door c).release with
  | none =>
    dsimp only
    split
    · exact law
    · exact law.countStale.withdraw .stale
  | ordered =>
    dsimp only
    repeat' split
    · exact law.takeUp release
    · exact law
    · exact law.countStale
  | held =>
    dsimp only
    repeat' split
    · exact law
    · exact (law.withdraw .carDropped).completeWithdrawal (by simp [State.door, withdraw_dou, DoorRecord.withdrawn])
    · exact law.countStale
  | withdrawing =>
    dsimp only
    repeat' split
    · exact law.completeWithdrawal release
    · exact law
    · exact law.countStale

/-- Where the car is not as a GRANTED authority asks, the authority is withdrawn (R132). -/
theorem Judged.doorsWhileGranted (law : Judged c s) : ReleaseLaw (doorsWhileGranted c s) := by
  unfold Machine.doorsWhileGranted
  split
  · refine (raiseAs_releases ..).law ?_
    have door (e : Car) : (withdrawAuthority s).door e = s.door e := by rw [State.door, withdrawAuthority_dou]; rfl
    have ends : (withdrawAuthority s).rco.authority.state ≠ .granted := by
      rw [withdrawAuthority_rco]
      unfold Authority.taken
      split
      · exact nofun
      · assumption
    refine ⟨fun e => by rw [door]; exact law.door e, fun e given => ?_, fun auth => absurd auth ends⟩
    rw [door] at given
    obtain ⟨stands, none⟩ := law.given e given
    refine ⟨by rw [(Calm.withdrawAuthority s).msu]; exact stands, ?_⟩
    rw [withdrawAuthority_rco, Authority.taken, if_neg (by rw [none]; decide)]
    exact none
  · rename_i fits
    refine ⟨law.door, law.given, fun auth e => ?_⟩
    by_cases h : e = c
    · rw [h]
      refine ⟨Decidable.byContradiction fun release => fits ⟨auth, .inr release⟩,
        Decidable.byContradiction fun door => fits ⟨auth, .inl door⟩⟩
    · exact law.granted auth e h

end

/-! #### The operations -/

theorem takeAsked_releases (l : Level) (s : State) : Keeps ReleaseLaw s (takeAsked l s) := by
  unfold takeAsked
  exact .ite (fun _ => .after (raiseAs_releases ..) (.releases_same (s := s) rfl rfl rfl)) fun _ =>
    .releases_calm (Calm.setDemand ..) (by simp) (by simp)

theorem standstillAtRco_releases (s : State) : Keeps ReleaseLaw s (standstillAtRco s) := by
  unfold standstillAtRco
  cases s.rco.runState with
  | arrested => exact .ite (fun _ => settle_releases ..) fun _ => beginStop_releases s
  | running =>
    dsimp only
    split
    · exact .ite (fun _ => beginStop_releases s) fun _ => .refl s
    · exact .ite (fun _ => beginStop_releases s) fun _ => .refl s
    · exact .refl s
  | _ => exact .refl s

theorem confirmStandstill_releases (s : State) : Keeps ReleaseLaw s (confirmStandstill s) := by
  have confirmed : Keeps ReleaseLaw s (s.withMsu { s.msu with standstill := true, standstillTimer := none }) :=
    ⟨fun law => ⟨law.door, fun c given => ⟨rfl, (law.given c given).2⟩, law.granted⟩⟩
  have cancelled (t : State) : Keeps ReleaseLaw t (cancelCheck t) := .releases_same rfl rfl rfl
  exact (confirmed.trans (standstillAtRco_releases _)).trans (cancelled _)

theorem testD1_releases (s : State) : Keeps ReleaseLaw s (testD1 s) := by
  unfold testD1 startD2
  exact .ite (fun _ => .ite (fun _ => .after (raise_setAttention_releases ..) (.releases_same (s := s) rfl rfl rfl)) fun _ =>
    .releases_same rfl rfl rfl) fun _ => .refl s

theorem startDeparture_releases (k : Fin 6) (dir : Dir) (s : State) : Keeps ReleaseLaw s (startDeparture k dir s) := by
  have aimed : Keeps ReleaseLaw s (setAuthority
      { s.rco.authority with targetStop := some k, targetPosition := some (s.stopEntry k).position, dir := some dir } s) :=
    .releases_calm (Calm.setAuthority ..) (by simp) (by simp)
  have free (t : State) : Keeps ReleaseLaw t (t.withRco { t.rco with brakesSet := false }) := .releases_same rfl rfl rfl
  have slot (t : State) : Keeps ReleaseLaw t (takeSnapshot (setSlot (.departure .d1) t)) := .releases_same rfl rfl rfl
  have timer (t : State) : Keeps ReleaseLaw t (startStep .railConfirm Config.railConfirm t) := .releases_same rfl rfl rfl
  have departs := (aimed.trans (setRunState_releases .departing _)).trans (free _)
  exact (((departs.trans (slot _)).trans (setRailOrder_releases ..)).trans (timer _)).trans (testD1_releases _)

/-- The grant is made where both releases are NONE and both cars CLOSED_LOCKED (R58, R72). -/
theorem completeD4_releases (s : State) : Keeps ReleaseLaw s (completeD4 s) := by
  refine .ite (fun holds => ⟨fun law => ?_⟩) fun _ => abortDeparture_releases _ s
  have door (c : Car) : (grantAuthority s).door c = s.door c := by rw [State.door, grantAuthority_dou]; rfl
  have free : ∀ c, (s.door c).release = .none ∧ (s.door c).door = .closedLocked := by
    simp only [State.lawHolds, State.releasesNone, State.doorsLocked, Bool.and_eq_true, beq_iff_eq] at holds
    exact Car.all_iff.mpr ⟨⟨holds.1.1, holds.2.1⟩, ⟨holds.1.2, holds.2.2⟩⟩
  refine ⟨fun c => by rw [door]; exact law.door c, fun c given => ?_, fun _ c => by rw [door]; exact free c⟩
  rw [door, DoorRecord.given, (free c).1] at given
  cases given

theorem driveStep_releases (r : DriveReport) (s : State) : Keeps ReleaseLaw s (driveStep r s) := by
  unfold driveStep
  split
  · exact .ite (fun _ => .releases_same rfl rfl rfl) fun _ => .refl s
  · exact .ite (fun _ => .after (completeD4_releases _) (.releases_same (s := s) rfl rfl rfl)) fun _ => .refl s
  · exact .ite (fun _ => startS2_releases s) fun _ => .refl s
  · exact .refl s

theorem sbConfirmEnd_releases (s : State) : Keeps ReleaseLaw s (sbConfirmEnd s) := by
  have began : Keeps ReleaseLaw s
      ((s.withBks { s.bks with stepTimer := none, faults := s.bks.faults ++ [.sbUnconfirmed] }).setAttention .sbConfirm) :=
    .releases_same rfl rfl rfl
  exact .ite (fun _ => (began.trans (raiseAs_releases ..)).trans (startS2_releases _)) fun _ => .refl s

theorem ebDropEnd_releases (s : State) : Keeps ReleaseLaw s (ebDropEnd s) := by
  have timer : Keeps ReleaseLaw s (setStepTimer none s) := .releases_same rfl rfl rfl
  have listed (t : State) : Keeps ReleaseLaw t (t.withBks { t.bks with faults := t.bks.faults ++ [.ebUnconfirmed] }) :=
    .releases_same rfl rfl rfl
  exact .ite (fun _ => ((timer.trans (raise_setAttention_releases ..)).trans (listed _)).trans (completeStop_releases _)) fun _ => .refl s

theorem jogExpiry_releases (s : State) : Keeps ReleaseLaw s (jogExpiry s) := by
  unfold jogExpiry
  refine .ite (fun _ => ?_) fun _ => .refl s
  dsimp only
  split
  · rename_i granted _
    have withdrawn (a : Authority) (h : a.state = .withdrawn) :
        Keeps ReleaseLaw s (setAuthority a (s.withRco { s.rco with jogTimer := none })) :=
      .releases_eased (by simp) (by rw [(Calm.setAuthority ..).msu]; rfl) (.inr (.inr ⟨granted, by simp [h]⟩))
    exact .ite (fun _ => (withdrawn _ rfl).trans (beginStop_releases _)) fun _ => withdrawn _ rfl
  · exact .releases_same rfl rfl rfl

theorem ackExpiry_releases (c : Car) (s : State) : Keeps ReleaseLaw s (ackExpiry c s) := by
  refine .ite (fun running => ⟨fun law => ?_⟩) fun _ => .refl s
  have given : (s.door c).given = true := by simp [DoorRecord.given, (law.door c).ack running]
  have told (t : State) : Keeps ReleaseLaw t (t.setAttention .doorAckLate) := .releases_same rfl rfl rfl
  exact (told _).law ((withdraw_releases c .ackLate s given).law law)

theorem closeExpiry_releases (c : Car) (s : State) : Keeps ReleaseLaw s (closeExpiry c s) := by
  refine .ite (fun running => ⟨fun law => ?_⟩) fun _ => .refl s
  have withdrawing := (law.door c).close running
  have door := law.door c
  refine law.setDoor (c := c) rfl rfl rfl ⟨door.token, door.free, door.ack, nofun, fun _ => withdrawing⟩ (law.given c) fun auth => ?_
  exact law.granted auth c

theorem requestStop_releases (k : Fin 6) (o : Origin) (s : State) : Keeps ReleaseLaw s (requestStop k o s).1 := by
  have queued (q : List Trip) : Keeps ReleaseLaw s (s.withRco { s.rco with queue := q }) := .releases_same rfl rfl rfl
  have retargeted (t : Trip) (u : State) : Keeps ReleaseLaw u (retarget t u) :=
    .releases_calm (Calm.retarget t u) (by simp) (by simp [retarget_rco])
  unfold requestStop joinTrip insertTrip
  dsimp only
  repeat' split
  · exact .refl s
  · exact .refl s
  · exact .releases_same rfl rfl rfl
  · exact queued _
  · exact .refl s
  · exact ((queued _).trans (retargeted ..)).trans (takeHead_releases _)
  · exact (queued _).trans (takeHead_releases _)

theorem holdRunning_releases (s : State) : Keeps ReleaseLaw s (holdRunning s).1 := by
  have retargeted (t : Trip) : Keeps ReleaseLaw s (retarget t s) :=
    .releases_calm (Calm.retarget t s) (by simp) (by simp [retarget_rco])
  unfold holdRunning
  repeat' split
  · exact .refl s
  · exact retargeted _
  · exact retargeted _
  · exact .refl s

theorem holdClosing_releases (s : State) : Keeps ReleaseLaw s (holdClosing s) := by
  have dwell (t : State) : Keeps ReleaseLaw t (startDwell t) := .releases_same rfl rfl rfl
  unfold holdClosing
  refine .after (takeHead_releases _) ((returnTrip_releases s).trans ?_)
  exact .ite (fun _ => (setRunState_releases ..).trans (dwell _)) fun _ => setRunState_releases ..

theorem takeBrakeReset_releases (s : State) : Keeps ReleaseLaw s (takeBrakeReset s) := by
  have cleared : Keeps ReleaseLaw s (setDemand s.bks.demand.cleared (s.withBks { s.bks with esc := Escalation.reset })) :=
    .releases_same (by simp) (by rw [(Calm.setDemand ..).msu]; rfl) (by simp)
  have changed (t : State) : Keeps ReleaseLaw t (changeMode .recovery .brakeReset [] t) := .releases_same rfl rfl rfl
  exact .ite (fun _ => (cleared.trans (changed _)).trans (takeHead_releases _)) fun _ => cleared

theorem enterService_releases (s : State) : Keeps ReleaseLaw s (enterService s) := by
  have changed : Keeps ReleaseLaw s (startDwell (changeMode .service .console [] s)) := .releases_same rfl rfl rfl
  exact changed.trans (askReleases_releases _)

theorem Keeps.releases_contained {s t : State} (h : Contained s t) (dou : t.dou = s.dou) (rco : t.rco = s.rco) : Keeps ReleaseLaw s t :=
  .releases_same dou (by rw [h.msu]) (by rw [rco])

@[simp] theorem decideValidate_dou (x : Sta) (g : Fin 16) (s : State) : (decideValidate x g s).1.dou = s.dou := by
  unfold decideValidate
  dsimp only
  repeat' split
  all_goals simp

@[simp] theorem passGate_dou (g : Fin 16) (s : State) : (passGate g s).1.dou = s.dou := by
  unfold passGate
  split <;> simp [countUnreserved]

@[simp] theorem decidePassage_dou (x : Sta) (g : Fin 16) (s : State) : (decidePassage x g s).1.dou = s.dou := by
  unfold decidePassage
  dsimp only
  repeat' split
  all_goals simp [countUnattributed]

@[simp] theorem decideGateReport_dou (x : Sta) (g : Fin 16) (fault : Byte) (s : State) : (decideGateReport x g fault s).1.dou = s.dou := by
  unfold decideGateReport
  dsimp only
  repeat' split
  all_goals simp

/-- Every operation of the blocks keeps the laws of the releases. -/
theorem release_lawRules : LawRules ReleaseLaw where
  blind := by
    intro s t same law
    obtain ⟨_, _, _, _, _, _, rco⟩ := same.rco
    exact (Keeps.releases_same same.dou same.standstill (by rw [rco])).law law
  raise a c l s _ := raiseAs_releases a c l s
  asked := takeAsked_releases
  lose := loseStandstill_releases
  confirm := confirmStandstill_releases
  arrive s _ := beginStop_releases s
  abort := abortDeparture_releases
  drive r s := by
    have followed : Keeps ReleaseLaw s (followSb r.sb s) := by
      unfold followSb
      exact .ite (fun _ => .releases_same rfl rfl rfl) fun _ => .refl s
    exact followed.trans (driveStep_releases r _)
  report c door token rail fault s := ⟨fun law => (((law.judged c).takeFields door token rail fault).judgeToken token).doorsWhileGranted⟩
  testD1 := testD1_releases
  lifts _ _ _ _ := .releases_same rfl rfl rfl
  drops s _ := completeStop_releases s
  timer _ := .releases_same rfl rfl rfl
  ebSettle s := by
    have timer : Keeps ReleaseLaw s (setStepTimer none s) := .releases_same rfl rfl rfl
    exact .ite (fun _ => timer.trans (startD3_releases _)) fun _ => .refl s
  sbConfirm := sbConfirmEnd_releases
  deenergize := deenergizeEb_releases
  ebDrop := ebDropEnd_releases
  takeHead := takeHead_releases
  jog := jogExpiry_releases
  ack := ackExpiry_releases
  close := closeExpiry_releases
  reservation g s := .releases_calm (Calm.reservationExpiry g s) (by unfold reservationExpiry; split <;> simp)
    (by unfold reservationExpiry; split <;> simp)
  exitQuiet p s := .releases_calm (Calm.exitQuietExpiry p s) (by unfold exitQuietExpiry; split <;> simp)
    (by unfold exitQuietExpiry; split <;> simp)
  stationLost x s := .releases_calm (Calm.stationLost x s) (by simp) (by simp)
  load _ _ s := .releases_same rfl rfl rfl
  tally c _ s := .releases_same (by simp) (by rw [(Contained.afterTally ..).msu]; rfl) (by simp)
  validate x g s := .releases_contained (Contained.decideValidate x g s) (by simp) (by simp)
  passage x g s := .releases_contained (Contained.decidePassage x g s) (by simp) (by simp)
  gateReport x g f s := .releases_contained (Contained.decideGateReport x g f s) (by simp) (by simp)
  mask g s := .releases_contained (Contained.takeOut_masked g s) (by simp) (by simp)
  unmask _ s := .releases_same rfl rfl rfl
  requestStop := requestStop_releases
  maintenance _ _ := .releases_same rfl rfl rfl
  standby := enterStandby_releases .console
  service s _ _ := enterService_releases s
  cancel _ s := .releases_same rfl rfl rfl
  holdRunning s _ := holdRunning_releases s
  holdClosing s _ _ := holdClosing_releases s
  jogStart k dir s _ _ _ := by
    have jogs : Keeps ReleaseLaw s (s.withRco { s.rco with jogRun := true }) := .releases_same rfl rfl rfl
    exact jogs.trans (startDeparture_releases ..)
  departs t s _ _ _ := by
    have ready : Keeps ReleaseLaw s (s.withRco { s.rco with firstFailing := none }) := .releases_same rfl rfl rfl
    exact ready.trans (startDeparture_releases ..)
  brakeReset s _ := takeBrakeReset_releases s
  evacuate c side s stands auth release := orderRelease_releases c side .evacuation s stands auth release
  evacuateEnd c s _ given := withdraw_releases c .evacuateEnd s given
  tables _ s _ _ := .releases_same rfl rfl rfl

/-- Time runs a door's timers down alone. -/
theorem DoorLaw.tick {d : DoorRecord} (law : DoorLaw d) : DoorLaw d.tick := by
  have running (t : Timer) : t.tick.isSome = t.isSome := by cases t <;> rfl
  obtain ⟨token, free, ack, close, overdue⟩ := law
  exact ⟨token, free, fun h => ack (by rwa [← running]), fun h => close (by rwa [← running]), overdue⟩

theorem releaseLaw_elapse {s : State} (law : ReleaseLaw s) : ReleaseLaw s.elapse := by
  have door (c : Car) : s.elapse.door c = (s.door c).tick := by cases c <;> rfl
  exact ⟨fun c => by rw [door]; exact (law.door c).tick, fun c given => law.given c (by rw [door] at given; exact given),
    fun auth c => by rw [door]; exact law.granted auth c⟩

/-- Settles O5: a release is ordered only at standstill without an authority, every given one is taken away where either ends, and the
grant is made and stands only with both cars free and locked. -/
theorem stepKeepsReleaseLaw : Obligations.StepKeepsReleaseLaw := by
  intro s t law next
  have reset (previous : LineMode) (cause : ResetCause) (a b : Nat) (s : State) (_ : ReleaseLaw s) :
      ReleaseLaw (resetTo previous cause a b s) := (releasesLawful_iff _).mp rfl
  exact (releasesLawful_iff t).mpr
    (release_lawRules.keeps_step reset (fun _ => releaseLaw_elapse) ((releasesLawful_iff s).mp law) next)

end Sys2Proof.Machine
end

section
/-! What the Admission Unit's operations make of the gates and the sessions, and that they keep the laws of the waiting lists and the
reservation counts (sections 8.1 to 8.6). -/

namespace Sys2Proof.Machine

/-! ### Notices leave the Admission Unit -/

@[simp] theorem handNotice_adu (s : State) (n : Notice) : (handNotice s n).adu = s.adu := (SameBlocks.handNotice s n).adu
@[simp] theorem noticeGate_adu (g : Fin 16) (a : NoticeAnswer) (r : Reason) (s : State) : (noticeGate g a r s).adu = s.adu :=
  handNotice_adu ..

@[simp] theorem noticeGate_gate (g : Fin 16) (a : NoticeAnswer) (r : Reason) (s : State) (e : Fin 16) :
    (noticeGate g a r s).gate e = s.gate e := by rw [State.gate, noticeGate_adu]; rfl

@[simp] theorem noticeGate_session (g : Fin 16) (a : NoticeAnswer) (r : Reason) (s : State) (p : Fin 8) :
    (noticeGate g a r s).session p = s.session p := by rw [State.session, noticeGate_adu]; rfl

/-! ### The laws of the gates and the sessions -/

/-- The gate is RESERVED, at the platform. -/
def State.reservedOf (s : State) (p : Fin 8) (g : Fin 16) : Bool := (s.gate g).state == .reserved && s.gateOf p g

/-- The laws of the gates and the sessions, the line mode apart. -/
structure AduLaw (s : State) : Prop where
  timer : ∀ g, (s.gate g).timer.isSome = true ↔ (s.gate g).state = .reserved
  closed : ∀ p, (s.session p).isOpen = false →
    (s.session p).waiting = [] ∧ (s.session p).reservations = 0 ∧ (s.session p).quietTimer = none
  present : ∀ g, (s.gate g).state ≠ .idle → (s.gateEntry g).present = true
  nodup : ∀ p, (s.session p).waiting.Nodup
  waits : ∀ p g, g ∈ (s.session p).waiting ↔ (s.gate g).state = .waiting ∧ (s.gateEntry g).platform = p
  reserves : ∀ p, (s.session p).reservations = allIndices.countP (s.reservedOf p)

/-- A count over a list without repetition, where the predicate changes at one member. -/
theorem countP_change {α : Type} [DecidableEq α] {l : List α} (nodup : l.Nodup) {a : α} (mem : a ∈ l) {p q : α → Bool}
    (same : ∀ b, b ≠ a → q b = p b) : l.countP q + (p a).toNat = l.countP p + (q a).toNat := by
  induction l with
  | nil => cases mem
  | cons x l ih =>
    obtain ⟨new, nodup⟩ := List.nodup_cons.mp nodup
    simp only [List.countP_cons]
    by_cases here : x = a
    · subst here
      have rest : l.countP q = l.countP p := List.countP_congr fun b inL => by rw [same b fun h => new (h ▸ inL)]
      rw [rest]
      cases p x <;> cases q x <;> simp
    · have inRest := (List.mem_cons.mp mem).resolve_left fun h => here h.symm
      have counted := ih nodup inRest
      rw [same x here]
      omega

theorem allIndices_nodup : allIndices.Nodup := by decide
theorem mem_allIndices (g : Fin 16) : g ∈ allIndices := by revert g; decide
theorem mem_allPlatforms (p : Fin 8) : p ∈ allPlatforms := by revert p; decide

section
variable {s t : State}

/-- What the law reads of the gates, the sessions and the tables is the same, but that an open session may have its quiet timer. -/
theorem AduLaw.of_same (law : AduLaw s) (tables : t.cfs.tables = s.cfs.tables)
    (gates : ∀ g, (t.gate g).state = (s.gate g).state ∧ (t.gate g).timer.isSome = (s.gate g).timer.isSome)
    (sessions : ∀ p, (t.session p).waiting = (s.session p).waiting ∧ (t.session p).reservations = (s.session p).reservations ∧
      ((t.session p).isOpen = false → (s.session p).isOpen = false ∧ ((s.session p).quietTimer = none → (t.session p).quietTimer = none))) :
    AduLaw t := by
  have entry (g : Fin 16) : t.gateEntry g = s.gateEntry g := by rw [State.gateEntry, tables]; rfl
  refine ⟨fun g => ?_, fun p shut => ?_, fun g => ?_, fun p => ?_, fun p g => ?_, fun p => ?_⟩
  · rw [(gates g).1, (gates g).2]
    exact law.timer g
  · obtain ⟨waiting, reservations, open_⟩ := sessions p
    obtain ⟨shut, quiet⟩ := open_ shut
    obtain ⟨none, zero, still⟩ := law.closed p shut
    exact ⟨waiting.trans none, reservations.trans zero, quiet still⟩
  · rw [(gates g).1, entry]
    exact law.present g
  · rw [(sessions p).1]
    exact law.nodup p
  · rw [(sessions p).1, (gates g).1, entry]
    exact law.waits p g
  · rw [(sessions p).2.1, law.reserves p]
    refine List.countP_congr fun g _ => ?_
    simp only [State.reservedOf, State.gateOf, (gates g).1, entry]

/-- The gates, the sessions and the tables are the same. -/
theorem AduLaw.of_adu (law : AduLaw s) (tables : t.cfs.tables = s.cfs.tables) (gates : t.adu.gates = s.adu.gates)
    (sessions : t.adu.sessions = s.adu.sessions) : AduLaw t := by
  have gate (g : Fin 16) : t.gate g = s.gate g := by rw [State.gate, gates]; rfl
  have session (p : Fin 8) : t.session p = s.session p := by rw [State.session, sessions]; rfl
  exact law.of_same tables (fun g => by rw [gate]; exact ⟨rfl, rfl⟩)
    fun p => by rw [session]; exact ⟨rfl, rfl, fun shut => ⟨shut, id⟩⟩

/-- One gate moves, and the session of its platform with it: its waiting list gains or loses the gate, its count follows. -/
theorem AduLaw.move (law : AduLaw s) {g : Fin 16} (tables : t.cfs.tables = s.cfs.tables)
    (gates : ∀ e, e ≠ g → t.gate e = s.gate e) (sessions : ∀ q, q ≠ (s.gateEntry g).platform → t.session q = s.session q)
    (timer : (t.gate g).timer.isSome = true ↔ (t.gate g).state = .reserved)
    (present : (t.gate g).state ≠ .idle → (s.gateEntry g).present = true)
    (closed : (t.session (s.gateEntry g).platform).isOpen = false → (t.session (s.gateEntry g).platform).waiting = [] ∧
      (t.session (s.gateEntry g).platform).reservations = 0 ∧ (t.session (s.gateEntry g).platform).quietTimer = none)
    (nodup : (t.session (s.gateEntry g).platform).waiting.Nodup)
    (waits : ∀ e, e ∈ (t.session (s.gateEntry g).platform).waiting ↔
      (e = g ∧ (t.gate g).state = .waiting) ∨ (e ≠ g ∧ e ∈ (s.session (s.gateEntry g).platform).waiting))
    (reserves : (t.session (s.gateEntry g).platform).reservations + ((s.gate g).state == .reserved).toNat =
      (s.session (s.gateEntry g).platform).reservations + ((t.gate g).state == .reserved).toNat) : AduLaw t := by
  have entry (e : Fin 16) : t.gateEntry e = s.gateEntry e := by rw [State.gateEntry, tables]; rfl
  refine ⟨fun e => ?_, fun p => ?_, fun e => ?_, fun p => ?_, fun p e => ?_, fun p => ?_⟩
  · by_cases h : e = g
    · rw [h]
      exact timer
    · rw [gates e h]
      exact law.timer e
  · by_cases h : p = (s.gateEntry g).platform
    · rw [h]
      exact closed
    · rw [sessions p h]
      exact law.closed p
  · rw [entry]
    by_cases h : e = g
    · rw [h]
      exact present
    · rw [gates e h]
      exact law.present e
  · by_cases h : p = (s.gateEntry g).platform
    · rw [h]
      exact nodup
    · rw [sessions p h]
      exact law.nodup p
  · rw [entry]
    by_cases at_ : p = (s.gateEntry g).platform
    · rw [at_, waits]
      by_cases h : e = g
      · simp [h]
      · rw [gates e h, law.waits]
        simp [h]
    · rw [sessions p at_, law.waits]
      by_cases h : e = g
      · rw [h]
        exact ⟨fun there => absurd there.2.symm at_, fun there => absurd there.2.symm at_⟩
      · rw [gates e h]
  · have other (q : Fin 8) (e : Fin 16) (h : e ≠ g) : t.reservedOf q e = s.reservedOf q e := by
      simp only [State.reservedOf, State.gateOf, gates e h, entry]
    have counted := countP_change allIndices_nodup (mem_allIndices g) (other p)
    have before := law.reserves p
    by_cases at_ : p = (s.gateEntry g).platform
    · subst at_
      have here (u : State) (h : u.gateEntry g = s.gateEntry g) :
          u.reservedOf (s.gateEntry g).platform g = ((u.gate g).state == .reserved) := by simp [State.reservedOf, State.gateOf, h]
      rw [here t (entry g), here s rfl] at counted
      omega
    · have away (u : State) (h : u.gateEntry g = s.gateEntry g) : u.reservedOf p g = false := by
        simp [State.reservedOf, State.gateOf, h, Ne.symm at_]
      rw [away t (entry g), away s rfl] at counted
      rw [sessions p at_]
      omega

/-! ### Gates that leave a session (R142, R143, R151, R152) -/

theorem leaveList_gates (g : Fin 16) (s : State) :
    (leaveList g s).gate g = { s.gate g with state := .idle, timer := none } ∧
      ∀ e, e ≠ g → (leaveList g s).gate e = s.gate e := by
  unfold leaveList idleGate
  exact ⟨by simp, fun e h => by simp [State.gate_withGate_other _ _ h]⟩

theorem leaveList_sessions (g : Fin 16) (s : State) :
    (leaveList g s).session (s.gateEntry g).platform =
        { s.session (s.gateEntry g).platform with waiting := (s.session (s.gateEntry g).platform).waiting.erase g } ∧
      ∀ q, q ≠ (s.gateEntry g).platform → (leaveList g s).session q = s.session q := by
  unfold leaveList idleGate
  exact ⟨by simp, fun q h => by simp [State.session_withSession_other _ _ h]⟩

theorem AduLaw.leaveList (law : AduLaw s) {g : Fin 16} (waiting : (s.gate g).state = .waiting) : AduLaw (leaveList g s) := by
  obtain ⟨gate, gates⟩ := leaveList_gates g s
  obtain ⟨session, sessions⟩ := leaveList_sessions g s
  have listed : g ∈ (s.session (s.gateEntry g).platform).waiting := (law.waits _ g).mpr ⟨waiting, rfl⟩
  refine law.move (congrArg Cfs.tables (Calm.leaveList g s).cfs) gates sessions ?_ ?_ ?_ ?_ ?_ ?_ <;> simp only [gate, session]
  · simp
  · simp
  · intro shut
    rw [(law.closed _ shut).1] at listed
    cases listed
  · exact (law.nodup _).erase g
  · intro e
    rw [(law.nodup _).mem_erase_iff]
    simp
  · rw [waiting]
    rfl

theorem giveUp_gates (g : Fin 16) (s : State) :
    (giveUp g s).gate g = { s.gate g with state := .idle, timer := none } ∧ ∀ e, e ≠ g → (giveUp g s).gate e = s.gate e := by
  unfold giveUp idleGate
  exact ⟨by simp, fun e h => by simp [State.gate_withGate_other _ _ h]⟩

theorem giveUp_sessions (g : Fin 16) (s : State) :
    (giveUp g s).session (s.gateEntry g).platform =
        { s.session (s.gateEntry g).platform with reservations := (s.session (s.gateEntry g).platform).reservations - 1 } ∧
      ∀ q, q ≠ (s.gateEntry g).platform → (giveUp g s).session q = s.session q := by
  unfold giveUp idleGate
  exact ⟨by simp, fun q h => by simp [State.session_withSession_other _ _ h]⟩

/-- A RESERVED gate counts at its platform. -/
theorem AduLaw.reservations_pos (law : AduLaw s) {g : Fin 16} (reserved : (s.gate g).state = .reserved) :
    0 < (s.session (s.gateEntry g).platform).reservations := by
  rw [law.reserves, List.countP_pos_iff]
  exact ⟨g, mem_allIndices g, by simp [State.reservedOf, State.gateOf, reserved]⟩

theorem AduLaw.giveUp (law : AduLaw s) {g : Fin 16} (reserved : (s.gate g).state = .reserved) : AduLaw (giveUp g s) := by
  obtain ⟨gate, gates⟩ := giveUp_gates g s
  obtain ⟨session, sessions⟩ := giveUp_sessions g s
  have counted := law.reservations_pos reserved
  refine law.move (congrArg Cfs.tables (Calm.giveUp g s).cfs) gates sessions ?_ ?_ ?_ ?_ ?_ ?_ <;> simp only [gate, session]
  · simp
  · simp
  · intro shut
    rw [(law.closed _ shut).2.1] at counted
    cases counted
  · exact law.nodup _
  · intro e
    by_cases h : e = g
    · subst h
      simp [law.waits, reserved]
    · simp [h]
  · simp only [reserved, beq_self_eq_true, Bool.toNat_true]
    have idle : (GateState.idle == GateState.reserved).toNat = 0 := rfl
    omega

/-! ### Grants (R148, R150) -/

theorem reserve_gates (p : Fin 8) (g : Fin 16) (s : State) :
    (reserve p g s).gate g =
        { s.gate g with
          state := .reserved, admissions := satInc 255 (s.gate g).admissions, timer := startSec s.line.reservationTimeout } ∧
      ∀ e, e ≠ g → (reserve p g s).gate e = s.gate e := by
  unfold reserve
  exact ⟨by simp, fun e h => by simp [State.gate_withGate_other _ _ h]⟩

theorem reserve_sessions (p : Fin 8) (g : Fin 16) (s : State) :
    (reserve p g s).session p = { s.session p with reservations := (s.session p).reservations + 1 } ∧
      ∀ q, q ≠ p → (reserve p g s).session q = s.session q := by
  unfold reserve
  exact ⟨by simp, fun q h => by simp [State.session_withSession_other _ _ h]⟩

/-- A direct admission reserves for an IDLE gate of an open session (R149). -/
theorem AduLaw.reserve (law : AduLaw s) {g : Fin 16} (idle : (s.gate g).state = .idle) (present : (s.gateEntry g).present = true)
    (open_ : (s.session (s.gateEntry g).platform).isOpen = true) : AduLaw (reserve (s.gateEntry g).platform g s) := by
  obtain ⟨gate, gates⟩ := reserve_gates (s.gateEntry g).platform g s
  obtain ⟨session, sessions⟩ := reserve_sessions (s.gateEntry g).platform g s
  refine law.move (congrArg Cfs.tables (Calm.reserve _ g s).cfs) gates sessions ?_ ?_ ?_ ?_ ?_ ?_ <;> simp only [gate, session]
  · simp [startSec]
  · exact fun _ => present
  · intro shut
    rw [open_] at shut
    cases shut
  · exact law.nodup _
  · intro e
    by_cases h : e = g
    · subst h
      simp [law.waits, idle]
    · simp [h]
  · simp [idle]

theorem grant_gates (p : Fin 8) (g : Fin 16) (s : State) :
    (grant p g s).gate g =
        { s.gate g with
          state := .reserved, admissions := satInc 255 (s.gate g).admissions, timer := startSec s.line.reservationTimeout } ∧
      ∀ e, e ≠ g → (grant p g s).gate e = s.gate e := by
  obtain ⟨gate, gates⟩ := reserve_gates p g (s.withSession p { s.session p with waiting := (s.session p).waiting.erase g })
  unfold grant
  exact ⟨by rw [noticeGate_gate, gate]; rfl, fun e h => by rw [noticeGate_gate, gates e h]; rfl⟩

theorem grant_sessions (p : Fin 8) (g : Fin 16) (s : State) :
    (grant p g s).session p =
        { s.session p with waiting := (s.session p).waiting.erase g, reservations := (s.session p).reservations + 1 } ∧
      ∀ q, q ≠ p → (grant p g s).session q = s.session q := by
  obtain ⟨session, sessions⟩ := reserve_sessions p g (s.withSession p { s.session p with waiting := (s.session p).waiting.erase g })
  unfold grant
  exact ⟨by simpa using session, fun q h => by simpa [State.session_withSession_other _ _ h] using sessions q h⟩

/-- A grant moves a gate from the waiting list to the reservations (R150). -/
theorem AduLaw.grant (law : AduLaw s) {p : Fin 8} {g : Fin 16} (listed : g ∈ (s.session p).waiting) : AduLaw (grant p g s) := by
  obtain ⟨waiting, rfl⟩ := (law.waits p g).mp listed
  obtain ⟨gate, gates⟩ := grant_gates (s.gateEntry g).platform g s
  obtain ⟨session, sessions⟩ := grant_sessions (s.gateEntry g).platform g s
  refine law.move (congrArg Cfs.tables (Calm.grant _ g s).cfs) gates sessions ?_ ?_ ?_ ?_ ?_ ?_ <;> simp only [gate, session]
  · simp [startSec]
  · exact fun _ => law.present g (by rw [waiting]; decide)
  · intro shut
    rw [(law.closed _ shut).1] at listed
    cases listed
  · exact (law.nodup _).erase g
  · intro e
    rw [(law.nodup _).mem_erase_iff]
    simp
  · simp [waiting]

/-- The gate that a grant chooses is one of the list. -/
theorem chosen_mem {l : List (Fin 16)} {g : Fin 16} (h : s.chosen l = some g) : g ∈ l := by
  have preferred (l : List (Fin 16)) (x : Fin 16) : l.foldl s.prefer x = x ∨ l.foldl s.prefer x ∈ l := by
    induction l generalizing x with
    | nil => exact .inl rfl
    | cons y rest ih =>
      rcases ih (s.prefer x y) with same | mem
      · have one : s.prefer x y = x ∨ s.prefer x y = y := by
          unfold State.prefer
          repeat' split
          all_goals simp
        rcases one with first | second
        · exact .inl (same.trans first)
        · exact .inr (List.mem_cons.mpr (.inl (same.trans second)))
      · exact .inr (List.mem_cons_of_mem _ mem)
  cases l with
  | nil => cases h
  | cons x rest =>
    cases h
    rcases preferred rest x with same | mem
    · rw [same]
      exact List.mem_cons_self
    · exact List.mem_cons_of_mem _ mem

theorem AduLaw.grantWaiting (p : Fin 8) (n : Nat) : ∀ {s : State}, AduLaw s → AduLaw (grantWaiting p n s) := by
  induction n with
  | zero => exact id
  | succ n ih =>
    intro s law
    unfold Machine.grantWaiting
    split
    · split
      · rename_i g chosen
        exact ih (law.grant (chosen_mem chosen))
      · exact law
    · exact law

theorem AduLaw.evaluatePolicy (law : AduLaw s) (p : Fin 8) : AduLaw (evaluatePolicy s p) := law.grantWaiting ..

/-! ### Closing a session (R146) -/

/-- A gate once it is IDLE. -/
def GateChannel.idled (x : GateChannel) : GateChannel := { x with state := .idle, timer := none }

theorem foldl_closeWaiting (l : List (Fin 16)) (s : State) (e : Fin 16) :
    (l.foldl closeWaiting s).gate e = if e ∈ l then (s.gate e).idled else s.gate e := by
  have one (s : State) (g e : Fin 16) : (closeWaiting s g).gate e = if e = g then (s.gate e).idled else s.gate e := by
    unfold closeWaiting idleGate
    split
    · rename_i h
      subst h
      simp [GateChannel.idled]
    · rename_i h
      simp [State.gate_withGate_other _ _ h]
  induction l generalizing s with
  | nil => rfl
  | cons g l ih =>
    rw [List.foldl_cons, ih, one]
    by_cases here : e = g <;> by_cases later : e ∈ l <;> simp [here, later, GateChannel.idled]

theorem closeReserved_gate (p : Fin 8) (s : State) (g e : Fin 16) :
    (closeReserved p s g).gate e = if e = g ∧ s.reservedAt p e = true then (s.gate e).idled else s.gate e := by
  unfold closeReserved idleGate
  by_cases h : e = g
  · subst h
    split <;> simp [*, GateChannel.idled]
  · split <;> simp [h, State.gate_withGate_other _ _ h]

theorem foldl_closeReserved (p : Fin 8) (l : List (Fin 16)) (s : State) (e : Fin 16) :
    (l.foldl (closeReserved p) s).gate e = if e ∈ l ∧ s.reservedAt p e = true then (s.gate e).idled else s.gate e := by
  have entry (s : State) (g e : Fin 16) : (closeReserved p s g).gateEntry e = s.gateEntry e := by
    rw [State.gateEntry, (Calm.closeReserved p s g).cfs]
    rfl
  induction l generalizing s with
  | nil => simp
  | cons g l ih =>
    rw [List.foldl_cons, ih]
    by_cases here : e = g ∧ s.reservedAt p e = true
    · have idled : (closeReserved p s g).gate e = (s.gate e).idled := by rw [closeReserved_gate, if_pos here]
      have free : (closeReserved p s g).reservedAt p e = false := by simp [State.reservedAt, idled, GateChannel.idled]
      rw [free, idled, if_neg (by simp), if_pos ⟨List.mem_cons.mpr (.inl here.1), here.2⟩]
    · have same : (closeReserved p s g).gate e = s.gate e := by rw [closeReserved_gate, if_neg here]
      have still : (closeReserved p s g).reservedAt p e = s.reservedAt p e := by simp [State.reservedAt, same, entry]
      rw [same, still]
      refine ite_congr (propext ?_) (fun _ => rfl) fun _ => rfl
      rw [List.mem_cons]
      grind

theorem foldl_session {f : State → Fin 16 → State} (h : ∀ s g p, (f s g).session p = s.session p) (l : List (Fin 16)) (s : State)
    (p : Fin 8) : (l.foldl f s).session p = s.session p := by
  induction l generalizing s with
  | nil => rfl
  | cons g l ih => rw [List.foldl_cons, ih, h]

/-- A session that has closed (R146). -/
def Session.shut (x : Session) (r : CloseReason) : Session :=
  { x with waiting := [], reservations := 0, quietTimer := none, isOpen := false, lastClose := r }

theorem closeSession_sessions (r : CloseReason) (p q : Fin 8) (s : State) :
    (closeSession r s p).session q = if q = p ∧ (s.session p).isOpen = true then (s.session p).shut r else s.session q := by
  have waited (l : List (Fin 16)) (u : State) (q : Fin 8) : (l.foldl closeWaiting u).session q = u.session q :=
    foldl_session (fun u g q => by simp [closeWaiting, idleGate]) l u q
  have reserved (l : List (Fin 16)) (u : State) (q : Fin 8) : (l.foldl (closeReserved p) u).session q = u.session q :=
    foldl_session (fun u g q => by unfold closeReserved; split <;> simp [idleGate]) l u q
  unfold closeSession
  by_cases open_ : (s.session p).isOpen = true
  · rw [if_pos open_]
    by_cases h : q = p
    · subst h
      simp [open_, waited, reserved, Session.shut]
    · simp [h, State.session_withSession_other _ _ h, waited, reserved]
  · simp [open_]

/-- The gates of a session that closes become IDLE; no other gate changes (R146). -/
theorem closeSession_gates (law : AduLaw s) (r : CloseReason) (p : Fin 8) (e : Fin 16) :
    (closeSession r s p).gate e =
      if (s.session p).isOpen = true ∧ (s.gateEntry e).platform = p ∧ (s.gate e).state ≠ .idle then (s.gate e).idled else s.gate e := by
  unfold closeSession
  by_cases open_ : (s.session p).isOpen = true
  · have waiting := law.waits p e
    have there := law.present e
    have entry : ((s.session p).waiting.foldl closeWaiting s).gateEntry e = s.gateEntry e := by
      rw [State.gateEntry, (Calm.foldl (fun u g => Calm.closeWaiting u g) _ s).cfs]
      rfl
    rw [if_pos open_]
    simp only [State.gate_withSession, foldl_closeReserved, foldl_closeWaiting, mem_allIndices, true_and, State.reservedAt, entry, open_]
    cases state : (s.gate e).state with
    | idle => simp [waiting, state]
    | waiting =>
      by_cases at_ : (s.gateEntry e).platform = p <;> simp [waiting, state, at_, GateChannel.idled]
    | reserved =>
      by_cases at_ : (s.gateEntry e).platform = p <;> simp [waiting, state, at_, there (by rw [state]; decide)]
  · simp [open_]

theorem AduLaw.closeSession (law : AduLaw s) (r : CloseReason) (p : Fin 8) : AduLaw (closeSession r s p) := by
  have tables := (Calm.closeSession r s p).cfs
  have entry (e : Fin 16) : (Machine.closeSession r s p).gateEntry e = s.gateEntry e := by rw [State.gateEntry, tables]; rfl
  have gate := closeSession_gates law r p
  have session := closeSession_sessions r p
  by_cases open_ : (s.session p).isOpen = true
  · refine ⟨fun g => ?_, fun q => ?_, fun g => ?_, fun q => ?_, fun q g => ?_, fun q => ?_⟩
    · rw [gate]
      split
      · simp [GateChannel.idled]
      · exact law.timer g
    · rw [session]
      split
      · exact fun _ => ⟨rfl, rfl, rfl⟩
      · exact law.closed q
    · rw [gate, entry]
      split
      · exact fun busy => absurd rfl busy
      · exact law.present g
    · rw [session]
      split
      · exact List.nodup_nil
      · exact law.nodup q
    · rw [session, gate, entry]
      have waiting := law.waits q g
      by_cases here : q = p
      · subst here
        by_cases at_ : (s.gateEntry g).platform = q <;> by_cases busy : (s.gate g).state = .idle <;>
          simp [open_, at_, busy, Session.shut, GateChannel.idled]
      · by_cases at_ : (s.gateEntry g).platform = p
        · have away : (s.gateEntry g).platform ≠ q := fun h => here (h.symm.trans at_)
          simp [here, waiting, away]
        · simp [here, at_, waiting]
    · rw [session]
      by_cases here : q = p
      · subst here
        rw [if_pos ⟨rfl, open_⟩]
        refine (List.countP_eq_zero.mpr fun g _ => ?_).symm
        simp only [State.reservedOf, State.gateOf, gate, entry]
        by_cases at_ : (s.gateEntry g).platform = q <;> by_cases busy : (s.gate g).state = .idle <;>
          simp [open_, at_, busy, GateChannel.idled]
      · rw [if_neg fun h => here h.1, law.reserves q]
        refine List.countP_congr fun g _ => ?_
        simp only [State.reservedOf, State.gateOf, gate, entry]
        by_cases at_ : (s.gateEntry g).platform = p
        · simp [at_, Ne.symm here]
        · simp [at_]
  · have same : Machine.closeSession r s p = s := by
      unfold Machine.closeSession
      rw [if_neg open_]
    rwa [same]

end

end Sys2Proof.Machine
end

section
/-! Every step keeps the laws of the gates and of the sessions (sections 8.1 to 8.6, 2.2). -/

namespace Sys2Proof.Machine

/-! ### The Admission Unit's operations -/

/-- The laws of the gates and the sessions stay, and no session opens. -/
structure AduStep (s t : State) : Prop where
  law : AduLaw s → AduLaw t
  opens : ∀ p, (t.session p).isOpen = true → (s.session p).isOpen = true

namespace AduStep

theorem refl (s : State) : AduStep s s := ⟨id, fun _ => id⟩

theorem trans {s t u : State} (a : AduStep s t) (b : AduStep t u) : AduStep s u :=
  ⟨fun law => b.law (a.law law), fun p h => a.opens p (b.opens p h)⟩

theorem ite {s a b : State} {c : Prop} [Decidable c] (ha : c → AduStep s a) (hb : ¬c → AduStep s b) : AduStep s (if c then a else b) := by
  split
  · exact ha ‹_›
  · exact hb ‹_›

theorem foldl {α : Type} {f : State → α → State} (hf : ∀ s x, AduStep s (f s x)) (l : List α) (s : State) : AduStep s (l.foldl f s) := by
  induction l generalizing s with
  | nil => exact .refl s
  | cons x l ih => exact (hf s x).trans (ih _)

section
variable {s t : State}

/-- The gates, the sessions and the tables are the same. -/
theorem of_adu (tables : t.cfs.tables = s.cfs.tables) (gates : t.adu.gates = s.adu.gates) (sessions : t.adu.sessions = s.adu.sessions) :
    AduStep s t :=
  ⟨fun law => law.of_adu tables gates sessions, fun p h => by rw [State.session, sessions] at h; exact h⟩

theorem of_blocks (tables : t.cfs = s.cfs) (adu : t.adu = s.adu) : AduStep s t :=
  .of_adu (by rw [tables]) (by rw [adu]) (by rw [adu])

/-- One gate changes in fields that no law reads. -/
theorem withGate (s : State) (g : Fin 16) {x : GateChannel} (state : x.state = (s.gate g).state)
    (timer : x.timer.isSome = (s.gate g).timer.isSome) : AduStep s (s.withGate g x) := by
  refine ⟨fun law => law.of_same rfl (fun e => ?_) fun p => ⟨rfl, rfl, fun h => ⟨h, id⟩⟩, fun p h => h⟩
  by_cases h : e = g
  · rw [h, State.gate_withGate_same]
    exact ⟨state, timer⟩
  · rw [State.gate_withGate_other _ _ h]
    exact ⟨rfl, rfl⟩

/-- One session changes in fields that no law reads, or its exit quiet timer does. -/
theorem withSession (s : State) (p : Fin 8) {x : Session} (waiting : x.waiting = (s.session p).waiting)
    (reservations : x.reservations = (s.session p).reservations) (open_ : x.isOpen = (s.session p).isOpen)
    (quiet : x.isOpen = false → (s.session p).quietTimer = none → x.quietTimer = none) : AduStep s (s.withSession p x) := by
  refine ⟨fun law => law.of_same rfl (fun e => ⟨rfl, rfl⟩) fun q => ?_, fun q h => ?_⟩
  · by_cases h : q = p
    · rw [h, State.session_withSession_same]
      exact ⟨waiting, reservations, fun shut => ⟨open_ ▸ shut, quiet shut⟩⟩
    · rw [State.session_withSession_other _ _ h]
      exact ⟨rfl, rfl, fun shut => ⟨shut, id⟩⟩
  · by_cases e : q = p
    · rw [e, State.session_withSession_same] at h
      rw [e, ← open_]
      exact h
    · rwa [State.session_withSession_other _ _ e] at h

theorem noticeGate (g : Fin 16) (a : NoticeAnswer) (r : Reason) (s : State) : AduStep s (noticeGate g a r s) :=
  .of_blocks (Calm.noticeGate g a r s).cfs (noticeGate_adu ..)

theorem evaluatePolicy (s : State) (p : Fin 8) : AduStep s (evaluatePolicy s p) := by
  have opens (n : Nat) (s : State) (q : Fin 8) : ((grantWaiting p n s).session q).isOpen = (s.session q).isOpen := by
    induction n generalizing s with
    | zero => rfl
    | succ n ih =>
      unfold grantWaiting
      repeat' split
      · rename_i g _
        obtain ⟨session, sessions⟩ := grant_sessions p g s
        rw [ih]
        by_cases h : q = p
        · rw [h, session]
        · rw [sessions q h]
      · rfl
      · rfl
  exact ⟨fun law => law.evaluatePolicy p, fun q h => by rw [Machine.evaluatePolicy, opens] at h; exact h⟩

theorem evaluatePolicies (c : Car) (l : List (Fin 8)) (s : State) :
    AduStep s (l.foldl (fun s p => if (s.session p).served = some c then Machine.evaluatePolicy s p else s) s) :=
  .foldl (fun s p => .ite (fun _ => .evaluatePolicy s p) fun _ => .refl s) l s

theorem closeSession (r : CloseReason) (s : State) (p : Fin 8) : AduStep s (closeSession r s p) := by
  refine ⟨fun law => law.closeSession r p, fun q h => ?_⟩
  rw [closeSession_sessions] at h
  split at h
  · cases h
  · exact h

theorem closeAll (r : CloseReason) (s : State) : AduStep s (closeAll r s) := .foldl (.closeSession r) _ s

theorem releaseLost (c : Car) (s : State) : AduStep s (releaseLost c s) :=
  .foldl (fun s p => .ite (fun _ => .closeSession _ s p) fun _ => .refl s) _ s

theorem leaveList {g : Fin 16} (s : State) (waiting : (s.gate g).state = .waiting) : AduStep s (leaveList g s) := by
  obtain ⟨session, sessions⟩ := leaveList_sessions g s
  refine ⟨fun law => law.leaveList waiting, fun q h => ?_⟩
  by_cases e : q = (s.gateEntry g).platform
  · rwa [e, session, ← e] at h
  · rwa [sessions q e] at h

theorem giveUp {g : Fin 16} (s : State) (reserved : (s.gate g).state = .reserved) : AduStep s (giveUp g s) := by
  obtain ⟨session, sessions⟩ := giveUp_sessions g s
  refine ⟨fun law => law.giveUp reserved, fun q h => ?_⟩
  by_cases e : q = (s.gateEntry g).platform
  · rwa [e, session, ← e] at h
  · rwa [sessions q e] at h

theorem takeOut (g : Fin 16) (r : Reason) (s : State) : AduStep s (takeOut g r s) := by
  unfold Machine.takeOut
  cases state : (s.gate g).state with
  | idle => exact .refl s
  | waiting => exact ((leaveList s state).trans (.noticeGate ..)).trans (.evaluatePolicy ..)
  | reserved => exact ((giveUp s state).trans (.noticeGate ..)).trans (.evaluatePolicy ..)

theorem stationLost (x : Sta) (s : State) : AduStep s (stationLost x s) :=
  .trans (.foldl (fun s _ => .ite (fun h => .leaveList s h.2) fun _ => .refl s) _ s) (.foldl .evaluatePolicy _ _)

theorem reservationExpiry (g : Fin 16) (s : State) : AduStep s (reservationExpiry g s) := by
  unfold Machine.reservationExpiry
  refine .ite (fun running => ⟨fun law => ?_, fun p h => ?_⟩) fun _ => .refl s
  · exact (((giveUp s ((law.timer g).mp running)).trans (.noticeGate ..)).trans (.evaluatePolicy ..)).law law
  · have given := (AduStep.evaluatePolicy (Machine.noticeGate g .cancelled .none (Machine.giveUp g s)) _).opens p h
    obtain ⟨session, sessions⟩ := giveUp_sessions g s
    rw [noticeGate_session] at given
    by_cases e : p = (s.gateEntry g).platform
    · rwa [e, session, ← e] at given
    · rwa [sessions p e] at given

theorem exitQuietExpiry (p : Fin 8) (s : State) : AduStep s (exitQuietExpiry p s) := by
  have quiet : AduStep s (s.withSession p { s.session p with quietTimer := none }) := .withSession s p rfl rfl rfl fun _ _ => rfl
  exact .ite (fun _ => quiet.trans (.evaluatePolicy ..)) fun _ => .refl s

theorem evaluateLoad (c : Car) (s : State) : AduStep s (evaluateLoad s c) := by
  have flagged (b : Bool) (l : LoadRecord) : AduStep s (if b then (s.withLoad c l).setAttention .tallyOver else s.withLoad c l) :=
    .ite (fun _ => .of_adu rfl rfl rfl) fun _ => .of_adu rfl rfl rfl
  have told (t : State) : AduStep t (handNotice t (.carOrder c)) := .of_blocks (Calm.handNotice ..).cfs (handNotice_adu ..)
  unfold Machine.evaluateLoad
  exact .ite (fun _ => (flagged ..).trans (told _)) fun _ => flagged ..

theorem afterTally (c : Car) (s : State) : AduStep s (afterTally c s) := (evaluateLoad c s).trans (.evaluatePolicies ..)

theorem setTally (c : Car) (n : Nat) (s : State) : AduStep s (setTally c n s) := .of_adu rfl rfl rfl

theorem decideValidate (x : Sta) (g : Fin 16) (s : State) : AduStep s (decideValidate x g s).1 := by
  unfold Machine.decideValidate
  dsimp only
  split
  · exact .refl s
  rename_i belongs
  have present : (s.gateEntry g).present = true := by
    simp only [State.belongs, Bool.not_eq_true', Bool.not_eq_false] at belongs
    exact ((Bool.and_eq_true ..).mp belongs).1
  split
  · exact .refl s
  split
  · exact .refl s
  split
  · exact .refl s
  split
  · exact .withGate s g rfl rfl
  split
  · exact .refl s
  rename_i notReserved notWaiting
  have idle : (s.gate g).state = .idle := by
    cases state : (s.gate g).state with
    | idle => rfl
    | waiting => exact absurd state notWaiting
    | reserved => exact absurd state notReserved
  split
  · exact .refl s
  rename_i isOpen
  have open_ : (s.session (s.gateEntry g).platform).isOpen = true := by simpa using isOpen
  split
  · refine .trans ⟨fun law => law.reserve idle present open_, fun q h => ?_⟩ (.evaluatePolicy ..)
    obtain ⟨session, sessions⟩ := reserve_sessions (s.gateEntry g).platform g s
    by_cases e : q = (s.gateEntry g).platform
    · rwa [e]
    · rwa [sessions q e] at h
  · refine ⟨fun law => ?_, fun q h => ?_⟩
    · have new : g ∉ (s.session (s.gateEntry g).platform).waiting := fun mem => by simp [law.waits, idle] at mem
      have still : (s.gate g).timer.isSome = false := Bool.eq_false_iff.mpr fun running => by
        cases idle.symm.trans ((law.timer g).mp running)
      refine law.move (g := g) rfl (fun e h => ?_) (fun q h => ?_) ?_ ?_ ?_ ?_ ?_ ?_
      · simp [State.gate_withGate_other _ _ h]
      · simp [State.session_withSession_other _ _ h]
      · simp [still]
      · exact fun _ => present
      · simp [open_]
      · simpa using nodup_append_singleton (law.nodup _) (by simpa using new)
      · intro e
        by_cases h : e = g
        · simp [h]
        · simp [h]
      · rw [idle]
        simp
        rfl
    · by_cases e : q = (s.gateEntry g).platform
      · rwa [e]
      · simpa [State.session_withSession_other _ _ e] using h

theorem decidePassage (x : Sta) (g : Fin 16) (s : State) : AduStep s (decidePassage x g s).1 := by
  have unreserved (p : Fin 8) (t : State) : AduStep t (countUnreserved p t) := by
    have counted : AduStep t (t.withSession p { t.session p with unreserved := satInc 255 (t.session p).unreserved }) :=
      .withSession t p rfl rfl rfl fun _ => id
    have told (u : State) : AduStep u (u.setAttention .gateUnreserved) := .of_adu rfl rfl rfl
    exact counted.trans (told _)
  have passed (t : State) : AduStep t (passGate g t).1 := by
    unfold passGate
    cases state : (t.gate g).state with
    | reserved => exact .giveUp t state
    | waiting => exact .trans (.leaveList t state) (unreserved ..)
    | idle => exact unreserved ..
  unfold Machine.decidePassage
  dsimp only
  split
  · exact .refl s
  split
  · have counted : AduStep s (countUnattributed s) := .of_adu rfl rfl rfl
    exact counted.trans (.evaluatePolicy ..)
  · dsimp only
    exact ((AduStep.setTally ..).trans (passed _)).trans (.afterTally ..)
  · rename_i c _ _
    dsimp only
    have quiet (t : State) (q : Timer) (open_ : (t.session (s.gateEntry g).platform).isOpen = true) :
        AduStep t (t.withSession (s.gateEntry g).platform { t.session (s.gateEntry g).platform with quietTimer := q }) :=
      .withSession t _ rfl rfl rfl fun shut => by cases open_.symm.trans shut
    have tallied : AduStep s (Machine.setTally c ((s.load c).tally - 1) s) := .setTally ..
    have session : (Machine.setTally c ((s.load c).tally - 1) s).session (s.gateEntry g).platform = s.session (s.gateEntry g).platform := rfl
    generalize Machine.setTally c ((s.load c).tally - 1) s = t at tallied session ⊢
    exact (tallied.trans (.ite (fun open_ => quiet _ _ (by rwa [session])) fun _ => .refl _)).trans (.afterTally ..)

theorem decideGateReport (x : Sta) (g : Fin 16) (fault : Byte) (s : State) : AduStep s (decideGateReport x g fault s).1 := by
  unfold Machine.decideGateReport
  dsimp only
  split
  · exact .refl s
  · have flagged : AduStep s (s.withGate g { s.gate g with fault := flagOfByte fault }) := .withGate s g rfl rfl
    have told (t : State) : AduStep t (t.setAttention .gateFault) := .of_adu rfl rfl rfl
    exact .ite (fun _ => (flagged.trans (.takeOut ..)).trans (told _)) fun _ => flagged

theorem clearServed (s : State) : AduStep s (clearServed s) := by
  have session (p : Fin 8) : (Machine.clearServed s).session p = { s.session p with served := none, stop := none } := by
    simp [Machine.clearServed, State.session]
  refine ⟨fun law => law.of_same rfl (fun g => ⟨rfl, rfl⟩) fun p => ?_, fun p h => ?_⟩
  · rw [session]
    exact ⟨rfl, rfl, fun shut => ⟨shut, id⟩⟩
  · rwa [session] at h

/-- A platform release that becomes HELD opens its session, or shares it (R145). -/
theorem releaseHeld_law (c : Car) (k : Fin 6) (p : Fin 8) (law : AduLaw s) : AduLaw (releaseHeld c k p s) := by
  have cleared (t : State) : AduStep t (allIndices.foldl (clearAdmissions p) t) :=
    .foldl (fun t g => by
      unfold clearAdmissions
      split
      · exact .withGate t g rfl rfl
      · exact .refl t) _ t
  unfold Machine.releaseHeld
  dsimp only
  split
  · exact law
  split
  · refine ((cleared _).trans (.evaluatePolicy ..)).law (law.of_same rfl (fun g => ⟨rfl, rfl⟩) fun q => ?_)
    by_cases e : q = p
    · rw [e, State.session_withSession_same]
      exact ⟨rfl, rfl, fun shut => by cases shut⟩
    · rw [State.session_withSession_other _ _ e]
      exact ⟨rfl, rfl, fun shut => ⟨shut, id⟩⟩
  split
  · have shared : AduStep s (s.withSession p { s.session p with shared := true }) := .withSession s p rfl rfl rfl fun _ => id
    have told (t : State) : AduStep t (t.setAttention .platformShared) := .of_adu rfl rfl rfl
    exact (shared.trans (told _)).law law
  · exact law

end
end AduStep

/-- Every session is closed once every one has been closed. -/
theorem closeAll_closed (r : CloseReason) (s : State) (p : Fin 8) : ((closeAll r s).session p).isOpen = false := by
  have shut (l : List (Fin 8)) (s : State) (mem : p ∈ l) : ((l.foldl (closeSession r) s).session p).isOpen = false := by
    induction l generalizing s with
    | nil => cases mem
    | cons q l ih =>
      rcases List.mem_cons.mp mem with rfl | mem
      · have closed : ((closeSession r s p).session p).isOpen = false := by
          rw [closeSession_sessions]
          split
          · rfl
          · rename_i h
            simpa using h
        exact Bool.eq_false_iff.mpr fun open_ => by
          have := (AduStep.foldl (.closeSession r) l (closeSession r s p)).opens p open_
          rw [closed] at this
          cases this
      · exact ih _ mem
  exact shut _ s (mem_allPlatforms p)

/-! ### The line mode (R26 to R28) -/

/-- Every session is closed and no platform release is given. -/
structure Shut (s : State) : Prop where
  closed : ∀ p, (s.session p).isOpen = false
  free : ∀ c, (s.door c).given = true → (s.door c).isPlatform = false

/-- The laws of the gates and the sessions, with the line mode. -/
structure GatesLaw (s : State) : Prop where
  adu : AduLaw s
  mode : s.rco.mode.isPublic = true ∨ Shut s

/-- SERVICE and RECOVERY stay so; no session opens and no platform release is given. -/
structure Narrows (s t : State) : Prop where
  mode : s.rco.mode.isPublic = true → t.rco.mode.isPublic = true
  adu : AduStep s t
  gives : ∀ c, (t.door c).given = true → (t.door c).isPlatform = true → (s.door c).given = true ∧ (s.door c).isPlatform = true

namespace Narrows
variable {s t : State}

theorem keeps (h : Narrows s t) : Keeps GatesLaw s t := by
  refine ⟨fun law => ⟨h.adu.law law.adu, law.mode.imp h.mode fun shut => ⟨fun p => ?_, fun c given => ?_⟩⟩⟩
  · exact Bool.eq_false_iff.mpr fun open_ => by
      have := h.adu.opens p open_
      rw [shut.closed p] at this
      cases this
  · refine Bool.eq_false_iff.mpr fun platform => ?_
    obtain ⟨given, platform⟩ := h.gives c given platform
    rw [shut.free c given] at platform
    cases platform

theorem of_dou (mode : t.rco.mode = s.rco.mode) (adu : AduStep s t) (dou : t.dou = s.dou) : Narrows s t :=
  ⟨by rw [mode]; exact id, adu, fun c given platform => by
    rw [State.door, dou] at given platform
    exact ⟨given, platform⟩⟩

end Narrows

theorem Vector.all_toList {α : Type} {n : Nat} (v : Vector α n) (f : α → Bool) : v.toList.all f = true ↔ ∀ i : Fin n, f (v.get i) = true := by
  rw [List.all_eq_true]
  constructor
  · intro all i
    exact all _ (by simp [get_eq_getElem])
  · intro each x mem
    obtain ⟨i, lt, rfl⟩ := Vector.mem_iff_getElem.mp (Vector.mem_toList_iff.mp mem)
    exact each ⟨i, lt⟩

theorem GateChannel.lawful_iff (x : GateChannel) : x.lawful = true ↔ (x.timer.isSome = true ↔ x.state = .reserved) := by
  unfold GateChannel.lawful
  cases x.timer.isSome <;> simp

theorem Session.lawful_iff (x : Session) :
    x.lawful = true ↔ (x.isOpen = false → x.waiting = [] ∧ x.reservations = 0 ∧ x.quietTimer = none) := by
  unfold Session.lawful
  cases x.isOpen <;> simp [and_assoc]

theorem sessionCounts_iff (s : State) (p : Fin 8) :
    s.sessionCounts p = true ↔
      (s.session p).waiting.Nodup ∧
      (∀ g, g ∈ (s.session p).waiting ↔ (s.gate g).state = .waiting ∧ (s.gateEntry g).platform = p) ∧
      (s.session p).reservations = allIndices.countP (s.reservedOf p) := by
  have listed (g : Fin 16) : ((s.session p).waiting.contains g == ((s.gate g).state == .waiting && s.gateOf p g)) = true ↔
      (g ∈ (s.session p).waiting ↔ (s.gate g).state = .waiting ∧ (s.gateEntry g).platform = p) := by
    rw [beq_iff_eq, Bool.eq_iff_iff, List.contains_iff_mem]
    simp [State.gateOf]
  unfold State.sessionCounts
  rw [Bool.and_eq_true, Bool.and_eq_true, decide_eq_true_eq, List.all_eq_true, beq_iff_eq, and_assoc]
  simp only [listed, mem_allIndices, forall_const]
  rfl

theorem gatesLawful_iff (s : State) : s.gatesLawful = true ↔ GatesLaw s := by
  have idle (g : Fin 16) : ((s.gate g).state == .idle || (s.gateEntry g).present) = true ↔
      ((s.gate g).state ≠ .idle → (s.gateEntry g).present = true) := by
    rw [Bool.or_eq_true, beq_iff_eq]
    grind
  have shut : (allPlatforms.all (fun p => !(s.session p).isOpen) && allCars.all fun c => !((s.door c).given && (s.door c).isPlatform)) =
      true ↔ Shut s := by
    rw [Bool.and_eq_true, List.all_eq_true, List.all_eq_true]
    have car (c : Car) : c ∈ allCars := by cases c <;> decide
    have free (c : Car) : (!((s.door c).given && (s.door c).isPlatform)) = true ↔ ((s.door c).given = true → (s.door c).isPlatform = false) := by
      cases (s.door c).given <;> simp
    simp only [mem_allPlatforms, forall_const, car, free, Bool.not_eq_true']
    exact ⟨fun ⟨closed, free⟩ => ⟨closed, free⟩, fun ⟨closed, free⟩ => ⟨closed, free⟩⟩
  unfold State.gatesLawful Adu.lawful
  rw [Bool.and_eq_true, Bool.and_eq_true, Bool.and_eq_true, Bool.and_eq_true, Bool.or_eq_true, shut, Vector.all_toList, Vector.all_toList,
    List.all_eq_true, List.all_eq_true]
  simp only [GateChannel.lawful_iff, Session.lawful_iff, sessionCounts_iff, idle, mem_allIndices, mem_allPlatforms, forall_const]
  constructor
  · rintro ⟨⟨⟨⟨timer, closed⟩, present⟩, counts⟩, mode⟩
    exact ⟨⟨timer, closed, present, fun p => (counts p).1, fun p => (counts p).2.1, fun p => (counts p).2.2⟩, mode⟩
  · rintro ⟨⟨timer, closed, present, nodup, waits, reserves⟩, mode⟩
    exact ⟨⟨⟨⟨timer, closed⟩, present⟩, fun p => ⟨nodup p, waits p, reserves p⟩⟩, mode⟩

/-! ### What leaves the Admission Unit -/

@[simp] theorem setAuthority_adu (a : Authority) (s : State) : (setAuthority a s).adu = s.adu := by
  unfold setAuthority
  dsimp only
  split <;> simp

@[simp] theorem clearAuthority_adu (s : State) : (clearAuthority s).adu = s.adu := setAuthority_adu ..

@[simp] theorem withdrawAuthority_adu (s : State) : (withdrawAuthority s).adu = s.adu := by
  unfold withdrawAuthority
  split <;> simp

@[simp] theorem setRunState_adu (r : RunState) (s : State) : (setRunState r s).adu = s.adu := by
  unfold setRunState
  split <;> rfl

@[simp] theorem returnTrip_adu (s : State) : (returnTrip s).adu = s.adu := by
  unfold returnTrip
  repeat' split
  all_goals rfl

@[simp] theorem startDwell_adu (s : State) : (startDwell s).adu = s.adu := rfl
@[simp] theorem changeMode_adu (m : LineMode) (c : ModeCause) (l : List Trip) (s : State) : (changeMode m c l s).adu = s.adu := rfl
@[simp] theorem takeSnapshot_adu (s : State) : (takeSnapshot s).adu = s.adu := rfl
@[simp] theorem setSlot_adu (x : Slot) (s : State) : (setSlot x s).adu = s.adu := rfl

@[simp] theorem retarget_adu (t : Trip) (s : State) : (retarget t s).adu = s.adu := by simp [retarget]

@[simp] theorem settleAuthority_adu (b : Bool) (s : State) : (settleAuthority b s).adu = s.adu := by cases b <;> simp [settleAuthority]

@[simp] theorem settleWindow_adu (s : State) : (settleWindow s).adu = s.adu := by
  unfold settleWindow
  split <;> simp

@[simp] theorem settleTrip_adu (s : State) : (settleTrip s).adu = s.adu := by
  unfold settleTrip
  cases s.rco.tripInHand with
  | none => rfl
  | some t =>
    dsimp only
    split <;> simp

@[simp] theorem assertSb_adu (s : State) : (assertSb s).adu = s.adu := by
  unfold assertSb
  split <;> rfl

@[simp] theorem setDemand_adu (d : Demand) (s : State) : (setDemand d s).adu = s.adu := by
  unfold setDemand
  split <;> simp

@[simp] theorem startCheckFor_adu (l : Level) (s : State) : (startCheckFor l s).adu = s.adu := by
  unfold startCheckFor
  split <;> rfl

@[simp] theorem escalateTo_adu (l : Level) (s : State) : (escalateTo l s).adu = s.adu := by
  unfold escalateTo
  repeat' split
  all_goals simp [cancelCheck]

@[simp] theorem lossAtBks_adu (s : State) : (lossAtBks s).adu = s.adu := by
  unfold lossAtBks
  split <;> simp

@[simp] theorem lossAtRco_adu (s : State) : (lossAtRco s).adu = s.adu := by
  unfold lossAtRco
  repeat' split
  all_goals simp

@[simp] theorem setDoor_adu (c : Car) (d : DoorRecord) (s : State) : (setDoor c d s).adu = s.adu := by
  unfold setDoor
  split <;> simp

@[simp] theorem orderRelease_adu (c : Car) (side : Side) (kind : ReleaseKind) (s : State) : (orderRelease c side kind s).adu = s.adu :=
  setDoor_adu ..

/-! ### The operations -/

section
variable {s t : State}

/-- The gates and sessions, the doors, the tables and the line mode are the same. -/
theorem Keeps.gates_same (tables : t.cfs = s.cfs) (adu : t.adu = s.adu) (dou : t.dou = s.dou) (mode : t.rco.mode = s.rco.mode) :
    Keeps GatesLaw s t := (Narrows.of_dou mode (.of_blocks tables adu) dou).keeps

theorem Keeps.gates_calm (calm : Calm s t) (adu : t.adu = s.adu) (dou : t.dou = s.dou) (mode : t.rco.mode = s.rco.mode) :
    Keeps GatesLaw s t := .gates_same calm.cfs adu dou mode

/-- An operation of the Admission Unit. -/
theorem AduStep.keeps (h : AduStep s t) (dou : t.dou = s.dou) (rco : t.rco = s.rco) : Keeps GatesLaw s t :=
  (Narrows.of_dou (by rw [rco]) h dou).keeps

/-- One door record changes, and gives no platform release that was not given. -/
theorem Narrows.door (c : Car) {d : DoorRecord} (adu : AduStep s t) (dou : t.dou = s.dou.set c d) (rco : t.rco = s.rco)
    (gives : d.given = true → d.isPlatform = true → (s.door c).given = true ∧ (s.door c).isPlatform = true) : Narrows s t := by
  refine ⟨by rw [rco]; exact id, adu, fun e given platform => ?_⟩
  rw [State.door, dou] at given platform
  by_cases h : e = c
  · subst h
    rw [PerCar.get_set_same] at given platform
    exact gives given platform
  · rw [PerCar.get_set_other _ _ h] at given platform
    exact ⟨given, platform⟩

theorem withdraw_aduStep (c : Car) (w : WithdrawalCause) (s : State) : AduStep s (withdraw c w s) := by
  have ordered (d : DoorRecord) : AduStep s (setDoor c d s) := by
    refine .of_blocks ?_ (setDoor_adu c d s)
    unfold setDoor
    split
    · rfl
    · exact (Calm.handNotice ..).cfs
  unfold withdraw
  dsimp only
  split
  · exact (ordered _).trans (.releaseLost c _)
  · exact ordered _

theorem withdraw_gates (c : Car) (w : WithdrawalCause) (s : State) : Keeps GatesLaw s (withdraw c w s) :=
  (Narrows.door c (withdraw_aduStep c w s) (withdraw_dou c w s) (withdraw_rco ..) nofun).keeps

theorem withdrawPlatform_gates (w : WithdrawalCause) (s : State) (c : Car) : Keeps GatesLaw s (withdrawPlatform w s c) :=
  .ite (fun _ => withdraw_gates c w s) fun _ => .refl s

theorem withdrawGiven_gates (w : WithdrawalCause) (s : State) (c : Car) : Keeps GatesLaw s (withdrawGiven w s c) :=
  .ite (fun _ => withdraw_gates c w s) fun _ => .refl s

theorem orderEvacuation_gates (c : Car) (side : Side) (s : State) : Keeps GatesLaw s (orderRelease c side .evacuation s) :=
  (Narrows.door c (.of_blocks (Calm.orderRelease ..).cfs (orderRelease_adu ..)) (orderRelease_dou ..) (orderRelease_rco ..)
    fun _ platform => by cases platform).keeps

/-- In SERVICE and RECOVERY platform releases may be given (R126). -/
theorem Keeps.gates_public (public_ : s.rco.mode.isPublic = true) (adu : AduStep s t) (rco : t.rco = s.rco) : Keeps GatesLaw s t :=
  ⟨fun law => ⟨adu.law law.adu, .inl (by rw [rco]; exact public_)⟩⟩

theorem askReleases_gates (public_ : s.rco.mode.isPublic = true) : Keeps GatesLaw s (askReleases s) := by
  have asked (t : State) (c : Car) : AduStep t (askRelease t c) := by
    unfold askRelease
    split
    · exact .of_blocks rfl rfl
    · exact .of_blocks (Calm.orderRelease ..).cfs (orderRelease_adu ..)
  refine .gates_public public_ ?_ (askReleases_rco s)
  unfold askReleases
  split
  · exact .foldl (fun t c => .ite (fun _ => asked t c) fun _ => .refl t) _ s
  · exact .refl s

theorem closeAll_gates (r : CloseReason) (s : State) : Keeps GatesLaw s (closeAll r s) := (AduStep.closeAll r s).keeps (by simp) (by simp)

theorem setRunState_gates (r : RunState) (s : State) : Keeps GatesLaw s (setRunState r s) :=
  .gates_calm (Calm.setRunState r s) (by simp) (by simp) (by simp)

theorem returnTrip_gates (s : State) : Keeps GatesLaw s (returnTrip s) := .gates_calm (Calm.returnTrip s) (by simp) (by simp) (by simp)

theorem takeHead_gates (s : State) : Keeps GatesLaw s (takeHead s) := by
  rcases takeHead_cases s with same | ⟨-, same | ⟨t, rest, -, -, same⟩⟩ <;> rw [same]
  · exact .refl s
  · exact .gates_same rfl rfl rfl rfl
  · have closing (u : State) : Keeps GatesLaw u (beginClosing u) :=
      ((setRunState_gates .closing u).trans (closeAll_gates .closing _)).trans (.foldl (withdrawPlatform_gates .closing) _ _)
    exact .after (closing _) (.gates_same (s := s) rfl rfl rfl rfl)

theorem withdrawPlatform_given (w : WithdrawalCause) (x e : Car) {s : State} (given : ((withdrawPlatform w s x).door e).given = true)
    (platform : ((withdrawPlatform w s x).door e).isPlatform = true) :
    e ≠ x ∧ (s.door e).given = true ∧ (s.door e).isPlatform = true := by
  unfold withdrawPlatform at given platform
  split at given
  · rename_i both
    rw [if_pos both] at platform
    by_cases h : e = x
    · rw [h, show (withdraw x w s).door x = (s.door x).withdrawn s.line.closeTimeout w by simp [State.door, withdraw_dou]] at given
      cases given
    · rw [show (withdraw x w s).door e = s.door e by simp [State.door, withdraw_dou, PerCar.get_set_other _ _ h]] at given platform
      exact ⟨h, given, platform⟩
  · rename_i both
    rw [if_neg both] at platform
    exact ⟨fun h => both (by rw [← h, given, platform]; rfl), given, platform⟩

/-- No platform release stays given once each car's has been taken away. -/
theorem withdrawPlatforms_free (w : WithdrawalCause) (s : State) (e : Car)
    (given : ((allCars.foldl (withdrawPlatform w) s).door e).given = true) :
    ((allCars.foldl (withdrawPlatform w) s).door e).isPlatform = false := by
  refine Bool.eq_false_iff.mpr fun platform => ?_
  have both : allCars.foldl (withdrawPlatform w) s = withdrawPlatform w (withdrawPlatform w s .a) .b := rfl
  rw [both] at given platform
  obtain ⟨notB, given, platform⟩ := withdrawPlatform_given w .b e given platform
  obtain ⟨notA, -, -⟩ := withdrawPlatform_given w .a e given platform
  cases e with
  | a => exact notA rfl
  | b => exact notB rfl

/-- A line that enters STANDBY has every session closed and every platform release taken away (R27). -/
theorem enterStandby_gates (c : ModeCause) (s : State) : Keeps GatesLaw s (enterStandby c s) := by
  refine ⟨fun law => ?_⟩
  unfold enterStandby
  dsimp only
  generalize entered : (changeMode .standby c s.rco.queue s).withRco
    { (changeMode .standby c s.rco.queue s).rco with queue := [], dwellTimer := none, dwellElapsed := false, abortCount := 0 } = u
  have same : AduStep s u := by
    rw [← entered]
    exact .of_blocks rfl rfl
  have step (u : State) (e : Car) : AduStep u (withdrawPlatform .standby u e) := .ite (fun _ => withdraw_aduStep ..) fun _ => .refl u
  have steps : AduStep (closeAll .mode u) (allCars.foldl (withdrawPlatform .standby) (closeAll .mode u)) := .foldl step _ _
  refine ⟨((same.trans (.closeAll .mode u)).trans steps).law law.adu, .inr ⟨fun p => ?_, fun e given => ?_⟩⟩
  · exact Bool.eq_false_iff.mpr fun open_ => by
      have := steps.opens p open_
      rw [closeAll_closed] at this
      cases this
  · exact withdrawPlatforms_free .standby _ e given

theorem settle_gates (b : Bool) (s : State) : Keeps GatesLaw s (settle b s) := by
  have authority : Keeps GatesLaw s (settleAuthority b s) :=
    .gates_calm (Calm.settleAuthority b s) (by simp) (by simp) (settleAuthority_mode b s)
  have window (t : State) : Keeps GatesLaw t (settleWindow t) :=
    .gates_calm (Calm.settleWindow t) (by simp) (by simp) (settleWindow_mode t)
  have trip (t : State) : Keeps GatesLaw t (settleTrip t) := by
    refine .gates_calm (Calm.settleTrip t) (by simp) (by simp) ?_
    unfold settleTrip
    cases t.rco.tripInHand with
    | none => rfl
    | some x =>
      dsimp only
      split <;> simp
  have recovery (t : State) : Keeps GatesLaw t (settleRecovery b t) := by
    unfold settleRecovery
    split
    · exact ⟨fun law => ⟨law.adu.of_adu rfl rfl rfl, .inl rfl⟩⟩
    · exact .refl t
  have effects (t : State) : Keeps GatesLaw t (settleEffects t) := by
    have dwell : Keeps GatesLaw t (startDwell t) := .gates_same rfl rfl rfl rfl
    exact .ite (fun h => dwell.trans (askReleases_gates h.2)) fun _ => .ite (fun _ => takeHead_gates t) fun _ => .refl t
  exact .after (effects _) (.after (recovery _) (.after (trip _) (.after (window _) authority)))

theorem completeStop_gates (s : State) : Keeps GatesLaw s (completeStop s) :=
  .after (settle_gates ..) (.gates_same (s := s) rfl rfl rfl rfl)

theorem awaitDrop_gates (s : State) : Keeps GatesLaw s (awaitDrop s) :=
  .ite (fun _ => .gates_same rfl rfl rfl rfl) fun _ => completeStop_gates s

theorem deenergizeEb_gates (s : State) : Keeps GatesLaw s (deenergizeEb s) :=
  .ite (fun _ => .ite (fun _ => .after (awaitDrop_gates _) (.gates_same (s := s) rfl rfl rfl rfl)) fun _ => .gates_same rfl rfl rfl rfl)
    fun _ => .gates_same rfl rfl rfl rfl

theorem startS2_gates (s : State) : Keeps GatesLaw s (startS2 s) := by
  unfold startS2
  exact .ite (fun _ => .ite (fun _ => .after (deenergizeEb_gates _) (.gates_same (s := s) rfl rfl rfl rfl)) fun _ =>
    .gates_same rfl rfl rfl rfl) fun _ => .after (awaitDrop_gates _) (.gates_same (s := s) rfl rfl rfl rfl)

theorem assertSb_gates (s : State) : Keeps GatesLaw s (assertSb s) :=
  .gates_calm (Calm.assertSb s) (by simp) (by simp) (by simp)

theorem startStop_gates (s : State) : Keeps GatesLaw s (startStop s) := by
  have step (w : StepTimer) (n : Nat) (t : State) : Keeps GatesLaw t (startStep w n t) := .gates_same rfl rfl rfl rfl
  have began : Keeps GatesLaw s (s.withBks { s.bks with slot := .stop .s1, faults := [], stepTimer := none }) :=
    .gates_same rfl rfl rfl rfl
  have asserted := began.trans (assertSb_gates _)
  unfold startStop
  exact .ite (fun _ => asserted.trans (startS2_gates _)) fun _ => asserted.trans (step ..)

theorem beginStop_gates (s : State) : Keeps GatesLaw s (beginStop s) := by
  have jog (t : State) : Keeps GatesLaw t (t.withRco { t.rco with jogTimer := none }) := .gates_same rfl rfl rfl rfl
  exact ((setRunState_gates .stopping s).trans (jog _)).trans (startStop_gates _)

theorem abortAtRco_gates (s : State) : Keeps GatesLaw s (abortAtRco s) := by
  have cleared : Keeps GatesLaw s (clearAuthority s) := .gates_calm (Calm.clearAuthority s) (by simp) (by simp) (by simp)
  have set_ (t : State) : Keeps GatesLaw t (t.withRco { t.rco with brakesSet := true }) := .gates_same rfl rfl rfl rfl
  have jog (t : State) : Keeps GatesLaw t (t.withRco { t.rco with jogRun := false }) := .gates_same rfl rfl rfl rfl
  have counted (t : State) : Keeps GatesLaw t (countAbort t) := by
    have count (n : Nat) : Keeps GatesLaw t (t.withRco { t.rco with abortCount := n }) := .gates_same rfl rfl rfl rfl
    have told (u : State) : Keeps GatesLaw u (u.setAttention .abortLimit) := .gates_same rfl rfl rfl rfl
    unfold countAbort
    exact .ite (fun _ => ((count 3).trans (enterStandby_gates ..)).trans (told _)) fun _ => count _
  have aborted : Keeps GatesLaw s s.abortCounted :=
    (((cleared.trans (set_ _)).trans (returnTrip_gates _)).trans (jog _)).trans (counted _)
  rw [abortAtRco_eq]
  exact aborted.trans (.ite (fun _ => settle_gates ..) fun _ => setRunState_gates ..)

theorem abortDeparture_gates (c : AbortCause) (s : State) : Keeps GatesLaw s (abortDeparture c s) := by
  have timer : Keeps GatesLaw s (setStepTimer none s) := .gates_same rfl rfl rfl rfl
  have idle (step : DepStep) (t : State) : Keeps GatesLaw t (((dropEbHold t).withBks
      { (dropEbHold t).bks with lastDeparture := .aborted c step, slot := .idle }).setAttention .departureAborted) :=
    .gates_same rfl rfl rfl rfl
  unfold abortDeparture
  split
  · exact .after (abortAtRco_gates _) ((timer.trans (assertSb_gates _)).trans (idle ..))
  · exact .refl s

theorem withdrawAuthority_gates (s : State) : Keeps GatesLaw s (withdrawAuthority s) :=
  .gates_calm (Calm.withdrawAuthority s) (by simp) (by simp) (by simp)

theorem arrest_gates (s : State) : Keeps GatesLaw s (arrest s) := by
  have arrested : Keeps GatesLaw s (setRunState .arrested s) := setRunState_gates ..
  have jog (t : State) : Keeps GatesLaw t (t.withRco { t.rco with jogTimer := none }) := .gates_same rfl rfl rfl rfl
  unfold arrest
  cases s.rco.runState with
  | running => exact .ite (fun _ => beginStop_gates s) fun _ => arrested.trans (jog _)
  | atStop => exact .ite (fun _ => .refl s) fun _ => arrested
  | offStop => exact .ite (fun _ => .refl s) fun _ => arrested
  | closing => exact .ite (fun _ => .refl s) fun _ => arrested.trans (returnTrip_gates _)
  | _ => exact .refl s

theorem setRailOrder_gates (o : RailOrder) (s : State) : Keeps GatesLaw s (setRailOrder o s) := by
  refine .foldl (fun t c => ?_) _ s
  refine (Narrows.door c (d := { t.door c with railOrder := o }) (.of_blocks ?_ (setDoor_adu ..)) (setDoor_dou ..) (setDoor_rco ..)
    fun given platform => ⟨given, platform⟩).keeps
  exact (Calm.setDoor c { t.door c with railOrder := o } t rfl rfl rfl rfl rfl).cfs

theorem raiseAs_gates (a : AbortCause) (c : Cause) (l : Level) (s : State) : Keeps GatesLaw s (raiseAs a c l s) := by
  have told (t : State) : Keeps GatesLaw t (t.setAttention .brakeLatched) := .gates_same rfl rfl rfl rfl
  have reached (t : State) : Keeps GatesLaw t (reachService a t) :=
    (((((assertSb_gates t).trans (withdrawAuthority_gates _)).trans (arrest_gates _)).trans (closeAll_gates .latch _)).trans
      (abortDeparture_gates a _)).trans (told _)
  have taken (d : Demand) : Keeps GatesLaw s (setDemand d s) := .gates_calm (Calm.setDemand d s) (by simp) (by simp) (by simp)
  have serviced (before : Level) (t : State) : Keeps GatesLaw t (t.atService before a) := .ite (fun _ => reached t) fun _ => .refl t
  have dropped (before : Level) (t : State) : Keeps GatesLaw t (t.atEmergency before a) :=
    .ite (fun _ => (serviced before t).trans (deenergizeEb_gates _)) fun _ => serviced before t
  have railed (before : Level) (t : State) : Keeps GatesLaw t (t.atRail before a) :=
    .ite (fun _ => (dropped before t).trans (setRailOrder_gates ..)) fun _ => dropped before t
  have escalated (l : Level) (t : State) : Keeps GatesLaw t (escalateTo l t) :=
    .gates_calm (Calm.escalateTo l t) (by simp) (by simp) (by simp)
  unfold raiseAs
  rw [latchRise_eq]
  exact .ite (fun _ => taken _) fun _ => ((taken _).trans (railed ..)).trans (escalated ..)

theorem raise_setAttention_gates (c : Cause) (l : Level) (i : Attention) (s : State) : Keeps GatesLaw s (raise c l (s.setAttention i)) :=
  .after (raiseAs_gates ..) (.gates_same (s := s) rfl rfl rfl rfl)

theorem takeAsked_gates (l : Level) (s : State) : Keeps GatesLaw s (takeAsked l s) := by
  unfold takeAsked
  exact .ite (fun _ => .after (raiseAs_gates ..) (.gates_same (s := s) rfl rfl rfl rfl)) fun _ =>
    .gates_calm (Calm.setDemand ..) (by simp) (by simp) (by simp)

theorem loseStandstill_gates (s : State) : Keeps GatesLaw s (loseStandstill s) := by
  have began : Keeps GatesLaw s (s.withMsu { s.msu with standstill := false }) := .gates_same rfl rfl rfl rfl
  have atRco (t : State) : Keeps GatesLaw t (lossAtRco t) := by
    refine .gates_calm (Calm.lossAtRco t) (by simp) (by simp) ?_
    unfold lossAtRco
    repeat' split
    all_goals simp
  have atBks (t : State) : Keeps GatesLaw t (lossAtBks t) := .gates_calm (Calm.lossAtBks t) (by simp) (by simp) (by simp)
  exact ((began.trans (atRco _)).trans (atBks _)).trans (.foldl (withdrawGiven_gates .standstillLost) _ _)

theorem confirmStandstill_gates (s : State) : Keeps GatesLaw s (confirmStandstill s) := by
  have began : Keeps GatesLaw s (s.withMsu { s.msu with standstill := true, standstillTimer := none }) := .gates_same rfl rfl rfl rfl
  have cancelled (t : State) : Keeps GatesLaw t (cancelCheck t) := .gates_same rfl rfl rfl rfl
  have confirmed (t : State) : Keeps GatesLaw t (standstillAtRco t) := by
    unfold standstillAtRco
    cases t.rco.runState with
    | arrested => exact .ite (fun _ => settle_gates ..) fun _ => beginStop_gates t
    | running =>
      dsimp only
      split
      · exact .ite (fun _ => beginStop_gates t) fun _ => .refl t
      · exact .ite (fun _ => beginStop_gates t) fun _ => .refl t
      · exact .refl t
    | _ => exact .refl t
  exact (began.trans (confirmed _)).trans (cancelled _)

theorem testD1_gates (s : State) : Keeps GatesLaw s (testD1 s) := by
  unfold testD1 startD2
  exact .ite (fun _ => .ite (fun _ => .after (raise_setAttention_gates ..) (.gates_same (s := s) rfl rfl rfl rfl)) fun _ =>
    .gates_same rfl rfl rfl rfl) fun _ => .refl s

theorem startDeparture_gates (k : Fin 6) (dir : Dir) (s : State) : Keeps GatesLaw s (startDeparture k dir s) := by
  have aimed : Keeps GatesLaw s (setAuthority
      { s.rco.authority with targetStop := some k, targetPosition := some (s.stopEntry k).position, dir := some dir } s) :=
    .gates_calm (Calm.setAuthority ..) (by simp) (by simp) (by simp)
  have free (t : State) : Keeps GatesLaw t (t.withRco { t.rco with brakesSet := false }) := .gates_same rfl rfl rfl rfl
  have slot (t : State) : Keeps GatesLaw t (takeSnapshot (setSlot (.departure .d1) t)) := .gates_same rfl rfl rfl rfl
  have timer (t : State) : Keeps GatesLaw t (startStep .railConfirm Config.railConfirm t) := .gates_same rfl rfl rfl rfl
  have departs := (aimed.trans (setRunState_gates .departing _)).trans (free _)
  exact (((departs.trans (slot _)).trans (setRailOrder_gates ..)).trans (timer _)).trans (testD1_gates _)

theorem driveStep_gates (r : DriveReport) (s : State) : Keeps GatesLaw s (driveStep r s) := by
  have granted (t : State) : Keeps GatesLaw t (grantAuthority t) := by
    obtain ⟨_, rco⟩ := grantAuthority_rco t
    refine (Narrows.of_dou (by rw [rco]) ?_ (grantAuthority_dou t)).keeps
    have calm : AduStep t (setRunState .running (setAuthority { t.rco.authority with state := .granted }
        (t.withBks { t.bks with slot := .idle, stepTimer := none, lastDeparture := .completed }))) :=
      .of_blocks (by rw [(Calm.setRunState ..).cfs, (Calm.setAuthority ..).cfs]; rfl) (by simp)
    have counted (u : State) (n : Nat) (j : Timer) : AduStep u (u.withRco { u.rco with abortCount := n, jogTimer := j }) := .of_blocks rfl rfl
    exact (calm.trans (counted ..)).trans (.clearServed _)
  have completed (t : State) : Keeps GatesLaw t (completeD4 t) := .ite (fun _ => granted t) fun _ => abortDeparture_gates _ t
  have timer : Keeps GatesLaw s (setStepTimer none s) := .gates_same rfl rfl rfl rfl
  unfold driveStep
  split
  · exact .ite (fun _ => .gates_same rfl rfl rfl rfl) fun _ => .refl s
  · exact .ite (fun _ => timer.trans (completed _)) fun _ => .refl s
  · exact .ite (fun _ => startS2_gates s) fun _ => .refl s
  · exact .refl s

theorem startD3_gates (s : State) : Keeps GatesLaw s (startD3 s) := by
  have slot : Keeps GatesLaw s (setSlot (.departure .d3) s) := .gates_same rfl rfl rfl rfl
  have proves (t : State) (a : Authority) : Keeps GatesLaw t (setAuthority a t) :=
    .gates_calm (Calm.setAuthority a t) (by simp) (by simp) (by simp)
  have timer (t : State) : Keeps GatesLaw t (startStep .torqueProve Config.torqueProve t) := .gates_same rfl rfl rfl rfl
  exact ((slot.trans (proves ..)).trans (.foldl (withdrawGiven_gates .prove) _ _)).trans (timer _)

/-- Only in SERVICE and RECOVERY is a platform release given, so that only there it can open a session (R26, R27, R145). -/
theorem takeUp_gates (c : Car) (s : State) (ordered : (s.door c).release = .ordered) : Keeps GatesLaw s (takeUp c s) := by
  refine ⟨fun law => ?_⟩
  have given : (s.door c).given = true := by simp [DoorRecord.given, ordered]
  have held : Narrows s (s.withDoor c { s.door c with release := .held, ackTimer := none }) :=
    Narrows.door c (.of_blocks rfl rfl) rfl rfl fun _ platform => ⟨given, platform⟩
  unfold takeUp
  dsimp only
  split
  · rename_i k p kind
    have platform : (s.door c).isPlatform = true := by simp [DoorRecord.isPlatform, kind]
    refine ⟨AduStep.releaseHeld_law c k p (held.adu.law law.adu), .inl ?_⟩
    rw [releaseHeld_rco]
    refine law.mode.resolve_right fun shut => ?_
    rw [shut.free c given] at platform
    cases platform
  · exact held.keeps.law law

theorem report_gates (c : Car) (door : DoorCond) (token : Option (Fin 16)) (rail : RailCond) (fault : Bool) (s : State) :
    Keeps GatesLaw s (doorsWhileGranted c (judgeToken c token (takeFields c door token rail fault s))) := by
  have fields : Narrows s (takeFields c door token rail fault s) :=
    Narrows.door c (.of_blocks rfl rfl) rfl rfl fun given platform => ⟨given, platform⟩
  have staled (t : State) : Narrows t (countStale c t) :=
    Narrows.door c (.of_blocks rfl rfl) (countStale_dou c t) rfl fun given platform => ⟨given, platform⟩
  have stale (t : State) : Keeps GatesLaw t (countStale c t) := (staled t).keeps
  have completed (t : State) : Keeps GatesLaw t (completeWithdrawal c t) :=
    .ite (fun _ => (Narrows.door (s := t) (t := t.withDoor c (t.door c).free) c (d := (t.door c).free) (.of_blocks rfl rfl) rfl rfl
      fun given => by cases given).keeps) fun _ => .refl t
  have judged (t : State) : Keeps GatesLaw t (judgeToken c token t) := by
    unfold judgeToken
    dsimp only
    cases release : (t.door c).release with
    | none => exact .ite (fun _ => .refl t) fun _ => (stale t).trans (withdraw_gates ..)
    | ordered => exact .ite (fun _ => takeUp_gates c t release) fun _ => .ite (fun _ => .refl t) fun _ => stale t
    | held => exact .ite (fun _ => .refl t) fun _ => .ite (fun _ => (withdraw_gates ..).trans (completed _)) fun _ => stale t
    | withdrawing => exact .ite (fun _ => completed t) fun _ => .ite (fun _ => .refl t) fun _ => stale t
  have granted (t : State) : Keeps GatesLaw t (doorsWhileGranted c t) :=
    .ite (fun _ => (withdrawAuthority_gates t).trans (raiseAs_gates ..)) fun _ => .refl t
  exact (fields.keeps.trans (judged _)).trans (granted _)

theorem sbConfirmEnd_gates (s : State) : Keeps GatesLaw s (sbConfirmEnd s) := by
  have began : Keeps GatesLaw s
      ((s.withBks { s.bks with stepTimer := none, faults := s.bks.faults ++ [.sbUnconfirmed] }).setAttention .sbConfirm) :=
    .gates_same rfl rfl rfl rfl
  exact .ite (fun _ => (began.trans (raiseAs_gates ..)).trans (startS2_gates _)) fun _ => .refl s

theorem ebDropEnd_gates (s : State) : Keeps GatesLaw s (ebDropEnd s) := by
  have timer : Keeps GatesLaw s (setStepTimer none s) := .gates_same rfl rfl rfl rfl
  have listed (t : State) : Keeps GatesLaw t (t.withBks { t.bks with faults := t.bks.faults ++ [.ebUnconfirmed] }) :=
    .gates_same rfl rfl rfl rfl
  exact .ite (fun _ => ((timer.trans (raise_setAttention_gates ..)).trans (listed _)).trans (completeStop_gates _)) fun _ => .refl s

theorem jogExpiry_gates (s : State) : Keeps GatesLaw s (jogExpiry s) := by
  have timer : Keeps GatesLaw s (s.withRco { s.rco with jogTimer := none }) := .gates_same rfl rfl rfl rfl
  have withdrawn (a : Authority) (t : State) : Keeps GatesLaw t (setAuthority a t) :=
    .gates_calm (Calm.setAuthority a t) (by simp) (by simp) (by simp)
  unfold jogExpiry
  refine .ite (fun _ => ?_) fun _ => .refl s
  dsimp only
  split
  · exact .ite (fun _ => (timer.trans (withdrawn ..)).trans (beginStop_gates _)) fun _ => timer.trans (withdrawn ..)
  · exact timer

theorem requestStop_gates (k : Fin 6) (o : Origin) (s : State) : Keeps GatesLaw s (requestStop k o s).1 := by
  have queued (q : List Trip) : Keeps GatesLaw s (s.withRco { s.rco with queue := q }) := .gates_same rfl rfl rfl rfl
  have retargeted (t : Trip) (u : State) : Keeps GatesLaw u (retarget t u) :=
    .gates_calm (Calm.retarget t u) (by simp) (by simp) (by simp [retarget_rco])
  unfold requestStop joinTrip insertTrip
  dsimp only
  repeat' split
  · exact .refl s
  · exact .refl s
  · exact .gates_same rfl rfl rfl rfl
  · exact queued _
  · exact .refl s
  · exact ((queued _).trans (retargeted ..)).trans (takeHead_gates _)
  · exact (queued _).trans (takeHead_gates _)

theorem holdRunning_gates (s : State) : Keeps GatesLaw s (holdRunning s).1 := by
  have retargeted (t : Trip) : Keeps GatesLaw s (retarget t s) :=
    .gates_calm (Calm.retarget t s) (by simp) (by simp) (by simp [retarget_rco])
  unfold holdRunning
  repeat' split
  · exact .refl s
  · exact retargeted _
  · exact retargeted _
  · exact .refl s

theorem holdClosing_gates (s : State) : Keeps GatesLaw s (holdClosing s) := by
  have dwell (t : State) : Keeps GatesLaw t (startDwell t) := .gates_same rfl rfl rfl rfl
  unfold holdClosing
  refine .after (takeHead_gates _) ((returnTrip_gates s).trans ?_)
  exact .ite (fun _ => (setRunState_gates ..).trans (dwell _)) fun _ => setRunState_gates ..

theorem takeBrakeReset_gates (s : State) : Keeps GatesLaw s (takeBrakeReset s) := by
  have cleared : Keeps GatesLaw s (setDemand s.bks.demand.cleared (s.withBks { s.bks with esc := Escalation.reset })) :=
    .gates_same (by rw [(Calm.setDemand ..).cfs]; rfl) (by simp) (by simp) (by simp)
  have changed (t : State) : Keeps GatesLaw t (changeMode .recovery .brakeReset [] t) :=
    ⟨fun law => ⟨law.adu.of_adu rfl rfl rfl, .inl rfl⟩⟩
  exact .ite (fun _ => (cleared.trans (changed _)).trans (takeHead_gates _)) fun _ => cleared

theorem enterService_gates (s : State) : Keeps GatesLaw s (enterService s) := by
  have changed : Keeps GatesLaw s (startDwell (changeMode .service .console [] s)) :=
    ⟨fun law => ⟨law.adu.of_adu rfl rfl rfl, .inl rfl⟩⟩
  exact changed.trans (askReleases_gates rfl)

/-- The tables change only where every session is closed, so that every gate is IDLE (R10, R26). -/
theorem withCfs_gates (s : State) (x : Cfs) (mode : s.rco.mode = .maintenance) : Keeps GatesLaw s (s.withCfs x) := by
  refine ⟨fun law => ?_⟩
  have shut := law.mode.resolve_left fun h => by
    rw [mode] at h
    cases h
  have empty (p : Fin 8) := law.adu.closed p (shut.closed p)
  have idle (g : Fin 16) : (s.gate g).state = .idle := by
    cases state : (s.gate g).state with
    | idle => rfl
    | waiting =>
      have listed := (law.adu.waits _ g).mpr ⟨state, rfl⟩
      rw [(empty _).1] at listed
      cases listed
    | reserved =>
      have counted := law.adu.reservations_pos state
      rw [(empty _).2.1] at counted
      cases counted
  refine ⟨⟨law.adu.timer, law.adu.closed, fun g busy => absurd (idle g) busy, law.adu.nodup, fun p g => ?_, fun p => ?_⟩,
    .inr ⟨shut.closed, shut.free⟩⟩
  · change g ∈ (s.session p).waiting ↔ (s.gate g).state = .waiting ∧ _
    simp [empty, idle]
  · change (s.session p).reservations = _
    rw [(empty p).2.1]
    refine (List.countP_eq_zero.mpr fun g _ => ?_).symm
    have still : ((s.withCfs x).gate g).state = .idle := idle g
    simp [State.reservedOf, still]

end

/-- Every operation of the blocks keeps the laws of the gates and the sessions. -/
theorem gate_lawRules : LawRules GatesLaw where
  blind := by
    intro s t same law
    obtain ⟨_, _, _, _, _, _, rco⟩ := same.rco
    exact (Narrows.of_dou (by rw [rco]) (.of_adu same.tables (by rw [same.adu]) (by rw [same.adu])) same.dou).keeps.law law
  raise a c l s _ := raiseAs_gates a c l s
  asked := takeAsked_gates
  lose := loseStandstill_gates
  confirm := confirmStandstill_gates
  arrive s _ := beginStop_gates s
  abort := abortDeparture_gates
  drive r s := by
    have followed : Keeps GatesLaw s (followSb r.sb s) := by
      unfold followSb
      exact .ite (fun _ => .gates_same rfl rfl rfl rfl) fun _ => .refl s
    exact followed.trans (driveStep_gates r _)
  report := report_gates
  testD1 := testD1_gates
  lifts _ _ _ _ := .gates_same rfl rfl rfl rfl
  drops s _ := completeStop_gates s
  timer _ := .gates_same rfl rfl rfl rfl
  ebSettle s := by
    have timer : Keeps GatesLaw s (setStepTimer none s) := .gates_same rfl rfl rfl rfl
    exact .ite (fun _ => timer.trans (startD3_gates _)) fun _ => .refl s
  sbConfirm := sbConfirmEnd_gates
  deenergize := deenergizeEb_gates
  ebDrop := ebDropEnd_gates
  takeHead := takeHead_gates
  jog := jogExpiry_gates
  ack c s := by
    have told (t : State) : Keeps GatesLaw t (t.setAttention .doorAckLate) := .gates_same rfl rfl rfl rfl
    exact .ite (fun _ => (withdraw_gates ..).trans (told _)) fun _ => .refl s
  close c s := by
    have overdue : Narrows s ((s.withDoor c { s.door c with closeTimer := none, overdue := true }).setAttention .doorCloseOverdue) :=
      Narrows.door c (.of_blocks rfl rfl) rfl rfl fun given platform => ⟨given, platform⟩
    exact .ite (fun _ => overdue.keeps) fun _ => .refl s
  reservation g s := (AduStep.reservationExpiry g s).keeps (by unfold reservationExpiry; split <;> simp)
    (by unfold reservationExpiry; split <;> simp)
  exitQuiet p s := (AduStep.exitQuietExpiry p s).keeps (by unfold exitQuietExpiry; split <;> simp)
    (by unfold exitQuietExpiry; split <;> simp)
  stationLost x s := (AduStep.stationLost x s).keeps (by simp) (by simp)
  load c l s := (AduStep.of_adu (s := s) (t := s.withLoad c l) rfl rfl rfl).keeps rfl rfl
  tally c n s := ((AduStep.setTally c n s).trans (.afterTally c _)).keeps (by simp) (by simp)
  validate x g s := (AduStep.decideValidate x g s).keeps (by simp) (by simp)
  passage x g s := (AduStep.decidePassage x g s).keeps (by simp) (by simp)
  gateReport x g f s := (AduStep.decideGateReport x g f s).keeps (by simp) (by simp)
  mask g s := by
    have masked : AduStep s (s.withGate g { s.gate g with masked := true }) := .withGate s g rfl rfl
    exact (masked.trans (.takeOut ..)).keeps (by simp) (by simp)
  unmask g s := (AduStep.withGate s g (x := { s.gate g with masked := false }) rfl rfl).keeps rfl rfl
  requestStop := requestStop_gates
  maintenance s mode := ⟨fun law => by
    refine ⟨law.adu.of_adu rfl rfl rfl, .inr ?_⟩
    have shut := law.mode.resolve_left fun h => by
      rcases mode with mode | mode <;> rw [mode] at h <;> cases h
    exact ⟨shut.closed, shut.free⟩⟩
  standby := enterStandby_gates .console
  service s _ _ := enterService_gates s
  cancel _ s := .gates_same rfl rfl rfl rfl
  holdRunning s _ := holdRunning_gates s
  holdClosing s _ _ := holdClosing_gates s
  jogStart k dir s _ _ _ := by
    have jogs : Keeps GatesLaw s (s.withRco { s.rco with jogRun := true }) := .gates_same rfl rfl rfl rfl
    exact jogs.trans (startDeparture_gates ..)
  departs t s _ _ _ := by
    have ready : Keeps GatesLaw s (s.withRco { s.rco with firstFailing := none }) := .gates_same rfl rfl rfl rfl
    exact ready.trans (startDeparture_gates ..)
  brakeReset s _ := takeBrakeReset_gates s
  evacuate c side s _ _ _ := orderEvacuation_gates c side s
  evacuateEnd c s _ _ := withdraw_gates c .evacuateEnd s
  tables x s mode _ := withCfs_gates s x mode

theorem gatesLaw_elapse {s : State} (law : GatesLaw s) : GatesLaw s.elapse := by
  have running (t : Timer) : t.tick.isSome = t.isSome := by cases t <;> rfl
  have gate (g : Fin 16) : s.elapse.gate g = (s.gate g).tick := by simp [State.elapse, State.gate]
  have session (p : Fin 8) : s.elapse.session p = (s.session p).tick := by simp [State.elapse, State.session]
  have door (c : Car) : s.elapse.door c = (s.door c).tick := by cases c <;> rfl
  refine ⟨law.adu.of_same rfl (fun g => ?_) fun p => ?_, law.mode.imp id fun shut => ⟨fun p => ?_, fun c given => ?_⟩⟩
  · rw [gate]
    exact ⟨rfl, running _⟩
  · rw [session]
    refine ⟨rfl, rfl, fun closed => ⟨closed, fun none => ?_⟩⟩
    simp [Session.tick, none, Timer.tick]
  · rw [session]
    exact shut.closed p
  · rw [door] at given ⊢
    exact shut.free c given

/-- Settles O7: a gate that moves takes its platform's list and count with it, a session that closes leaves every gate of its platform
IDLE, and only a given platform release opens one. -/
theorem stepKeepsGateLaw : Obligations.StepKeepsGateLaw := by
  intro s t law next
  have reset (previous : LineMode) (cause : ResetCause) (a b : Nat) (s : State) (_ : GatesLaw s) :
      GatesLaw (resetTo previous cause a b s) := by
    have gate (g : Fin 16) : (resetTo previous cause a b s).gate g = GateChannel.reset := by
      change (Vector.replicate 16 GateChannel.reset).get g = _
      simp [get_eq_getElem]
    have session (p : Fin 8) : (resetTo previous cause a b s).session p = Session.reset := by
      change (Vector.replicate 8 Session.reset).get p = _
      simp [get_eq_getElem]
    refine ⟨⟨fun g => ?_, fun p _ => ?_, fun g busy => ?_, fun p => ?_, fun p g => ?_, fun p => ?_⟩, .inr ⟨fun p => ?_, fun c given => ?_⟩⟩
    · simp [gate, GateChannel.reset]
    · simp [session, Session.reset]
    · simp [gate, GateChannel.reset] at busy
    · simp [session, Session.reset]
    · simp [gate, session, GateChannel.reset, Session.reset]
    · rw [session]
      refine (List.countP_eq_zero.mpr fun g _ => ?_).symm
      simp [State.reservedOf, gate, GateChannel.reset]
    · rw [session]
      rfl
    · cases c <;> cases given
  exact (gatesLawful_iff t).mpr
    (gate_lawRules.keeps_step reset (fun _ => gatesLaw_elapse) ((gatesLawful_iff s).mp law) next)

end Sys2Proof.Machine
end

section
/-! Reset and the image load: a step, the laws at `State.reset`, the values that the resets give, and what the load holds back. -/

namespace Sys2Proof.Machine

/-- Settles O1: a step of a queue that is not empty is the execution of its front. -/
theorem stepTakesFrontCommand : Obligations.StepTakesFrontCommand := by
  intro s c rest front
  unfold step
  rw [front]

/-- Settles O2: each law is evaluated at the one state it speaks of. -/
theorem resetIsLawful : Obligations.ResetIsLawful := by
  refine ⟨rfl, rfl, rfl, rfl, rfl, ?_, rfl, rfl, rfl, rfl⟩
  decide

/-! ### The resets (R9, R19, R20) -/

theorem get_replicate {α : Type} {n : Nat} (x : α) (i : Fin n) : (Vector.replicate n x).get i = x := by
  rw [get_eq_getElem, Vector.getElem_replicate]

theorem Attention.index_injective {i j : Attention} (h : i.index = j.index) : i = j := by
  cases i <;> cases j <;> first | rfl | exact absurd h (by decide)

/-- After a load CONFIG_INVALID is set where the load failed, and every other item is clear (R21). -/
theorem itemsAfterLoad_get (valid : Bool) (i : Attention) :
    (itemsAfterLoad valid).get i.index = (decide (i = .configInvalid) && !valid) := by
  unfold itemsAfterLoad
  by_cases item : i = .configInvalid
  · subst item
    rw [get_set_same]
    simp
  · rw [get_set_other _ _ (fun h => item (Attention.index_injective h)), get_replicate]
    simp [item]

/-- Settles O11: both resets build the state record by record. -/
theorem resetsGiveResetValues : Obligations.ResetsGiveResetValues := by
  intro s
  refine ⟨_, _, rfl, rfl, ?_, ?_, rfl, rfl⟩
  · rintro v (rfl | rfl)
    all_goals
      refine ⟨rfl, ⟨rfl, rfl, rfl, rfl, rfl, rfl, rfl, rfl, rfl, rfl, rfl, rfl, fun n => get_replicate ..⟩, fun i other => ?_, rfl, rfl, rfl,
        fun c => ?_, fun g => get_replicate .., fun p => get_replicate .., rfl, fun c => ?_, fun i => ?_, rfl⟩
      · have item : i ≠ .configInvalid := fun h => other (by simp [h, configItems])
        exact (itemsAfterLoad_get _ i).trans (by simp [item])
      · cases c <;> rfl
      · cases c <;> exact ⟨rfl, rfl, rfl⟩
      · cases i <;> rfl
  · intro c
    cases c <;> exact ⟨rfl, rfl⟩

theorem Cfs.wordMatches_iff (c : Cfs) : c.wordMatches = true ↔ c.checkWord = some (imageCrc c.stored) := by
  unfold Cfs.wordMatches
  cases c.checkWord <;> simp

/-- What the load reads stays, and the commit is over (R9). -/
theorem Cfs.load_keeps (c : Cfs) :
    c.load.stored = c.stored ∧ c.load.checkWord = c.checkWord ∧ c.load.uncommitted = false ∧ c.load.commit = .idle ∧
      c.load.lastCommit = .none ∧ c.load.resetCause = c.resetCause := by
  unfold Cfs.load Cfs.loadFailed
  repeat' split
  all_goals exact ⟨rfl, rfl, rfl, rfl, rfl, rfl⟩

/-- The outcome of a load (R9). -/
theorem Cfs.load_outcome (c : Cfs) :
    if c.checkWord = some (imageCrc c.stored) then
      match validate c.stored with
      | none => c.load.tables = c.stored ∧ c.load.storedValid = true ∧ c.load.workingValid = true ∧ c.load.lastValidation = .pass
      | some (id, n) =>
        c.load.tables = Tables.empty ∧ c.load.storedValid = false ∧ c.load.workingValid = false ∧ c.load.lastValidation = .failed id n
    else
      c.load.tables = Tables.empty ∧ c.load.storedValid = false ∧ c.load.workingValid = false ∧ c.load.lastValidation = .checkWord := by
  unfold Cfs.load
  simp only [Cfs.wordMatches_iff]
  split
  · rcases validate c.stored with _ | ⟨id, n⟩ <;> exact ⟨rfl, rfl, rfl, rfl⟩
  · exact ⟨rfl, rfl, rfl, rfl⟩

/-- A write that a reset ends leaves its contents, with the check word erased or whole (R19). -/
theorem Cfs.cutShort_keeps (c : Cfs) :
    c.cutShort.stored = c.stored ∧
      (if c.commit = .writing then c.cutShort.checkWord = none ∨ c.cutShort.checkWord = some (imageCrc c.stored)
        else c.cutShort.checkWord = c.checkWord) := by
  unfold Cfs.cutShort
  split
  · refine ⟨rfl, ?_⟩
    dsimp only
    split
    · exact .inr rfl
    · exact .inl rfl
  · exact ⟨rfl, rfl⟩

/-- The storage, the tables and the items after either reset. -/
theorem resetTo_loads (previous : LineMode) (cause : ResetCause) (tallyA tallyB : Nat) (s : State) :
    (resetTo previous cause tallyA tallyB s).cfs = { s.cfs.cutShort with resetCause := cause }.load ∧
      ∀ i, (resetTo previous cause tallyA tallyB s).attention i =
        (decide (i = .configInvalid) && !{ s.cfs.cutShort with resetCause := cause }.load.storedValid) := by
  refine ⟨rfl, fun i => (itemsAfterLoad_get _ i).trans ?_⟩
  have same : { s.cfs.cutShort with resetCause := cause }.load.storedValid = s.cfs.cutShort.load.storedValid := by
    unfold Cfs.load Cfs.wordMatches Cfs.loadFailed
    dsimp only
    cases s.cfs.cutShort.checkWord with
    | none => rfl
    | some w =>
      dsimp only
      split
      · rcases validate s.cfs.cutShort.stored with _ | ⟨id, n⟩ <;> rfl
      · rfl
  rw [same]

/-- Settles O12: the reset cause record is given to the load, which settles the tables and the item by the check word and the validation. -/
theorem resetsLoadImageAndCause : Obligations.ResetsLoadImageAndCause := by
  have causeOf (previous : LineMode) (cause : ResetCause) (a b : Nat) (s : State) :
      (resetTo previous cause a b s).cfs.resetCause = cause := (Cfs.load_keeps _).2.2.2.2.2
  constructor
  · intro s
    refine ⟨_, _, rfl, rfl, causeOf .., ?_⟩
    rw [causeOf]
    refine ⟨rfl, rfl, rfl, rfl, rfl, beq_iff_eq, fun bounded => ?_⟩
    exact satInc_eq_min bounded
  · intro s t c reset next
    obtain ⟨previous, cause, a, b, made⟩ : ∃ previous cause a b, t = resetTo previous cause a b s := by
      rcases reset with rfl | rfl <;> cases next <;> exact ⟨_, _, _, _, rfl⟩
    obtain ⟨cfs, items⟩ := resetTo_loads previous cause a b s
    rw [← made] at cfs items
    obtain ⟨stored, word, uncommitted, commit, lastCommit, -⟩ := Cfs.load_keeps { s.cfs.cutShort with resetCause := cause }
    have outcome := Cfs.load_outcome { s.cfs.cutShort with resetCause := cause }
    obtain ⟨contents, written⟩ := s.cfs.cutShort_keeps
    rw [← cfs] at stored word uncommitted commit lastCommit outcome items
    dsimp only at stored word outcome
    rw [contents] at stored outcome
    rw [← word] at outcome written
    refine ⟨stored, written, uncommitted, commit, lastCommit, ?_⟩
    split at outcome
    · rename_i matches_
      rw [if_pos matches_]
      rcases validation : validate s.cfs.stored with _ | ⟨id, n⟩ <;> rw [validation] at outcome <;>
        obtain ⟨tables, valid, working, last⟩ := outcome
      · exact ⟨tables, valid, working, last, fun i => by rw [items, valid]; simp⟩
      · exact ⟨tables, valid, working, last, fun i => by rw [items, valid]; simp⟩
    · rename_i differs
      rw [if_neg differs]
      obtain ⟨tables, valid, working, last⟩ := outcome
      exact ⟨tables, valid, working, last, fun i => by rw [items, valid]; simp⟩

/-! ### During the load, and its end (R9) -/

theorem whileOperating_of_loading {s : State} (f : State → State) (h : s.loading = true) : whileOperating s f = s := by
  simp [whileOperating, State.operating, h]

/-- Settles O14: every other command waits for an operating part. -/
theorem loadHoldsEverythingElse : Obligations.LoadHoldsEverythingElse := by
  intro s c loading
  have held (f : State → State) : (Host.Outcome.next (whileOperating s f) : Host.Outcome State Fault Refusal) = .next s := by
    rw [whileOperating_of_loading f loading]
  cases c with
  | powerOnReset => trivial
  | externalReset => trivial
  | imageLoadEnd active risen => trivial
  | estopFallingEdge => exact congrArg Host.Outcome.next (if_pos loading)
  | estopRisingEdge => exact congrArg Host.Outcome.next (if_pos loading)
  | eblRise => exact congrArg Host.Outcome.next (if_pos loading)
  | eblFall => exact congrArg Host.Outcome.next (if_pos loading)
  | _ => exact held _

/-- Settles O15: the read-back decides, and nothing departs at the end of the event. -/
theorem commitCompletionJudgesReadBack : Obligations.CommitCompletionJudgesReadBack := by
  intro s readBack loading writing waits
  have operating : s.operating = true := by simp [State.operating, loading]
  have executed : exec (.commitCompletion readBack) s = .next (endEvent (completeCommit readBack s)) :=
    congrArg Host.Outcome.next (whileOperating_of_operating _ operating)
  rw [executed]
  unfold completeCommit
  rw [if_pos writing]
  dsimp only
  split
  · exact congrArg Host.Outcome.next (endEvent_of_waits waits)
  · exact congrArg Host.Outcome.next (endEvent_of_waits waits)

/-- A car's load flags are evaluated: its tally and its weigh stay, and the other car's record stays (R156). -/
theorem evaluateLoad_load (s : State) (c e : Car) :
    (evaluateLoad s c).load e =
      if e = c then
        { s.load c with overload := (s.load c).overloaded s.line, tallyOver := (s.load c).tallyCondition s.line }
      else s.load e := by
  have handed (t : State) (b : Bool) : (if b then handNotice t (.carOrder c) else t).load e = t.load e := by
    split
    · exact congrArg (PerCar.get · e) (Calm.handNotice t _).load
    · rfl
  have marked (t : State) (b : Bool) : (if b then t.setAttention .tallyOver else t).load e = t.load e := by
    split <;> rfl
  unfold evaluateLoad
  dsimp only
  rw [handed, marked]
  split
  · rename_i same
    rw [same, State.load_withLoad_same]
  · rename_i other
    exact State.load_withLoad_other _ _ other

theorem evaluateLoad_attention (s : State) (c : Car) (i : Attention) (h : s.attention i = true) : (evaluateLoad s c).attention i = true := by
  unfold evaluateLoad
  dsimp only
  have marked (t : State) (b : Bool) (set : t.attention i = true) : (if b then t.setAttention .tallyOver else t).attention i = true := by
    split
    · exact State.attention_setAttention _ _ _ set
    · exact set
  split
  · exact (Calm.handNotice _ _).attention i (marked _ _ h)
  · exact marked _ _ h

/-- Settles O13: the started blocks are calm in the EB_FAULT, in the load flags and at the end of the event, and the flags follow from
the tallies and the weighs that stand. -/
theorem loadEndStartsTheBlocks : Obligations.LoadEndStartsTheBlocks := by
  intro s active risen loading
  let faulted := if risen then raiseEbFault (s.started active risen) else s.started active risen
  have toFault : Calm (s.started active risen) faulted := .ite (fun _ => .raiseEbFault _) fun _ => .refl _
  have toLoads : Contained faulted (endLoad active risen s) := .foldl .evaluateLoad allCars faulted
  have bks : (endLoad active risen s).bks = faulted.bks := evaluateLoads_bks faulted
  have toEnd := Calm.endEvent (endLoad active risen s)
  refine ⟨endEvent (endLoad active risen s), congrArg Host.Outcome.next (if_pos loading), ?_, ?_, ?_, ?_, ?_, ?_, ?_, fun c => ?_, fun lifted => ?_⟩
  · rw [toEnd.loading, toLoads.loading, toFault.loading]
    rfl
  · rw [toEnd.cfs, toLoads.cfs, toFault.cfs]
    rfl
  · rw [toEnd.pc5, toLoads.pc5, toFault.pc5]
    rfl
  · rw [toEnd.pending, toLoads.pending, toFault.pending]
    rfl
  · rw [toEnd.msu, toLoads.msu, toFault.msu]
    rfl
  · rw [toEnd.estop, bks, toFault.estop]
    rfl
  · rw [toEnd.eblRisen, bks, toFault.eblRisen]
    rfl
  · have record : (endEvent (endLoad active risen s)).load c =
        { s.load c with overload := (s.load c).overloaded s.line, tallyOver := (s.load c).tallyCondition s.line } := by
      have kept (e : Car) : faulted.load e = s.load e := congrArg (PerCar.get · e) toFault.load
      have line : faulted.line = s.line := congrArg (fun x : Cfs => x.tables.line) toFault.cfs
      have line' (e : Car) : (evaluateLoad faulted e).line = s.line :=
        (congrArg (fun x : Cfs => x.tables.line) (Contained.evaluateLoad faulted e).cfs).trans line
      have evaluated : (endLoad active risen s).load c = (evaluateLoad (evaluateLoad faulted .a) .b).load c := rfl
      have ended : (endEvent (endLoad active risen s)).load c = (endLoad active risen s).load c := congrArg (PerCar.get · c) toEnd.load
      rw [ended, evaluated]
      cases c <;> simp only [evaluateLoad_load, kept, line, line', reduceCtorEq, if_true, if_false]
    rw [record]
    refine ⟨rfl, rfl, ?_⟩
    unfold LoadRecord.overloaded
    rcases (s.load c).weigh with _ | w <;> rfl
  · have raised : faulted = raiseEbFault (s.started active risen) := if_pos lifted
    constructor
    · refine toEnd.attention _ (evaluateLoad_attention _ _ _ (evaluateLoad_attention _ _ _ ?_))
      change faulted.attention _ = true
      rw [raised]
      exact (Calm.raise ..).attention _ (State.attention_setAttention_same ..)
    · refine (Persists.endEvent _).causes _ ?_
      rw [bks, raised]
      exact holdsCause_raise ..

end Sys2Proof.Machine
end

section
/-! The rows, said once: what an operating part makes of an event and of a request that it takes now, and the codings of the console
commands with the commands that are outside them (R170, R179). -/

namespace Sys2Proof.Machine

/-! ### Events -/

theorem operating_of_loaded {s : State} (h : s.loading = false) : s.operating = true := by simp [State.operating, h]

/-- An event of an operating part is its operation. -/
theorem next_operating {s : State} (f : State → State) (h : s.loading = false) :
    (Host.Outcome.next (whileOperating s f) : Host.Outcome State Fault Refusal) = .next (f s) := by
  rw [whileOperating_of_operating f (operating_of_loaded h)]

/-- While a cause is latched nothing departs: the readiness test fails (R70). -/
theorem waits_of_latched {s : State} (h : s.bks.demand.latched ≠ .none) : s.waits = true := by
  have failing : s.readiness ≠ none := fun ready => h (latched_of_ready ready)
  have some_ : s.readiness.isSome = true := Option.isSome_iff_ne_none.mpr failing
  simp [State.waits, some_]

theorem endEvent_of_latched {s : State} (h : s.bks.demand.latched ≠ .none) : endEvent s = s.rested := endEvent_of_waits (waits_of_latched h)

/-- Outside CLOSING nothing departs. -/
theorem waits_of_run {s : State} (h : s.rco.runState ≠ .closing) : s.waits = true := by simp [State.waits, h]

theorem endEvent_of_run {s : State} (h : s.rco.runState ≠ .closing) :
    endEvent s = s.withRco { s.rco with firstFailing := none } := by
  rw [endEvent_of_waits (waits_of_run h)]
  simp [State.rested, h]

/-- The readiness test reads of the doors the fields that a report gives and whether a release stands (R70). -/
theorem readyHolds_of_releases {s t : State} (calm : Calm s t) (latched : t.bks.demand.latched = s.bks.demand.latched)
    (release : ∀ c, (t.door c).release = .none ↔ (s.door c).release = .none) (c : ReadyCond) : t.readyHolds c = s.readyHolds c := by
  have link (i : PortId) : t.linkAlive i = s.linkAlive i := (calm.ports i).alive
  obtain ⟨doorA, railA, faultA, -⟩ := calm.doors .a
  obtain ⟨doorB, railB, faultB, -⟩ := calm.doors .b
  have releaseA := release .a
  have releaseB := release .b
  simp only [State.door, PerCar.get] at doorA railA faultA doorB railB faultB releaseA releaseB
  cases c with
  | releases =>
    refine Bool.eq_iff_iff.mpr ?_
    simp only [State.readyHolds, State.releasesNone, Bool.and_eq_true, beq_iff_eq, releaseA, releaseB]
  | doors => simp only [State.readyHolds, State.doorsLocked, doorA, doorB]
  | brakeLatch => simp only [State.readyHolds, latched]
  | estop => simp only [State.readyHolds, calm.estop]
  | measurement => simp only [State.readyHolds, calm.msu]
  | standstill => simp only [State.readyHolds, calm.msu]
  | linkDrv => simp only [State.readyHolds, link]
  | linkCra => simp only [State.readyHolds, link]
  | linkCrb => simp only [State.readyHolds, link]
  | drive => simp only [State.readyHolds, calm.driveReport]
  | carFault => simp only [State.readyHolds, faultA, faultB]
  | rail => simp only [State.readyHolds, railA, railB]
  | overload => simp only [State.readyHolds, calm.load]

theorem readiness_of_releases {s t : State} (calm : Calm s t) (latched : t.bks.demand.latched = s.bks.demand.latched)
    (release : ∀ c, (t.door c).release = .none ↔ (s.door c).release = .none) : t.readiness = s.readiness := by
  unfold State.readiness
  congr 1
  funext c
  rw [readyHolds_of_releases calm latched release]

theorem waits_of_releases {s t : State} (calm : Calm s t) (rco : t.rco = s.rco) (latched : t.bks.demand.latched = s.bks.demand.latched)
    (release : ∀ c, (t.door c).release = .none ↔ (s.door c).release = .none) : t.waits = s.waits := by
  unfold State.waits
  rw [readiness_of_releases calm latched release, rco]

theorem waits_of_calm {s t : State} (calm : Calm s t) (rco : t.rco = s.rco) (bks : t.bks = s.bks) (dou : t.dou = s.dou) :
    t.waits = s.waits :=
  waits_of_releases calm rco (by rw [bks]) fun c => by rw [State.door, State.door, dou]

/-! ### Requests -/

theorem foldl_offerNotice_eq (l : List Notice) (s : State) : ∃ ports, l.foldl offerNotice s = s.withPorts ports := by
  induction l generalizing s with
  | nil => exact ⟨s.ports, rfl⟩
  | cons n l ih =>
    obtain ⟨ports, same⟩ := ih (offerNotice s n)
    exact ⟨ports, same⟩

/-- A gate's notices and those of the orders go to no console port (R160). -/
theorem Notice.port_ne_con (n : Notice) : n.port ≠ .con := by
  cases n with
  | driveOrder => exact fun h => by cases h
  | carOrder c => cases c <;> exact fun h => by cases h
  | gate n =>
    change (gateSta n.gate).port ≠ .con
    cases gateSta n.gate <;> exact fun h => by cases h

theorem foldl_offerNotice_con (l : List Notice) (s : State) : (l.foldl offerNotice s).port .con = s.port .con := by
  induction l generalizing s with
  | nil => rfl
  | cons n l ih =>
    have first : (offerNotice s n).port .con = s.port .con := State.port_withPort_other _ _ (Notice.port_ne_con n).symm
    exact (ih _).trans first

/-- The request of the row taken now: its event is decided, and the ports take the reply and then the notices (R164). -/
theorem exec_taken {s : State} {c : Instr} {i : PortId} {r : Request} (row : c.request = some (i, r)) (taken : s.takesNow i = true) :
    exec c s = .next (answered i r s) := by
  rw [exec_of_request row, whileOperating_of_operating _ (operating_of_takesNow taken), offerRequest_of_takesNow r taken]

/-! A reply is no notice. -/

theorem decideValidate_reply (x : Sta) (g : Fin 16) (s : State) : ∃ a r, (decideValidate x g s).2 = gateAnswer g a r := by
  unfold decideValidate
  dsimp only
  repeat' split
  all_goals exact ⟨_, _, rfl⟩

theorem decidePassage_reply (x : Sta) (g : Fin 16) (s : State) : ∃ r, (decidePassage x g s).2 = passageAnswer g r := by
  unfold decidePassage
  dsimp only
  repeat' split
  all_goals exact ⟨_, rfl⟩

theorem gateStanding_reply (g : Fin 16) (s : State) : ∃ a r, gateStanding g s = gateAnswer g a r := by
  unfold gateStanding
  repeat' split
  all_goals exact ⟨_, _, rfl⟩

theorem decideGateReport_reply (x : Sta) (g : Fin 16) (fault : Byte) (s : State) :
    ∃ a r, (decideGateReport x g fault s).2 = gateAnswer g a r := by
  unfold decideGateReport
  split
  · exact ⟨_, _, rfl⟩
  · exact gateStanding_reply g _

theorem reply_isNotice (i : PortId) (r : Request) (s t : State) : ((decideRequest i r s).2.form t).isNotice = false := by
  cases r with
  | validate g =>
    obtain ⟨a, r, same⟩ := decideValidate_reply (portStation i) g s
    exact congrArg TxEntry.isNotice same
  | passage g =>
    obtain ⟨r, same⟩ := decidePassage_reply (portStation i) g s
    exact congrArg TxEntry.isNotice same
  | gateReport g f =>
    obtain ⟨a, r, same⟩ := decideGateReport_reply (portStation i) g f s
    exact congrArg TxEntry.isNotice same
  | driveReport a b => rfl
  | carReport d t r p w f => rfl
  | call p => rfl
  | command c => rfl

/-- The reply of a request decided now, formed once its event is complete. -/
def replyTo (i : PortId) (r : Request) (s : State) : TxEntry :=
  (decideRequest i r (s.withAnswering (some i))).2.form (decidedState i r s)

/-- The decided event with its reply placed. -/
def repliedState (i : PortId) (r : Request) (s : State) : State := placeReply i (replyTo i r s) (decidedState i r s)

/-- What a request taken now leaves: the blocks of its decided event, and in each port what the reply left it, with notices. -/
theorem answered_ports (i : PortId) (r : Request) (s : State) :
    ∃ ports, answered i r s = ((decidedState i r s).withPorts ports).withHeld [] ∧
      (∀ j, ((repliedState i r s).port j).TakesNotices (ports.get j)) ∧ ports.con = (repliedState i r s).port .con := by
  obtain ⟨ports, same⟩ := foldl_offerNotice_eq (repliedState i r s).held ((repliedState i r s).withHeld [])
  have quiet := Quiet.foldl_offerNotice (repliedState i r s).held (s := (repliedState i r s).withHeld []) rfl
  have con := foldl_offerNotice_con (repliedState i r s).held ((repliedState i r s).withHeld [])
  rw [same] at quiet con
  exact ⟨ports, same, quiet.ports, con⟩

/-- The reply stands at the end of what the transmit queue held. -/
theorem replied_tx (i : PortId) (r : Request) (s : State) :
    ((repliedState i r s).port i).tx = (s.port i).tx ++ [replyTo i r s] := by
  simp [repliedState, placeReply, (decidedOn_decidedState i r s).own]

/-- A row whose request is taken now: its reply, at the end of what the transmit queue held, and the blocks of its decided event. -/
theorem exec_request {s : State} {c : Instr} {i : PortId} {r : Request} (row : c.request = some (i, r)) (taken : s.takesNow i = true) :
    ∃ ports, exec c s = .next (((decidedState i r s).withPorts ports).withHeld []) ∧
      (ports.get i).tx[(s.port i).tx.length]? = some (replyTo i r s) ∧
      (i = .con → ports.con.tx = s.ports.con.tx ++ [replyTo i r s]) := by
  obtain ⟨ports, same, noticed, con⟩ := answered_ports i r s
  refine ⟨ports, (exec_taken row taken).trans (congrArg Host.Outcome.next same), ?_, ?_⟩
  · exact (noticed i).place _ _ (by simp [replied_tx]) (reply_isNotice ..)
  · rintro rfl
    rw [con]
    exact replied_tx ..

/-- The event of a request ends without a departure where the state that its decision leaves waits. -/
theorem decidedState_of_waits {i : PortId} {r : Request} {s t : State} {reply : Reply}
    (decided : decideRequest i r (s.withAnswering (some i)) = (t, reply)) (waits : t.waits = true) :
    decidedState i r s = t.rested.withAnswering none := by
  unfold decidedState
  rw [decided, endEvent_of_waits waits]

theorem replyTo_of_decided {i : PortId} {r : Request} {s t : State} {reply : Reply}
    (decided : decideRequest i r (s.withAnswering (some i)) = (t, reply)) : replyTo i r s = reply.form (decidedState i r s) := by
  unfold replyTo
  rw [decided]

/-- A notice for another port than that of the request is offered at once, as between two requests. -/
theorem handNotice_withAnswering {s : State} {i : PortId} {n : Notice} (other : n.port ≠ i) (idle : s.answering = none) :
    handNotice (s.withAnswering (some i)) n = (handNotice s n).withAnswering (some i) := by
  have different : some i ≠ some n.port := fun h => other (Option.some.inj h).symm
  unfold handNotice
  rw [State.withAnswering_answering, if_neg different, idle, if_neg (by simp)]
  cases n <;> rfl

/-- A row that changes nothing in any case but that of a command is the command's conclusion. -/
theorem exec_concluded {s t : State} {c : Instr} {x : Command} {code : ResultCode} {detail : List Byte}
    (row : c.request = some (.con, .command x)) (taken : s.takesNow .con = true)
    (decided : decideCommand x (s.withAnswering (some .con)) = { state := t.withAnswering (some .con), code := code, detail := detail })
    (answering : t.answering = none) (held : t.held = []) (waits : t.waits = true) :
    exec c s = .next (t.concluded code x.kind detail) :=
  (exec_of_request row s).trans (congrArg Host.Outcome.next (command_concluded taken decided answering held waits))

/-- A row whose command is refused, or accepted with nothing done. -/
theorem exec_refused {s : State} {c : Instr} {x : Command} {code : ResultCode} {detail : List Byte}
    (row : c.request = some (.con, .command x)) (taken : s.takesNow .con = true) (waits : s.waits = true)
    (decided : decideCommand x (s.withAnswering (some .con)) = { state := s.withAnswering (some .con), code := code, detail := detail }) :
    exec c s = .next (s.concluded code x.kind detail) :=
  have ⟨answering, held⟩ := idle_of_takesNow taken
  exec_concluded row taken decided answering held waits

/-- Where a decision that leaves `t` leads when nothing departs after it: to its blocks, rested, and to its items. -/
structure Rests (t u : State) : Prop where
  cfs : u.cfs = t.cfs
  msu : u.msu = t.msu
  rco : u.rco = t.rested.rco
  ssv : u.ssv = t.ssv
  bks : u.bks = t.bks
  dou : u.dou = t.dou
  adu : u.adu = t.adu
  pc5 : u.pc5 = t.pc5
  att : u.att = t.att

theorem Rests.load {t u : State} (r : Rests t u) (c : Car) : u.load c = t.load c := congrArg (fun a => a.load.get c) r.adu
theorem Rests.door {t u : State} (r : Rests t u) (c : Car) : u.door c = t.door c := congrArg (fun d => d.get c) r.dou
theorem Rests.gate {t u : State} (r : Rests t u) (g : Fin 16) : u.gate g = t.gate g := congrArg (fun a => a.gates.get g) r.adu
theorem Rests.session {t u : State} (r : Rests t u) (p : Fin 8) : u.session p = t.session p :=
  congrArg (fun a => a.sessions.get p) r.adu
theorem Rests.line {t u : State} (r : Rests t u) : u.line = t.line := congrArg (fun k => k.tables.line) r.cfs
theorem Rests.attention {t u : State} (r : Rests t u) (i : Attention) : u.attention i = t.attention i :=
  congrArg (fun a => a.get i.index) r.att

theorem Rests.authority {t u : State} (r : Rests t u) : u.rco.authority = t.rco.authority := by
  rw [r.rco]
  rfl
theorem Rests.runState {t u : State} (r : Rests t u) : u.rco.runState = t.rco.runState := by
  rw [r.rco]
  rfl
theorem Rests.mode {t u : State} (r : Rests t u) : u.rco.mode = t.rco.mode := by
  rw [r.rco]
  rfl

theorem Rests.ended (t : State) (ports : Ports) : Rests t (((t.rested.withAnswering none).withPorts ports).withHeld []) :=
  ⟨rfl, rfl, rfl, rfl, rfl, rfl, rfl, rfl, rfl⟩

/-- A row whose request is decided so, with nothing departing after it: the reply stands at the end of what the transmit queue held,
formed of the state that the event leaves. -/
theorem exec_rests {s t : State} {c : Instr} {i : PortId} {r : Request} {reply : Reply} (row : c.request = some (i, r))
    (taken : s.takesNow i = true) (decided : decideRequest i r (s.withAnswering (some i)) = (t, reply)) (waits : t.waits = true) :
    ∃ u, exec c s = .next u ∧ Rests t u ∧ (u.port i).tx[(s.port i).tx.length]? = some (reply.form u) ∧
      (i = .con → u.ports.con.tx = s.ports.con.tx ++ [reply.form u]) := by
  obtain ⟨ports, next, place, con⟩ := exec_request row taken
  have formed (ports : Ports) : replyTo i r s = reply.form (((t.rested.withAnswering none).withPorts ports).withHeld []) := by
    rw [replyTo_of_decided decided, decidedState_of_waits decided waits]
    cases reply <;> rfl
  rw [decidedState_of_waits decided waits] at next
  exact ⟨_, next, .ended t ports, formed ports ▸ place, formed ports ▸ con⟩

/-- A row whose command is decided so, with nothing departing after it: the RESULT joins CON's transmit queue. -/
theorem exec_decided {s t : State} {c : Instr} {x : Command} {code : ResultCode} {detail : List Byte}
    (row : c.request = some (.con, .command x)) (taken : s.takesNow .con = true)
    (decided : decideCommand x (s.withAnswering (some .con)) = { state := t, code := code, detail := detail }) (waits : t.waits = true) :
    ∃ u, exec c s = .next u ∧ Rests t u ∧
      u.ports.con.tx = s.ports.con.tx ++ [resultTelegram code u.attentionSummary x.kind detail] := by
  have asked : decideRequest .con (.command x) (s.withAnswering (some .con)) = (t, .result code x.kind detail) := by
    simp only [decideRequest, decided]
  obtain ⟨u, next, rests, -, con⟩ := exec_rests row taken asked waits
  exact ⟨u, next, rests, con rfl⟩

/-! ### Arguments outside their coding -/

theorem LineMode.ofCode_of_le {b : Byte} (h : 5 ≤ b.toNat) : LineMode.ofCode b = none := by
  unfold LineMode.ofCode
  split
  case h_6 => rfl
  all_goals omega

theorem Dir.ofCode_of_le {b : Byte} (h : 2 ≤ b.toNat) : Dir.ofCode b = none := by
  unfold Dir.ofCode
  split
  case h_3 => rfl
  all_goals omega

theorem Car.ofCode_of_le {b : Byte} (h : 2 ≤ b.toNat) : Car.ofCode b = none := by
  unfold Car.ofCode
  split
  case h_3 => rfl
  all_goals omega

theorem Car.ofCode_of_lt {b : Byte} (h : b.toNat < 2) : ∃ c, Car.ofCode b = some c := by
  have coded : b.toNat = 0 ∨ b.toNat = 1 := by omega
  rcases coded with a | b
  · exact ⟨.a, by simp [Car.ofCode, a]⟩
  · exact ⟨.b, by simp [Car.ofCode, b]⟩

theorem Side.ofCode_of_le {b : Byte} (h : 3 ≤ b.toNat) : Side.ofCode b = none := by
  unfold Side.ofCode
  split
  case h_4 => rfl
  all_goals omega

theorem gateOfCode_of_le {b : Byte} (h : 16 ≤ b.toNat) : gateOfCode b = none := dif_neg (by omega)

theorem TableId.ofCode_of_le {b : Byte} (h : 6 ≤ b.toNat) : TableId.ofCode b = none := by
  unfold TableId.ofCode
  split
  case h_7 => rfl
  all_goals omega

theorem Attention.ofCode_of_out {b : Byte} (h : b.toNat = 0 ∨ 26 < b.toNat) : Attention.ofCode b = none := by
  unfold Attention.ofCode
  split
  case h_27 => rfl
  all_goals omega

/-- Settles O60: every owner reads its arguments before it makes any other test. -/
theorem uncodedCommandsAreRefused : Obligations.UncodedCommandsAreRefused := by
  intro s taken waits
  dsimp only
  refine ⟨fun kind args => exec_refused (x := .unknown kind args) rfl taken waits rfl, fun b x y =>
    ⟨fun beyond => ?_, fun beyond => ⟨?_, ?_⟩, fun beyond => ⟨?_, ?_, ?_, ?_⟩, fun car beyond => ?_, fun beyond => ⟨?_, ?_⟩,
      fun beyond => ?_, fun beyond => ?_⟩⟩
  · refine exec_refused (x := .mode b) rfl taken waits ?_
    simp only [decideCommand, decideMode, LineMode.ofCode_of_le beyond]
    rfl
  · refine exec_refused (x := .trip b) rfl taken waits ?_
    simp only [decideCommand, decideTrip, stopOfCode_of_le beyond]
    rfl
  · refine exec_refused (x := .cancel b) rfl taken waits ?_
    simp only [decideCommand, decideCancel, stopOfCode_of_le beyond]
    rfl
  · refine exec_refused (x := .jog b) rfl taken waits ?_
    simp only [decideCommand, decideJog, Dir.ofCode_of_le beyond]
    rfl
  · refine exec_refused (x := .evacuate b x) rfl taken waits ?_
    simp only [decideCommand, decideEvacuate, Car.ofCode_of_le beyond]
    rfl
  · refine exec_refused (x := .evacuateEnd b) rfl taken waits ?_
    simp only [decideCommand, decideEvacuateEnd, Car.ofCode_of_le beyond]
    rfl
  · refine exec_refused (x := .tallySet b x) rfl taken waits ?_
    simp only [decideCommand, decideTallySet, Car.ofCode_of_le beyond]
    rfl
  · obtain ⟨c, named⟩ := Car.ofCode_of_lt car
    refine exec_refused (x := .evacuate x b) rfl taken waits ?_
    simp only [decideCommand, decideEvacuate, named, Side.ofCode_of_le beyond]
    rfl
  · refine exec_refused (x := .gateMask b) rfl taken waits ?_
    simp only [decideCommand, decideGateMask, gateOfCode_of_le beyond]
    rfl
  · refine exec_refused (x := .gateUnmask b) rfl taken waits ?_
    simp only [decideCommand, decideGateUnmask, gateOfCode_of_le beyond]
    rfl
  · refine exec_refused (x := .query b x y) rfl taken waits ?_
    exact if_pos beyond
  · refine exec_refused (x := .clear b) rfl taken waits ?_
    simp only [decideCommand, decideClear, Attention.ofCode_of_out beyond]
    rfl

end Sys2Proof.Machine
end

section
/-! Console commands that start no sequence: CONFIG COMMIT, CLEAR, EVACUATE, GATE MASK and TALLY SET (R16, R134, R135, R143, R155, R171). -/

namespace Sys2Proof.Machine

/-! ### Operations that set no attention item -/

theorem foldl_att {α : Type} {f : State → α → State} (h : ∀ s x, (f s x).att = s.att) (l : List α) (s : State) :
    (l.foldl f s).att = s.att := by
  induction l generalizing s with
  | nil => rfl
  | cons x l ih => exact (ih _).trans (h s x)

@[simp] theorem handNotice_att (s : State) (n : Notice) : (handNotice s n).att = s.att := by
  unfold handNotice
  split <;> rfl

@[simp] theorem noticeGate_att (g : Fin 16) (a : NoticeAnswer) (r : Reason) (s : State) : (noticeGate g a r s).att = s.att :=
  handNotice_att ..

@[simp] theorem closeSession_att (r : CloseReason) (s : State) (p : Fin 8) : (closeSession r s p).att = s.att := by
  unfold closeSession
  split
  · dsimp only
    rw [State.withSession_att, foldl_att fun s g => ?_, foldl_att fun s g => ?_]
    · simp [closeWaiting, idleGate]
    · unfold closeReserved
      split <;> simp [idleGate]
  · rfl

@[simp] theorem closeAll_att (r : CloseReason) (s : State) : (closeAll r s).att = s.att := foldl_att (by simp) _ s

@[simp] theorem releaseLost_att (c : Car) (s : State) : (releaseLost c s).att = s.att :=
  foldl_att (fun s p => by split <;> simp) _ s

@[simp] theorem setDoor_att (c : Car) (d : DoorRecord) (s : State) : (setDoor c d s).att = s.att := by
  unfold setDoor
  split <;> simp

@[simp] theorem orderRelease_att (c : Car) (side : Side) (kind : ReleaseKind) (s : State) : (orderRelease c side kind s).att = s.att :=
  setDoor_att ..

@[simp] theorem askRelease_att (s : State) (c : Car) : (askRelease s c).att = s.att := by
  unfold askRelease
  split <;> simp

@[simp] theorem askReleases_att (s : State) : (askReleases s).att = s.att := by
  unfold askReleases
  split
  · exact foldl_att (fun s c => by split <;> simp) _ s
  · rfl

@[simp] theorem withdraw_att (c : Car) (w : WithdrawalCause) (s : State) : (withdraw c w s).att = s.att := by
  unfold withdraw
  dsimp only
  split <;> simp

@[simp] theorem withdrawPlatform_att (w : WithdrawalCause) (s : State) (c : Car) : (withdrawPlatform w s c).att = s.att := by
  unfold withdrawPlatform
  split <;> simp

@[simp] theorem setAuthority_att (a : Authority) (s : State) : (setAuthority a s).att = s.att := by
  unfold setAuthority
  dsimp only
  split <;> simp

@[simp] theorem enterStandby_att (c : ModeCause) (s : State) : (enterStandby c s).att = s.att := by
  unfold enterStandby
  dsimp only
  rw [foldl_att (by simp)]
  simp [changeMode]

@[simp] theorem enterService_att (s : State) : (enterService s).att = s.att := by
  unfold enterService
  rw [askReleases_att]
  rfl

/-- The summary is that of the items (R171). -/
theorem attentionSummary_of_att {s t : State} (h : t.att = s.att) : t.attentionSummary = s.attentionSummary := by
  have item : t.attention = s.attention := by
    funext i
    rw [State.attention, h]
    rfl
  unfold State.attentionSummary State.groupSet
  rw [item]

/-! ### CONFIG COMMIT -/

/-- A commit of tables that pass begins the write on their validation (R13, R17). -/
theorem decideConfigCommit_pass {s : State} (idle : s.cfs.commit = .idle) (mode : s.rco.mode = .maintenance)
    (valid : validate s.cfs.tables = none) :
    decideConfigCommit s =
      { state := beginCommit (validateWorking s), code := .accepted, detail := (beginCommit (validateWorking s)).cfs.status } := by
  unfold decideConfigCommit
  rw [if_neg (by simp [idle]), if_neg (by simp [mode])]
  simp only [validateWorking, valid, validationResult, State.withCfs_cfs]

theorem decideConfigCommit_fail {s : State} (idle : s.cfs.commit = .idle) (mode : s.rco.mode = .maintenance) {id : TableId} {n : Nat}
    (invalid : validate s.cfs.tables = some (id, n)) :
    decideConfigCommit s =
      refuse (validateWorking s) .refusedState 3 ([id.code, byte n] ++ (validateWorking s).cfs.status) := by
  unfold decideConfigCommit
  rw [if_neg (by simp [idle]), if_neg (by simp [mode])]
  simp only [validateWorking, invalid, validationResult, State.withCfs_cfs]
  rfl

/-- Settles O58: the four outcomes of a commit, in the order of its tests. -/
theorem configCommitValidatesFirst : Obligations.ConfigCommitValidatesFirst := by
  intro s taken waits
  obtain ⟨answering, held⟩ := idle_of_takesNow taken
  refine ⟨fun writing => ?_, fun idle mode => ?_, fun idle mode => ⟨fun valid => ?_, fun id n invalid => ?_⟩⟩
  · exact exec_refused (x := .configCommit) rfl taken waits (if_pos writing)
  · exact exec_refused (x := .configCommit) rfl taken waits ((if_neg (by simp [idle])).trans (if_pos mode))
  · refine exec_concluded (x := .configCommit) rfl taken ((decideConfigCommit_pass (s := s.withAnswering (some .con)) idle mode valid).trans ?_) answering held waits
    simp only [validateWorking, beginCommit, State.withAnswering_cfs, State.withCfs_cfs, valid, validationResult]
    rfl
  · refine exec_concluded (x := .configCommit) rfl taken ((decideConfigCommit_fail (s := s.withAnswering (some .con)) idle mode invalid).trans ?_) answering held waits
    simp only [validateWorking, State.withAnswering_cfs, State.withCfs_cfs, invalid, validationResult]
    rfl

/-! ### CLEAR -/

theorem Attention.ofCode_index (i : Attention) : Attention.ofCode (BitVec.ofNat 8 (i.index.val + 1)) = some i := by
  cases i <;> rfl

/-- An item that is set is none of the conditions: no condition reads the items. -/
theorem attentionCondition_withAtt (s : State) (v : Vector Bool 26) (i : Attention) :
    (s.withAtt v).attentionCondition i = s.attentionCondition i := by
  cases i <;> rfl

theorem attentionCondition_clearEffect (s : State) (i j : Attention) : (clearEffect i s).attentionCondition j = s.attentionCondition j := by
  unfold clearEffect
  split
  · cases j <;> rfl
  · rfl

/-- An item whose condition holds stays as it was set; one whose condition is gone is clear (R171). -/
theorem decideClear_item {item : Byte} {i : Attention} (named : Attention.ofCode item = some i) (s : State) :
    decideClear item s =
      if s.attentionCondition i then refuse ((clearEffect i s).setAttention i) .refusedState 2 [item]
      else accept ((clearEffect i s).clearAttention i) := by
  unfold decideClear
  rw [named]
  have condition : ((clearEffect i s).clearAttention i).attentionCondition i = s.attentionCondition i :=
    (attentionCondition_withAtt ..).trans (attentionCondition_clearEffect s i i)
  have again : ((clearEffect i s).clearAttention i).setAttention i = (clearEffect i s).setAttention i := by
    simp [State.setAttention, State.clearAttention, State.withAtt]
  simp only [condition, again]

/-- What a CLEAR of PORT_DEGRADED does to each port. -/
theorem clearEffect_port (s : State) (i : PortId) : (clearEffect .portDegraded s).port i = (s.port i).clearDegraded := by
  cases i <;> rfl

/-- Settles O59: the condition decides, and reads nothing that the CLEAR changes. -/
theorem clearTestsTheCondition : Obligations.ClearTestsTheCondition := by
  intro s taken waits
  obtain ⟨answering, held⟩ := idle_of_takesNow taken
  refine ⟨fun i other => ?_, ?_⟩
  · have effect (t : State) : clearEffect i t = t := by
      unfold clearEffect
      split
      · exact absurd rfl other
      · rfl
    have decided := decideClear_item (Attention.ofCode_index i) (s.withAnswering (some .con))
    rw [effect, show (s.withAnswering (some .con)).attentionCondition i = s.attentionCondition i by cases i <;> rfl] at decided
    refine ⟨fun gone => ?_, fun holds => ?_⟩
    · rw [if_neg (by simp [gone])] at decided
      exact exec_concluded (t := s.clearAttention i) (x := .clear _) rfl taken decided answering held waits
    · rw [if_pos holds] at decided
      exact exec_concluded (t := s.setAttention i) (x := .clear _) rfl taken decided answering held waits
  · let cleared := (clearEffect .portDegraded s).clearAttention .portDegraded
    have done : exec (.clear 21) s = .next (cleared.concluded .accepted 17 []) :=
      exec_concluded (t := cleared) (x := .clear 21) rfl taken (decideClear_item (item := 21) (i := .portDegraded) rfl (s.withAnswering (some .con))) answering held waits
    refine ⟨_, done, rfl, fun i => ?_, rfl, rfl, rfl, rfl, rfl, rfl, rfl⟩
    by_cases con : i = .con
    · subst con
      rfl
    · have port : (cleared.concluded .accepted 17 []).port i = (s.port i).clearDegraded :=
        (State.port_withPort_other _ _ con).trans (clearEffect_port s i)
      rw [port, if_neg con, List.append_nil]
      rfl

/-! ### EVACUATE and EVACUATE END -/

/-- While a release is not NONE nothing departs: the readiness test fails (R70). -/
theorem waits_of_release {s : State} {c : Car} (h : (s.door c).release ≠ .none) : s.waits = true := by
  have failing : s.readiness ≠ none := fun ready => by
    have none := readiness_none ready .releases
    simp only [State.readyHolds, State.releasesNone, Bool.and_eq_true, beq_iff_eq] at none
    cases c with
    | a => exact h none.1
    | b => exact h none.2
  simp [State.waits, Option.isSome_iff_ne_none.mpr failing]

theorem Car.ofCode_code (c : Car) : Car.ofCode c.code = some c := by cases c <;> rfl
theorem Side.ofCode_code (d : Side) : Side.ofCode d.code = some d := by cases d <;> rfl

/-- The door records where one of them is replaced. -/
theorem door_of_dou_set {s t : State} {c : Car} {d : DoorRecord} (h : t.dou = s.dou.set c d) :
    t.door c = d ∧ ∀ e, e ≠ c → t.door e = s.door e :=
  ⟨by simp [State.door, h], fun e other => by simp [State.door, h, PerCar.get_set_other _ _ other]⟩

/-- A withdrawal of a release that is no platform's leaves the Admission Unit (R137). -/
theorem withdraw_adu_of_evacuation {c : Car} {s : State} (kind : (s.door c).isPlatform = false) (w : WithdrawalCause) :
    (withdraw c w s).adu = s.adu := by
  unfold withdraw
  dsimp only
  rw [if_neg (by simp [kind])]
  simp

theorem decideEvacuate_coded (c : Car) (d : Side) (s : State) :
    decideEvacuate c.code d.code s =
      if s.rco.mode = .locked then refuseBare s .refusedMode
      else if !s.msu.standstill then refuse s .refusedState 3 []
      else if s.bks.ebHold then refuse s .refusedState 4 []
      else if s.rco.authority.state ≠ .none then refuse s .refusedState 5 []
      else if (s.door c).release ≠ .none then refuse s .refusedState 6 []
      else accept (orderRelease c d .evacuation s) := by
  unfold decideEvacuate
  rw [Car.ofCode_code, Side.ofCode_code]

theorem decideEvacuateEnd_coded (c : Car) (s : State) :
    decideEvacuateEnd c.code s =
      if s.rco.mode = .locked then refuseBare s .refusedMode
      else if (s.door c).kind = some .evacuation ∧ (s.door c).given then accept (withdraw c .evacuateEnd s)
      else refuse s .refusedState 2 [] := by
  unfold decideEvacuateEnd
  rw [Car.ofCode_code]

/-- Settles O53, test by test. A release ordered or withdrawn is not NONE, so nothing departs after it. -/
theorem evacuationIsOrderedAndEnded : Obligations.EvacuationIsOrderedAndEnded := by
  intro s c side taken
  let begun := s.withAnswering (some .con)
  have evacuate := decideEvacuate_coded c side begun
  have ends := decideEvacuateEnd_coded c begun
  refine ⟨fun locked waits => ⟨?_, ?_⟩, fun unlocked => ⟨fun stands hold auth release => ?_,
    fun waits => ⟨fun moves => ?_, fun stands hold => ?_, fun stands hold auth => ?_, fun stands hold auth release => ?_⟩,
    fun kind given => ?_, fun waits other => ?_⟩⟩
  · exact exec_refused (x := .evacuate c.code side.code) rfl taken waits (evacuate.trans (if_pos locked))
  · exact exec_refused (x := .evacuateEnd c.code) rfl taken waits (ends.trans (if_pos locked))
  · have ordered : decideEvacuate c.code side.code begun = accept (orderRelease c side .evacuation begun) :=
      evacuate.trans ((if_neg unlocked).trans ((if_neg (by simp [begun, stands])).trans ((if_neg (by simp [begun, hold])).trans
        ((if_neg (not_not_intro auth)).trans (if_neg (not_not_intro release))))))
    have dou := orderRelease_dou c side .evacuation begun
    have calm := Calm.orderRelease c side .evacuation begun
    have att : (orderRelease c side .evacuation begun).att = s.att := orderRelease_att ..
    obtain ⟨u, next, rests, reply⟩ := exec_decided (x := .evacuate c.code side.code) (c := .evacuate c.code side.code) rfl taken ordered
      (waits_of_release (c := c) (by rw [(door_of_dou_set dou).1]; simp))
    rw [attentionSummary_of_att (rests.att.trans att)] at reply
    have bks : (orderRelease c side .evacuation begun).bks = s.bks := orderRelease_bks ..
    have adu : (orderRelease c side .evacuation begun).adu = s.adu := orderRelease_adu ..
    obtain ⟨own, others⟩ := door_of_dou_set (rests.dou.trans dou)
    exact ⟨u, next, own, others, rests.bks.trans bks, rests.adu.trans adu, rests.msu.trans calm.msu, rests.cfs.trans calm.cfs,
      rests.att.trans att, reply⟩
  · exact exec_refused (x := .evacuate c.code side.code) rfl taken waits
      (evacuate.trans ((if_neg unlocked).trans (if_pos (by simp [begun, moves]))))
  · exact exec_refused (x := .evacuate c.code side.code) rfl taken waits
      (evacuate.trans ((if_neg unlocked).trans ((if_neg (by simp [begun, stands])).trans (if_pos hold))))
  · exact exec_refused (x := .evacuate c.code side.code) rfl taken waits
      (evacuate.trans ((if_neg unlocked).trans ((if_neg (by simp [begun, stands])).trans ((if_neg (by simp [begun, hold])).trans
        (if_pos auth)))))
  · exact exec_refused (x := .evacuate c.code side.code) rfl taken waits
      (evacuate.trans ((if_neg unlocked).trans ((if_neg (by simp [begun, stands])).trans ((if_neg (by simp [begun, hold])).trans
        ((if_neg (not_not_intro auth)).trans (if_pos release))))))
  · have withdrawn : decideEvacuateEnd c.code begun = accept (withdraw c .evacuateEnd begun) :=
      ends.trans ((if_neg unlocked).trans (if_pos ⟨kind, given⟩))
    have dou := withdraw_dou c .evacuateEnd begun
    have calm := Calm.withdraw c .evacuateEnd begun
    have att : (withdraw c .evacuateEnd begun).att = s.att := withdraw_att ..
    have adu : (withdraw c .evacuateEnd begun).adu = s.adu :=
      withdraw_adu_of_evacuation (s := begun) (by change (s.door c).isPlatform = false; simp [DoorRecord.isPlatform, kind]) _
    obtain ⟨u, next, rests, reply⟩ := exec_decided (x := .evacuateEnd c.code) (c := .evacuateEnd c.code) rfl taken withdrawn
      (waits_of_release (c := c) (by rw [(door_of_dou_set dou).1]; simp [DoorRecord.withdrawn]))
    rw [attentionSummary_of_att (rests.att.trans att)] at reply
    have bks : (withdraw c .evacuateEnd begun).bks = s.bks := withdraw_bks ..
    obtain ⟨own, others⟩ := door_of_dou_set (rests.dou.trans dou)
    exact ⟨u, next, own, others, rests.bks.trans bks, rests.adu.trans adu, rests.msu.trans calm.msu, rests.cfs.trans calm.cfs,
      rests.att.trans att, reply⟩
  · exact exec_refused (x := .evacuateEnd c.code) rfl taken waits (ends.trans ((if_neg unlocked).trans (if_neg other)))

/-! ### GATE MASK and GATE UNMASK -/

theorem gateOfCode_ofNat (g : Fin 16) : gateOfCode (BitVec.ofNat 8 g.val) = some g := by
  revert g
  decide

/-- With nobody waiting the policy is looked up in vain (R148, R150). -/
theorem evaluatePolicy_of_empty {s : State} {p : Fin 8} (h : (s.session p).waiting = []) : evaluatePolicy s p = s := by
  unfold evaluatePolicy
  rw [h]
  rfl

theorem leaveList_withGate (g : Fin 16) (x : GateChannel) (s : State) :
    leaveList g (s.withGate g x) =
      (s.withSession (s.gateEntry g).platform
        { s.session (s.gateEntry g).platform with waiting := (s.session (s.gateEntry g).platform).waiting.erase g }).withGate g
        { x with state := .idle, timer := none } := by
  unfold leaveList idleGate
  simp [State.withGate, State.withSession, State.withAdu, State.gate, State.gateEntry, State.session]

theorem giveUp_withGate (g : Fin 16) (x : GateChannel) (s : State) :
    giveUp g (s.withGate g x) =
      (s.withSession (s.gateEntry g).platform
        { s.session (s.gateEntry g).platform with reservations := (s.session (s.gateEntry g).platform).reservations - 1 }).withGate g
        { x with state := .idle, timer := none } := by
  unfold giveUp idleGate
  simp [State.withGate, State.withSession, State.withAdu, State.gate, State.gateEntry, State.session]

/-- A gate taken out of a session in which nobody else waits, with its record replaced: what it leaves behind, and its notice (R142,
R143). -/
theorem takeOut_waiting {g : Fin 16} {x : GateChannel} {s : State} (r : Reason) (state : x.state = .waiting)
    (alone : (s.session (s.gateEntry g).platform).waiting = [g]) :
    takeOut g r (s.withGate g x) =
      noticeGate g .refused r
        ((s.withSession (s.gateEntry g).platform { s.session (s.gateEntry g).platform with waiting := [] }).withGate g
          { x with state := .idle, timer := none }) := by
  have waiting : ((s.withGate g x).gate g).state = .waiting := by simp [State.withGate, State.withAdu, State.gate, state]
  unfold takeOut
  rw [waiting]
  dsimp only
  rw [leaveList_withGate, alone, List.erase_cons_head]
  exact evaluatePolicy_of_empty (by
    rw [noticeGate_session]
    simp [State.withGate, State.withSession, State.withAdu, State.session, State.gateEntry])

theorem takeOut_reserved {g : Fin 16} {x : GateChannel} {s : State} (r : Reason) (state : x.state = .reserved)
    (alone : (s.session (s.gateEntry g).platform).waiting = []) :
    takeOut g r (s.withGate g x) =
      noticeGate g .cancelled .none
        ((s.withSession (s.gateEntry g).platform
          { s.session (s.gateEntry g).platform with reservations := (s.session (s.gateEntry g).platform).reservations - 1 }).withGate g
          { x with state := .idle, timer := none }) := by
  have reserved : ((s.withGate g x).gate g).state = .reserved := by simp [State.withGate, State.withAdu, State.gate, state]
  unfold takeOut
  rw [reserved]
  dsimp only
  rw [giveUp_withGate]
  exact evaluatePolicy_of_empty (by
    rw [noticeGate_session]
    simpa [State.withGate, State.withSession, State.withAdu, State.session, State.gateEntry] using alone)

theorem takeOut_idle {g : Fin 16} {x : GateChannel} {s : State} (r : Reason) (state : x.state = .idle) :
    takeOut g r (s.withGate g x) = s.withGate g x := by
  have idle : ((s.withGate g x).gate g).state = .idle := by simp [State.withGate, State.withAdu, State.gate, state]
  unfold takeOut
  rw [idle]

theorem decideGateMask_coded (g : Fin 16) (s : State) :
    decideGateMask (BitVec.ofNat 8 g.val) s =
      if !(s.gateEntry g).present then refuse s .refusedRange 1 []
      else if (s.gate g).masked then accept s
      else accept (takeOut g .masked (s.withGate g { s.gate g with masked := true })) := by
  unfold decideGateMask
  rw [gateOfCode_ofNat]

theorem decideGateUnmask_coded (g : Fin 16) (s : State) :
    decideGateUnmask (BitVec.ofNat 8 g.val) s =
      if !(s.gateEntry g).present then refuse s .refusedRange 1 []
      else accept (s.withGate g { s.gate g with masked := false }) := by
  unfold decideGateUnmask
  rw [gateOfCode_ofNat]

/-- A masking whose notice goes to the gate's station: the RESULT after it. -/
theorem exec_gateMask_noticed {s t : State} {g : Fin 16} {n : PendingGate} (taken : s.takesNow .con = true) (waits : t.waits = true)
    (answering : t.answering = none) (held : t.held = [])
    (decided : decideGateMask (BitVec.ofNat 8 g.val) (s.withAnswering (some .con)) =
      accept (handNotice (t.withAnswering (some .con)) (.gate n))) :
    exec (.gateMask (BitVec.ofNat 8 g.val)) s = .next ((handNotice t (.gate n)).concluded .accepted 10 []) := by
  have calm := Calm.handNotice t (.gate n)
  refine exec_concluded (x := .gateMask _) rfl taken ?_ (calm.answering.trans answering) ((calm.held answering).trans held)
    ((waits_of_calm calm (handNotice_rco ..) (handNotice_bks ..) (handNotice_dou ..)).trans waits)
  exact decided.trans (congrArg accept (handNotice_withAnswering (Notice.port_ne_con _) answering))

/-- Settles O54, test by test and gate state by gate state. -/
theorem gateMaskFollowsTheConsole : Obligations.GateMaskFollowsTheConsole := by
  intro s g taken waits
  obtain ⟨answering, held⟩ := idle_of_takesNow taken
  let begun := s.withAnswering (some .con)
  have masks := decideGateMask_coded g begun
  have unmasks := decideGateUnmask_coded g begun
  have entry : (begun.gateEntry g).present = (s.gateEntry g).present := rfl
  dsimp only
  refine ⟨fun absent => ⟨?_, ?_⟩, fun present => ⟨?_, fun masked => ?_, fun open_ idle => ?_, fun open_ waiting alone => ?_,
    fun open_ reserved alone => ?_⟩⟩
  · exact exec_refused (x := .gateMask _) rfl taken waits (masks.trans (if_pos (by simp [entry, absent])))
  · exact exec_refused (x := .gateUnmask _) rfl taken waits (unmasks.trans (if_pos (by simp [entry, absent])))
  · exact exec_concluded (t := s.withGate g { s.gate g with masked := false }) (x := .gateUnmask _) rfl taken
      (unmasks.trans (if_neg (by simp [entry, present]))) answering held waits
  · exact exec_refused (x := .gateMask _) rfl taken waits
      (masks.trans ((if_neg (by simp [entry, present])).trans (if_pos masked)))
  all_goals
    have unmasked : ¬(begun.gate g).masked = true := by
      change ¬(s.gate g).masked = true
      simp [open_]
    have taken_out := masks.trans ((if_neg (by simp [entry, present])).trans (if_neg unmasked))
  · exact exec_concluded (t := s.withGate g { s.gate g with masked := true }) (x := .gateMask _) rfl taken
      (taken_out.trans (congrArg accept (takeOut_idle (x := { s.gate g with masked := true }) (s := begun) .masked idle)))
      answering held waits
  · exact exec_gateMask_noticed taken
      (t := (s.withSession (s.gateEntry g).platform { s.session (s.gateEntry g).platform with waiting := [] }).withGate g
        { s.gate g with masked := true, state := .idle, timer := none }) waits answering held
      (taken_out.trans (congrArg accept (takeOut_waiting (x := { s.gate g with masked := true }) (s := begun) .masked waiting alone)))
  · exact exec_gateMask_noticed taken
      (t := (s.withSession (s.gateEntry g).platform { s.session (s.gateEntry g).platform with
          reservations := (s.session (s.gateEntry g).platform).reservations - 1 }).withGate g
        { s.gate g with masked := true, state := .idle, timer := none }) waits answering held
      (taken_out.trans (congrArg accept (takeOut_reserved (x := { s.gate g with masked := true }) (s := begun) .masked reserved alone)))

/-! ### TALLY SET -/

/-- The policies looked up after a tally's change leave the load flags (R148). -/
theorem Calm.afterTally (c : Car) (s : State) : Calm (evaluateLoad s c) (Machine.afterTally c s) :=
  .foldl (fun _ _ => .ite (fun _ => .evaluatePolicy ..) fun _ => .refl _) _ _

theorem afterTally_load (c : Car) (s : State) (e : Car) : (afterTally c s).load e = (evaluateLoad s c).load e :=
  congrArg (PerCar.get · e) (Calm.afterTally c s).load

theorem setTally_load (c : Car) (n : Nat) (s : State) (e : Car) :
    (setTally c n s).load e = if e = c then { s.load c with tally := n } else s.load e := by
  by_cases same : e = c
  · subst same
    simp [setTally, State.load, State.withLoad, State.withAdu]
  · simp [setTally, State.load, State.withLoad, State.withAdu, same, PerCar.get_set_other _ _ same]

theorem decideTallySet_coded (c : Car) (n : Byte) (s : State) :
    decideTallySet c.code n s =
      if s.rco.runState ≠ .atStop then refuse s .refusedState 2 []
      else if (s.door c).release ≠ .none then refuse s .refusedState 3 []
      else accept (afterTally c (setTally c n.toNat s)) := by
  unfold decideTallySet
  rw [Car.ofCode_code]

/-- Settles O55: the flags are those of the tally given; at a stop nothing departs. -/
theorem tallySetGivesTheTally : Obligations.TallySetGivesTheTally := by
  intro s c n taken
  let begun := s.withAnswering (some .con)
  have sets := decideTallySet_coded c n begun
  refine ⟨fun elsewhere waits => ?_, fun atStop held => ?_, fun atStop free => ?_⟩
  · exact exec_refused (x := .tallySet c.code n) rfl taken waits (sets.trans (if_pos elsewhere))
  · exact exec_refused (x := .tallySet c.code n) rfl taken (waits_of_run (by simp [atStop]))
      (sets.trans ((if_neg (not_not_intro atStop)).trans (if_pos held)))
  · let given := setTally c n.toNat begun
    have accepted := sets.trans ((if_neg (not_not_intro atStop)).trans (if_neg (not_not_intro free)))
    have rco : (afterTally c given).rco = s.rco := afterTally_rco ..
    have contained := Contained.afterTally c given
    have load (e : Car) : (afterTally c given).load e =
        if e = c then { given.load c with overload := (given.load c).overloaded s.line, tallyOver := (given.load c).tallyCondition s.line }
        else given.load e := (afterTally_load c given e).trans (evaluateLoad_load given c e)
    obtain ⟨u, next, rests, reply⟩ := exec_decided (x := .tallySet c.code n) (c := .tallySet c.code n) rfl taken accepted
      (waits_of_run (by rw [rco]; simp [atStop]))
    have loads := rests.load
    have unset := setTally_load c n.toNat begun
    have own : given.load c = { s.load c with tally := n.toNat } := (unset c).trans (if_pos rfl)
    have car : u.load c = _ := (loads c).trans ((load c).trans (if_pos rfl))
    rw [own] at car
    refine ⟨u, next, ?_, ?_, ?_, ?_, fun e other => ?_, rests.bks.trans (afterTally_bks ..), rests.dou.trans (afterTally_dou ..),
      rests.msu.trans contained.msu, rests.cfs.trans contained.cfs, rests.authority.trans (congrArg Rco.authority rco), reply⟩
    · rw [car]
    · rw [car]
    · rw [car]
      rfl
    · rw [car]
      simp only [LoadRecord.tallyCondition]
      cases (s.load c).weigh with
      | none => rfl
      | some w => exact (Bool.decide_and ..).symm
    · rw [loads, load, if_neg other, unset e, if_neg other]
      rfl

end Sys2Proof.Machine
end

section
/-! What the settling of the line, the sequences' ends and the taking of a cause leave unchanged (R60, R61, R73, R99, R100). -/

namespace Sys2Proof.Machine

/-! ### Settling -/

/-- An authority changes to NONE, or from GRANTED to WITHDRAWN, if at all (R58). -/
def Subsides (a b : AuthState) : Prop := b = a ∨ b = .none ∨ (a = .granted ∧ b = .withdrawn)

theorem Subsides.trans {a b c : AuthState} (h : Subsides a b) (g : Subsides b c) : Subsides a c := by
  unfold Subsides at *
  rcases h with rfl | rfl | ⟨rfl, rfl⟩ <;> rcases g with rfl | rfl | ⟨old, rfl⟩ <;> simp_all

theorem Subsides.granted {a b : AuthState} (h : Subsides a b) (granted : b = .granted) : a = .granted := by
  rcases h with rfl | rfl | ⟨rfl, -⟩
  · exact granted
  · cases granted
  · rfl

theorem Subsides.none {a b : AuthState} (h : Subsides a b) (free : a = .none) : b = .none := by
  rcases h with rfl | rfl | ⟨rfl, -⟩
  · exact free
  · rfl
  · cases free

/-! ### The gates and the sessions, as the other blocks leave them -/

/-- No session opens, a gate keeps its state or becomes IDLE, and no waiting list grows. -/
structure Thins (s t : State) : Prop where
  opens : ∀ p, (t.session p).isOpen = true → (s.session p).isOpen = true
  gates : ∀ g, (t.gate g).state = (s.gate g).state ∨ (t.gate g).state = .idle
  lists : ∀ p g, g ∈ (t.session p).waiting → g ∈ (s.session p).waiting

namespace Thins

theorem refl (s : State) : Thins s s := ⟨fun _ => id, fun _ => .inl rfl, fun _ _ => id⟩

theorem trans {s t u : State} (a : Thins s t) (b : Thins t u) : Thins s u where
  opens p h := a.opens p (b.opens p h)
  gates g := (b.gates g).elim (fun same => (a.gates g).imp same.trans same.trans) .inr
  lists p g h := a.lists p g (b.lists p g h)

theorem after {s t u : State} (b : Thins t u) (a : Thins s t) : Thins s u := a.trans b

theorem ite {s a b : State} {c : Prop} [Decidable c] (ha : c → Thins s a) (hb : ¬c → Thins s b) : Thins s (if c then a else b) := by
  split
  · exact ha ‹_›
  · exact hb ‹_›

theorem foldl {α : Type} {f : State → α → State} (hf : ∀ s x, Thins s (f s x)) (l : List α) (s : State) : Thins s (l.foldl f s) := by
  induction l generalizing s with
  | nil => exact .refl s
  | cons x l ih => exact (hf s x).trans (ih _)

theorem of_adu {s t : State} (adu : t.adu = s.adu) : Thins s t := by
  have session (p : Fin 8) : t.session p = s.session p := by rw [State.session, adu, State.session]
  have gate (g : Fin 16) : t.gate g = s.gate g := by rw [State.gate, adu, State.gate]
  exact ⟨fun p => by rw [session]; exact id, fun g => .inl (by rw [gate]), fun p g => by rw [session]; exact id⟩

theorem noticeGate (g : Fin 16) (a : NoticeAnswer) (r : Reason) (s : State) : Thins s (noticeGate g a r s) := .of_adu (noticeGate_adu ..)

theorem idleGate (g : Fin 16) (s : State) : Thins s (idleGate g s) := by
  refine ⟨fun _ => id, fun e => ?_, fun _ _ => id⟩
  by_cases same : e = g
  · exact .inr (by rw [same, Machine.idleGate, State.gate_withGate_same])
  · exact .inl (by rw [Machine.idleGate, State.gate_withGate_other _ _ same])

/-- One session changes: its list loses members, and it does not open. -/
theorem withSession (s : State) (p : Fin 8) {x : Session} (opens : x.isOpen = true → (s.session p).isOpen = true)
    (lists : ∀ g, g ∈ x.waiting → g ∈ (s.session p).waiting) : Thins s (s.withSession p x) := by
  refine ⟨fun q h => ?_, fun _ => .inl rfl, fun q g h => ?_⟩
  · by_cases same : q = p
    · rw [same, State.session_withSession_same] at h
      exact same ▸ opens h
    · rwa [State.session_withSession_other _ _ same] at h
  · by_cases same : q = p
    · rw [same, State.session_withSession_same] at h
      exact same ▸ lists g h
    · rwa [State.session_withSession_other _ _ same] at h

theorem closeSession (r : CloseReason) (s : State) (p : Fin 8) : Thins s (closeSession r s p) := by
  have waited (u : State) (g : Fin 16) : Thins u (closeWaiting u g) := .after (.noticeGate ..) (.idleGate g u)
  have reserved (u : State) (g : Fin 16) : Thins u (closeReserved p u g) :=
    .ite (fun _ => .after (.noticeGate ..) (.idleGate g u)) fun _ => .refl u
  exact .ite (fun _ => .after (.withSession _ p (by simp) (by simp)) (.after (.foldl reserved _ _) (.foldl waited _ s))) fun _ => .refl s

theorem releaseLost (c : Car) (s : State) : Thins s (releaseLost c s) :=
  .foldl (fun s p => .ite (fun _ => .closeSession _ s p) fun _ => .refl s) _ s

theorem closeAll (r : CloseReason) (s : State) : Thins s (closeAll r s) := .foldl (.closeSession r) _ s

theorem leaveList (g : Fin 16) (s : State) : Thins s (leaveList g s) :=
  .after (.idleGate g _) (.withSession s _ id fun _ => List.mem_of_mem_erase)

theorem giveUp (g : Fin 16) (s : State) : Thins s (giveUp g s) := .after (.idleGate g _) (.withSession s _ id fun _ => id)

end Thins

/-! ### Settling operations -/

/-- No session opens, no authority is granted, no rail order changes, no release is given while the line moves, and the measurement, the
supervision and the escalation stay. -/
structure Settles (s t : State) : Prop where
  msu : t.msu = s.msu
  ssv : t.ssv = s.ssv
  esc : t.bks.esc = s.bks.esc
  thins : Thins s t
  auth : Subsides s.rco.authority.state t.rco.authority.state
  given : s.msu.standstill = false → ∀ c, (t.door c).given = true → (s.door c).given = true
  rails : ∀ c, (t.door c).railOrder = (s.door c).railOrder

theorem Settles.opens {s t : State} (h : Settles s t) (p : Fin 8) (open_ : (t.session p).isOpen = true) : (s.session p).isOpen = true :=
  h.thins.opens p open_

namespace Settles

theorem refl (s : State) : Settles s s := ⟨rfl, rfl, rfl, .refl s, .inl rfl, fun _ _ => id, fun _ => rfl⟩

theorem trans {s t u : State} (a : Settles s t) (b : Settles t u) : Settles s u where
  msu := b.msu.trans a.msu
  ssv := b.ssv.trans a.ssv
  esc := b.esc.trans a.esc
  thins := a.thins.trans b.thins
  auth := a.auth.trans b.auth
  given moves c h := a.given moves c (b.given (a.msu ▸ moves) c h)
  rails c := (b.rails c).trans (a.rails c)

theorem after {s t u : State} (b : Settles t u) (a : Settles s t) : Settles s u := a.trans b

theorem ite {s a b : State} {c : Prop} [Decidable c] (ha : c → Settles s a) (hb : ¬c → Settles s b) : Settles s (if c then a else b) := by
  split
  · exact ha ‹_›
  · exact hb ‹_›

theorem foldl {α : Type} {f : State → α → State} (hf : ∀ s x, Settles s (f s x)) (l : List α) (s : State) : Settles s (l.foldl f s) := by
  induction l generalizing s with
  | nil => exact .refl s
  | cons x l ih => exact (hf s x).trans (ih _)

section
variable {s t : State}

/-- Only the Run Coordinator, the Brake Sequencer and the ports change, and the authority is not granted by it. -/
theorem of_blocks (msu : t.msu = s.msu) (ssv : t.ssv = s.ssv) (esc : t.bks.esc = s.bks.esc) (adu : t.adu = s.adu) (dou : t.dou = s.dou)
    (auth : Subsides s.rco.authority.state t.rco.authority.state) : Settles s t where
  msu := msu
  ssv := ssv
  esc := esc
  thins := .of_adu adu
  auth := auth
  given _ c h := by
    rw [State.door, dou] at h
    exact h
  rails c := by rw [State.door, dou, State.door]

theorem withBks (s : State) {b : Bks} (esc : b.esc = s.bks.esc) : Settles s (s.withBks b) := .of_blocks rfl rfl esc rfl rfl (.inl rfl)

theorem withRco (s : State) {rco : Rco} (auth : rco.authority = s.rco.authority) : Settles s (s.withRco rco) :=
  .of_blocks rfl rfl rfl rfl rfl (.inl (congrArg Authority.state auth))

theorem setAttention (s : State) (i : Attention) : Settles s (s.setAttention i) := .of_blocks rfl rfl rfl rfl rfl (.inl rfl)

theorem handNotice (s : State) (n : Notice) : Settles s (handNotice s n) := by
  have same := SameBlocks.handNotice s n
  exact .of_blocks same.msu same.ssv (by rw [same.bks]) same.adu same.dou (.inl (by rw [same.rco]))

theorem setAuthority (s : State) {a : Authority} (auth : Subsides s.rco.authority.state a.state) :
    Settles s (setAuthority a s) := by
  have replaced : Settles s (s.withRco { s.rco with authority := a }) := .of_blocks rfl rfl rfl rfl rfl auth
  exact .ite (fun _ => replaced) fun _ => .after (.handNotice ..) replaced

theorem clearAuthority (s : State) : Settles s (clearAuthority s) := .setAuthority s (.inr (.inl rfl))

theorem withdrawAuthority (s : State) : Settles s (withdrawAuthority s) :=
  .ite (fun h => .setAuthority s (.inr (.inr ⟨h, rfl⟩))) fun _ => .refl s

theorem setRunState (r : RunState) (s : State) : Settles s (setRunState r s) := .ite (fun _ => .withRco s rfl) fun _ => .withRco s rfl

theorem startDwell (s : State) : Settles s (startDwell s) := .withRco s rfl

theorem returnTrip (s : State) : Settles s (returnTrip s) := by
  unfold Machine.returnTrip
  split
  · exact .refl s
  · exact .ite (fun _ => .withRco s rfl) fun _ => .after (.setAttention ..) (.withRco s rfl)

theorem changeMode (m : LineMode) (c : ModeCause) (l : List Trip) (s : State) : Settles s (changeMode m c l s) := .withRco s rfl

/-- A door record replaced where the rail order stays, and a release comes to be given only at standstill. -/
theorem setDoor (c : Car) (s : State) {d : DoorRecord} (rail : d.railOrder = (s.door c).railOrder)
    (given : s.msu.standstill = false → d.given = true → (s.door c).given = true) : Settles s (setDoor c d s) := by
  have door (e : Car) : (s.withDoor c d).door e = if e = c then d else s.door e := by
    by_cases h : e = c
    · rw [h, if_pos rfl]
      simp [State.door]
    · rw [if_neg h]
      simp [State.door, PerCar.get_set_other _ _ h]
  have replaced : Settles s (s.withDoor c d) := by
    refine ⟨rfl, rfl, rfl, .of_adu rfl, .inl rfl, fun moves e h => ?_, fun e => ?_⟩
    · rw [door] at h
      split at h
      · subst e
        exact given moves h
      · exact h
    · rw [door]
      split
      · subst e
        exact rail
      · rfl
  exact .ite (fun _ => replaced) fun _ => .after (.handNotice ..) replaced

theorem withDoor (c : Car) (s : State) {d : DoorRecord} (rail : d.railOrder = (s.door c).railOrder)
    (release : d.release = (s.door c).release) : Settles s (s.withDoor c d) := by
  have door (e : Car) : ((s.withDoor c d).door e).railOrder = (s.door e).railOrder ∧ ((s.withDoor c d).door e).release = (s.door e).release := by
    by_cases h : e = c
    · rw [h]
      simpa [State.door] using ⟨rail, release⟩
    · simp [State.door, PerCar.get_set_other _ _ h]
  exact ⟨rfl, rfl, rfl, .of_adu rfl, .inl rfl, fun _ e h => by simpa [DoorRecord.given, (door e).2] using h, fun e => (door e).1⟩

/-- A platform release is ordered at standstill only (R126). -/
theorem askRelease (s : State) (c : Car) : Settles s (askRelease s c) := by
  unfold Machine.askRelease
  split
  · exact .withDoor c s rfl rfl
  · rename_i k p passed
    obtain ⟨-, stands, -⟩ := releaseTest_passed passed
    exact .setDoor c s rfl fun moves => absurd stands (by simp [moves])

theorem askReleases (s : State) : Settles s (askReleases s) := by
  unfold Machine.askReleases
  split
  · exact .foldl (fun s c => .ite (fun _ => .askRelease s c) fun _ => .refl s) _ s
  · exact .refl s

theorem of_adu (msu : t.msu = s.msu) (ssv : t.ssv = s.ssv) (bks : t.bks = s.bks) (adu : Thins s t) (dou : t.dou = s.dou)
    (rco : t.rco = s.rco) : Settles s t where
  msu := msu
  ssv := ssv
  esc := by rw [bks]
  thins := adu
  auth := .inl (by rw [rco])
  given _ c h := by
    rw [State.door, dou] at h
    exact h
  rails c := by rw [State.door, dou, State.door]

theorem releaseLost (c : Car) (s : State) : Settles s (releaseLost c s) :=
  .of_adu (Calm.releaseLost c s).msu (by simp) (by simp) (.releaseLost c s) (by simp) (by simp)

theorem closeAll (r : CloseReason) (s : State) : Settles s (closeAll r s) :=
  .of_adu (Calm.closeAll r s).msu (by simp) (by simp) (.closeAll r s) (by simp) (by simp)

theorem withdraw (c : Car) (w : WithdrawalCause) (s : State) : Settles s (withdraw c w s) := by
  have taken := Settles.setDoor c s (d := { s.door c with
    token := 0, release := .withdrawing, ackTimer := none, closeTimer := startSec s.line.closeTimeout, overdue := false, lastWithdrawal := w })
    rfl (by simp [DoorRecord.given])
  exact .ite (fun _ => .after (.releaseLost ..) taken) fun _ => taken

theorem withdrawPlatform (w : WithdrawalCause) (s : State) (c : Car) : Settles s (withdrawPlatform w s c) :=
  .ite (fun _ => .withdraw ..) fun _ => .refl s

theorem beginClosing (s : State) : Settles s (beginClosing s) :=
  .after (.foldl (.withdrawPlatform .closing) _ _) (.after (.closeAll ..) (.setRunState ..))

theorem takeTrip (t : Trip) (rest : List Trip) (s : State) : Settles s (takeTrip t rest s) := .after (.beginClosing _) (.withRco s rfl)

theorem takeHead (s : State) : Settles s (takeHead s) := by
  have from_ (q : List Trip) : Settles s (takeFrom q s) := by
    induction q with
    | nil => exact .withRco s rfl
    | cons x rest ih => exact .ite (fun _ => ih) fun _ => .takeTrip ..
  exact .ite (fun _ => from_ _) fun _ => .refl s

theorem enterStandby (c : ModeCause) (s : State) : Settles s (enterStandby c s) :=
  .after (.foldl (.withdrawPlatform .standby) _ _) (.after (.closeAll ..) (.after (.withRco _ rfl) (.changeMode ..)))

theorem settleAuthority (b : Bool) (s : State) : Settles s (settleAuthority b s) :=
  .after (.withRco _ rfl) (.ite (fun _ => .clearAuthority s) fun _ => .refl s)

theorem settleWindow (s : State) : Settles s (settleWindow s) := by
  unfold Machine.settleWindow
  split <;> exact .after (.setRunState ..) (.withRco s rfl)

theorem settleTrip (s : State) : Settles s (settleTrip s) := by
  unfold Machine.settleTrip
  cases s.rco.tripInHand with
  | none => exact .withRco s rfl
  | some x => exact .after (.withRco _ rfl) (.ite (fun _ => .withRco s rfl) fun _ => .returnTrip s)

theorem settleRecovery (b : Bool) (s : State) : Settles s (settleRecovery b s) := .ite (fun _ => .changeMode ..) fun _ => .refl s

theorem settleEffects (s : State) : Settles s (settleEffects s) :=
  .ite (fun _ => .after (.askReleases _) (.startDwell s)) fun _ => .ite (fun _ => .takeHead s) fun _ => .refl s

theorem settle (b : Bool) (s : State) : Settles s (settle b s) :=
  .after (.settleEffects _) (.after (.settleRecovery ..) (.after (.settleTrip _) (.after (.settleWindow _) (.settleAuthority b s))))

/-! ### The sequences -/

theorem assertSb (s : State) : Settles s (assertSb s) := .ite (fun _ => .refl s) fun _ => .withBks _ rfl
theorem setStepTimer (t : Option RunningStep) (s : State) : Settles s (setStepTimer t s) := .withBks _ rfl
theorem startStep (w : StepTimer) (n : Nat) (s : State) : Settles s (startStep w n s) := .withBks _ rfl
theorem setSlot (x : Slot) (s : State) : Settles s (setSlot x s) := .withBks _ rfl
theorem dropEbHold (s : State) : Settles s (dropEbHold s) := .withBks _ rfl

theorem completeStop (s : State) : Settles s (completeStop s) := .after (.settle ..) (.withBks _ rfl)

theorem awaitDrop (s : State) : Settles s (awaitDrop s) := .ite (fun _ => .startStep ..) fun _ => .completeStop s

theorem deenergizeEb (s : State) : Settles s (deenergizeEb s) :=
  .ite (fun _ => .ite (fun _ => .after (.awaitDrop _) (.after (.setStepTimer ..) (.dropEbHold s))) fun _ => .dropEbHold s) fun _ => .dropEbHold s

theorem startS2 (s : State) : Settles s (startS2 s) := by
  have begun : Settles s (Machine.setStepTimer none (Machine.setSlot (.stop .s2) s)) := .after (.setStepTimer ..) (.setSlot ..)
  exact .ite (fun _ => .ite (fun _ => .after (.deenergizeEb _) begun) fun _ => .after (.startStep ..) begun) fun _ =>
    .after (.awaitDrop _) begun

theorem startStop (s : State) : Settles s (startStop s) := by
  have begun := Settles.after (.assertSb _) (.withBks s (b := { s.bks with slot := .stop .s1, faults := [], stepTimer := none }) rfl)
  exact .ite (fun _ => .after (.startS2 _) begun) fun _ => .after (.startStep ..) begun

theorem beginStop (s : State) : Settles s (beginStop s) := .after (.startStop _) (.after (.withRco _ rfl) (.setRunState .stopping s))

theorem countAbort (s : State) : Settles s (countAbort s) :=
  .ite (fun _ => .after (.setAttention ..) (.after (.enterStandby ..) (.withRco s rfl))) fun _ => .withRco s rfl

theorem abortCounted (s : State) : Settles s s.abortCounted :=
  .after (.countAbort _) (.after (.withRco _ rfl) (.after (.returnTrip _) (.after (.withRco _ rfl) (.clearAuthority s))))

theorem abortAtRco (s : State) : Settles s (abortAtRco s) := by
  rw [abortAtRco_eq]
  exact .ite (fun _ => .after (.settle ..) (.abortCounted s)) fun _ => .after (.setRunState ..) (.abortCounted s)

theorem abortDeparture (c : AbortCause) (s : State) : Settles s (abortDeparture c s) := by
  unfold Machine.abortDeparture
  split
  · exact .after (.abortAtRco _) (.after (.setAttention ..) (.after (.withBks _ rfl) (.after (.dropEbHold _) (.after (.assertSb _) (.setStepTimer ..)))))
  · exact .refl s

theorem arrest (s : State) : Settles s (arrest s) := by
  unfold Machine.arrest
  split
  · exact .ite (fun _ => .beginStop s) fun _ => .after (.withRco _ rfl) (.setRunState ..)
  · exact .ite (fun _ => .refl s) fun _ => .setRunState ..
  · exact .ite (fun _ => .refl s) fun _ => .setRunState ..
  · exact .ite (fun _ => .refl s) fun _ => .after (.returnTrip _) (.setRunState ..)
  all_goals exact .refl s

theorem reachService (c : AbortCause) (s : State) : Settles s (reachService c s) :=
  .after (.setAttention ..) (.after (.abortDeparture ..) (.after (.closeAll ..) (.after (.arrest _) (.after (.withdrawAuthority _) (.assertSb s)))))

end

end Settles

/-! ### Taking a cause -/

/-- No session opens, no authority is granted, no release is given while the line moves, the rail brakes stay applied where they are, the
demand record forgets no cause, and the measurement and the supervision stay. -/
structure Yields (s t : State) : Prop where
  msu : t.msu = s.msu
  ssv : t.ssv = s.ssv
  thins : Thins s t
  auth : Subsides s.rco.authority.state t.rco.authority.state
  given : s.msu.standstill = false → ∀ c, (t.door c).given = true → (s.door c).given = true
  applied : ∀ c, (s.door c).railOrder = .apply → (t.door c).railOrder = .apply
  causes : ∀ e ∈ s.bks.demand.causes, ∃ f ∈ t.bks.demand.causes, f.cause = e.cause ∧ e.level.rank ≤ f.level.rank

theorem Settles.yields {s t : State} (h : Settles s t) (demand : t.bks.demand = s.bks.demand) : Yields s t where
  msu := h.msu
  ssv := h.ssv
  thins := h.thins
  auth := h.auth
  given := h.given
  applied c old := (h.rails c).trans old
  causes e mem := ⟨e, demand ▸ mem, rfl, Nat.le_refl _⟩

theorem Yields.opens {s t : State} (h : Yields s t) (p : Fin 8) (open_ : (t.session p).isOpen = true) : (s.session p).isOpen = true :=
  h.thins.opens p open_

namespace Yields

theorem refl (s : State) : Yields s s := (Settles.refl s).yields rfl

theorem trans {s t u : State} (a : Yields s t) (b : Yields t u) : Yields s u where
  msu := b.msu.trans a.msu
  ssv := b.ssv.trans a.ssv
  thins := a.thins.trans b.thins
  auth := a.auth.trans b.auth
  given moves c h := a.given moves c (b.given (a.msu ▸ moves) c h)
  applied c h := b.applied c (a.applied c h)
  causes e mem := by
    obtain ⟨f, mem, same, rank⟩ := a.causes e mem
    obtain ⟨g, mem, same', rank'⟩ := b.causes f mem
    exact ⟨g, mem, same'.trans same, Nat.le_trans rank rank'⟩

theorem after {s t u : State} (b : Yields t u) (a : Yields s t) : Yields s u := a.trans b

theorem ite {s a b : State} {c : Prop} [Decidable c] (ha : c → Yields s a) (hb : ¬c → Yields s b) : Yields s (if c then a else b) := by
  split
  · exact ha ‹_›
  · exact hb ‹_›

/-- Only the Brake Sequencer changes, and its demand record stays. -/
theorem withBks (s : State) {b : Bks} (demand : b.demand = s.bks.demand) : Yields s (s.withBks b) where
  msu := rfl
  ssv := rfl
  thins := .of_adu rfl
  auth := .inl rfl
  given _ _ := id
  applied _ := id
  causes e mem := ⟨e, demand ▸ mem, rfl, Nat.le_refl _⟩

theorem setAttention (s : State) (i : Attention) : Yields s (s.setAttention i) := (Settles.setAttention s i).yields rfl

theorem handNotice (s : State) (n : Notice) : Yields s (handNotice s n) := (Settles.handNotice s n).yields (by simp)

end Yields

/-- Each entry of a cause set stands in the set after a cause is handed, at its level or above (R99). -/
theorem addCause_keeps (c : Cause) (l : Level) {causes : List CauseEntry} {e : CauseEntry} (h : e ∈ causes) :
    ∃ f ∈ addCause c l causes, f.cause = e.cause ∧ e.level.rank ≤ f.level.rank := by
  induction causes with
  | nil => cases h
  | cons x rest ih =>
    unfold addCause
    split
    · rename_i same
      rcases List.mem_cons.mp h with rfl | h
      · exact ⟨_, List.mem_cons_self, rfl, by rw [Level.rank_max]; exact Nat.le_max_left ..⟩
      · exact ⟨e, List.mem_cons_of_mem _ h, rfl, Nat.le_refl _⟩
    · rcases List.mem_cons.mp h with rfl | h
      · exact ⟨e, List.mem_cons_self, rfl, Nat.le_refl _⟩
      · obtain ⟨f, mem, same, rank⟩ := ih h
        exact ⟨f, List.mem_cons_of_mem _ mem, same, rank⟩

theorem setDemand_add_yields (c : Cause) (l : Level) (s : State) : Yields s (setDemand (s.bks.demand.add c l) s) := by
  have replaced : Yields s (s.withDemand (s.bks.demand.add c l)) :=
    ⟨rfl, rfl, .of_adu rfl, .inl rfl, fun _ _ => id, fun _ => id, fun e mem => addCause_keeps c l mem⟩
  exact .ite (fun _ => replaced) fun _ => .after (.handNotice ..) replaced

theorem setRailOrder_door (o : RailOrder) (s : State) (c : Car) : (setRailOrder o s).door c = { s.door c with railOrder := o } := by
  have both : setRailOrder o s = setDoor .b { (setDoor .a { s.door .a with railOrder := o } s).door .b with railOrder := o }
    (setDoor .a { s.door .a with railOrder := o } s) := rfl
  rw [both]
  cases c <;> simp [State.door, setDoor_dou, PerCar.set, PerCar.get]

theorem setRailOrder_yields (s : State) : Yields s (setRailOrder .apply s) where
  msu := (Calm.setRailOrder .apply s).msu
  ssv := by simp
  thins := .of_adu (by simp [setRailOrder, allCars])
  auth := .inl (by rw [setRailOrder_rco])
  given _ c h := by
    rw [setRailOrder_door] at h
    exact h
  applied c _ := by rw [setRailOrder_door]
  causes e mem := ⟨e, by rw [setRailOrder_bks]; exact mem, rfl, Nat.le_refl _⟩

theorem escalateTo_eq (l : Level) (s : State) : ∃ esc, escalateTo l s = s.withBks { s.bks with esc := esc } := by
  unfold escalateTo
  split
  · exact ⟨_, rfl⟩
  split
  · exact ⟨s.bks.esc, rfl⟩
  · unfold startCheckFor
    split
    · exact ⟨_, rfl⟩
    · exact ⟨_, rfl⟩
    · exact ⟨s.bks.esc, rfl⟩

theorem escalateTo_yields (l : Level) (s : State) : Yields s (escalateTo l s) := by
  obtain ⟨esc, same⟩ := escalateTo_eq l s
  rw [same]
  exact .withBks s rfl

theorem atService_settles (before : Level) (c : AbortCause) (s : State) : Settles s (s.atService before c) :=
  .ite (fun _ => .reachService c s) fun _ => .refl s

theorem atEmergency_settles (before : Level) (c : AbortCause) (s : State) : Settles s (s.atEmergency before c) :=
  .ite (fun _ => .after (.deenergizeEb _) (atService_settles ..)) fun _ => atService_settles ..

theorem atEmergency_lowers (before : Level) (c : AbortCause) (s : State) : Lowers s (s.atEmergency before c) := by
  have service : Lowers s (s.atService before c) := .ite (fun _ => .reachService c s) fun _ => .refl s
  exact .ite (fun _ => .after (.deenergizeEb _) service) fun _ => service

theorem atRail_yields (before : Level) (c : AbortCause) (s : State) : Yields s (s.atRail before c) := by
  have emergency := (atEmergency_settles before c s).yields (atEmergency_lowers before c s).demand
  exact .ite (fun _ => .after (setRailOrder_yields _) emergency) fun _ => emergency

theorem latchRise_yields (before : Level) (c : AbortCause) (s : State) : Yields s (latchRise before c s) := by
  rw [latchRise_eq]
  exact .ite (fun _ => .refl s) fun _ => .after (escalateTo_yields ..) (atRail_yields ..)

theorem raiseAs_yields (a : AbortCause) (c : Cause) (l : Level) (s : State) : Yields s (raiseAs a c l s) :=
  .after (latchRise_yields ..) (setDemand_add_yields ..)

/-- A cause handed stands in the set at its level or above (R99). -/
theorem raiseAs_entry (a : AbortCause) (c : Cause) (l : Level) (s : State) :
    ∃ e ∈ (raiseAs a c l s).bks.demand.causes, e.cause = c ∧ l.rank ≤ e.level.rank := by
  rw [raiseAs_demand]
  exact addCause_holds_level ..

theorem raiseAs_latched (a : AbortCause) (c : Cause) (l : Level) (s : State) : l.rank ≤ (raiseAs a c l s).bks.demand.latched.rank := by
  rw [raiseAs_demand]
  exact rank_le_highest_addCause ..

theorem holdsCause_of_entry {causes : List CauseEntry} {c : Cause} {n : Nat} (h : ∃ e ∈ causes, e.cause = c ∧ n ≤ e.level.rank) :
    holdsCause causes c = true := by
  obtain ⟨e, mem, same, -⟩ := h
  exact List.any_eq_true.mpr ⟨e, mem, beq_iff_eq.mpr same⟩

theorem latched_ne_none {l : Level} (h : 2 ≤ l.rank) : l ≠ .none := by
  rintro rfl
  exact absurd h (by decide)

/-- A cause handed to a restrained Brake Sequencer: what its level restrains (R100). -/
theorem raiseAs_service {a : AbortCause} {c : Cause} {l : Level} {s : State} (hl : l.brakes = true) (law : s.brakesLawful = true) :
    (raiseAs a c l s).bks.sbDmd = true ∧ (raiseAs a c l s).bks.slot.isDeparture = false := by
  have high := (raiseAs_restrained a c hl ((brakesLawful_iff s).mp law).held)
  have brakes : (raiseAs a c l s).bks.demand.latched.brakes = true := by
    rw [raiseAs_demand]
    exact Demand.add_brakes _ c hl
  refine ⟨high.demanded brakes, ?_⟩
  cases slot : (raiseAs a c l s).bks.slot.isDeparture with
  | false => rfl
  | true =>
    have := high.departure slot
    rw [brakes] at this
    cases this

theorem raiseAs_emergency {a : AbortCause} {c : Cause} {l : Level} {s : State} (hl : 3 ≤ l.rank) (law : s.brakesLawful = true) :
    (raiseAs a c l s).bks.ebHold = false := by
  have high := (raiseAs_restrained a c ((Level.brakes_iff l).mpr (by omega)) ((brakesLawful_iff s).mp law).held)
  have latched := raiseAs_latched a c l s
  cases hold : (raiseAs a c l s).bks.ebHold with
  | false => rfl
  | true => exact absurd (high.hold hold) (by omega)

/-- The latched level reaches SERVICE: the attention item, the sessions, the authority (R59, R100, R146). -/
theorem reachService_effects (c : AbortCause) (s : State) :
    (reachService c s).attention .brakeLatched = true ∧ (∀ p, ((reachService c s).session p).isOpen = false) ∧
      (reachService c s).rco.authority.state ≠ .granted := by
  have closed := closeAll_closed .latch (arrest (withdrawAuthority (assertSb s)))
  have toEnd : Settles (closeAll .latch (arrest (withdrawAuthority (assertSb s)))) (reachService c s) :=
    .after (.setAttention ..) (.abortDeparture ..)
  have withdrawn : (withdrawAuthority (assertSb s)).rco.authority.state ≠ .granted := by
    unfold withdrawAuthority
    split
    · simp
    · assumption
  refine ⟨?_, fun p => ?_, fun granted => ?_⟩
  · exact State.attention_setAttention_same ..
  · exact Bool.eq_false_iff.mpr fun open_ => by simpa [closed p] using toEnd.opens p open_
  · exact withdrawn ((Settles.arrest _).auth.granted ((Settles.closeAll ..).auth.granted (toEnd.auth.granted granted)))

/-- A cause that is the first to latch SERVICE or more: its effects last to the end of the raise (R100). -/
theorem raiseAs_latches {a : AbortCause} {c : Cause} {l : Level} {s : State} (hl : 2 ≤ l.rank) (free : s.bks.demand.latched = .none) :
    (raiseAs a c l s).attention .brakeLatched = true ∧ (∀ p, ((raiseAs a c l s).session p).isOpen = false) ∧
      (raiseAs a c l s).bks.demand.first = some c ∧ (raiseAs a c l s).rco.authority.state ≠ .granted := by
  have high : 2 ≤ (s.bks.demand.add c l).latched.rank := Nat.le_trans hl (rank_le_highest_addCause ..)
  have latched : (setDemand (s.bks.demand.add c l) s).bks.demand.latched = (s.bks.demand.add c l).latched := by rw [setDemand_demand]
  have reached : raiseAs a c l s = escalateTo (s.bks.demand.add c l).latched ((setDemand (s.bks.demand.add c l) s).atRail .none a) := by
    unfold raiseAs
    rw [latchRise_eq, free, latched, if_neg (by change ¬ _ ≤ 0; omega)]
  obtain ⟨attention, closed, withdrawn⟩ := reachService_effects a (setDemand (s.bks.demand.add c l) s)
  have service : (setDemand (s.bks.demand.add c l) s).atService .none a = reachService a (setDemand (s.bks.demand.add c l) s) :=
    if_pos ⟨by decide, latched ▸ high⟩
  have toRail : Yields (reachService a (setDemand (s.bks.demand.add c l) s)) ((setDemand (s.bks.demand.add c l) s).atRail .none a) ∧
      Calm (reachService a (setDemand (s.bks.demand.add c l) s)) ((setDemand (s.bks.demand.add c l) s).atRail .none a) := by
    rw [← service]
    have emergency : Yields ((setDemand (s.bks.demand.add c l) s).atService .none a) ((setDemand (s.bks.demand.add c l) s).atEmergency .none a) :=
      .ite (fun _ => (Settles.deenergizeEb _).yields (Lowers.deenergizeEb _).demand) fun _ => .refl _
    have calm : Calm ((setDemand (s.bks.demand.add c l) s).atService .none a) ((setDemand (s.bks.demand.add c l) s).atEmergency .none a) :=
      .ite (fun _ => .deenergizeEb _) fun _ => .refl _
    exact ⟨.ite (fun _ => .after (setRailOrder_yields _) emergency) fun _ => emergency,
      .ite (fun _ => .after (.setRailOrder ..) calm) fun _ => calm⟩
  have yields := toRail.1.trans (escalateTo_yields (s.bks.demand.add c l).latched _)
  have calm := toRail.2.trans (.escalateTo (s.bks.demand.add c l).latched _)
  rw [← reached] at yields calm
  refine ⟨calm.attention _ attention, fun p => ?_, ?_, fun granted => withdrawn (yields.auth.granted granted)⟩
  · exact Bool.eq_false_iff.mpr fun open_ => by simpa [closed p] using yields.opens p open_
  · rw [raiseAs_demand]
    exact if_pos ⟨free, (Level.brakes_iff _).mpr high⟩

/-- The state as the demand record takes a cause, before the effects of a rise (R99). -/
def State.handed (c : Cause) (l : Level) (s : State) : State := setDemand (s.bks.demand.add c l) s

theorem handed_bks (c : Cause) (l : Level) (s : State) : (s.handed c l).bks = { s.bks with demand := s.bks.demand.add c l } := setDemand_bks ..

theorem raiseAs_eq (a : AbortCause) (c : Cause) (l : Level) (s : State) :
    raiseAs a c l s =
      if (s.bks.demand.add c l).latched.rank ≤ s.bks.demand.latched.rank then s.handed c l
      else escalateTo (s.bks.demand.add c l).latched ((s.handed c l).atRail s.bks.demand.latched a) := by
  have latched : (s.handed c l).bks.demand.latched = (s.bks.demand.add c l).latched := by rw [handed_bks]
  rw [← latched]
  exact latchRise_eq ..

theorem handed_settles (c : Cause) (l : Level) (s : State) : Settles s (s.handed c l) := by
  have replaced : Settles s (s.withDemand (s.bks.demand.add c l)) := .withBks s rfl
  exact .ite (fun _ => replaced) fun _ => .after (.handNotice ..) replaced

/-- A departure aborted: the record, both brakes on, and no authority (R73, R118). -/
theorem abortDeparture_effects {c : AbortCause} {s : State} {step : DepStep} (slot : s.bks.slot = .departure step) :
    (abortDeparture c s).bks.lastDeparture = .aborted c step ∧ (abortDeparture c s).bks.slot = .idle ∧
      (abortDeparture c s).attention .departureAborted = true ∧ (abortDeparture c s).rco.authority.state = .none := by
  refine ⟨by rw [abortDeparture_bks, slot], by rw [abortDeparture_bks, slot], ?_, ?_⟩
  · unfold abortDeparture
    rw [slot]
    exact (Calm.abortAtRco _).attention _ (State.attention_setAttention_same ..)
  · unfold abortDeparture
    rw [slot]
    dsimp only
    rw [abortAtRco_eq]
    have counted (u : State) : u.abortCounted.rco.authority.state = .none := abortCounted_auth u
    split
    · exact (Settles.settle false _).auth.none (counted _)
    · exact (Settles.setRunState ..).auth.none (counted _)

/-- With no stop sequence under way EB-HOLD is de-energized and nothing more (R104). -/
theorem deenergizeEb_of_idle {s : State} (slot : s.bks.slot = .idle) : deenergizeEb s = dropEbHold s := by
  unfold deenergizeEb
  split
  · exact if_neg (by simp [slot])
  · rfl

/-- A departure aborted as `c` at `step`: its record, the slot, the attention item and the authority (R73, R118). -/
structure Aborted (c : AbortCause) (step : DepStep) (s : State) : Prop where
  last : s.bks.lastDeparture = .aborted c step
  slot : s.bks.slot = .idle
  attention : s.attention .departureAborted = true
  auth : s.rco.authority.state = .none

theorem Aborted.setAttention {c : AbortCause} {step : DepStep} {s : State} (h : Aborted c step s) (i : Attention) :
    Aborted c step (s.setAttention i) := ⟨h.last, h.slot, State.attention_setAttention _ _ _ h.attention, h.auth⟩

theorem Aborted.calm {c : AbortCause} {step : DepStep} {s t : State} (h : Aborted c step s) (calm : Calm s t)
    (last : t.bks.lastDeparture = s.bks.lastDeparture) (slot : t.bks.slot = s.bks.slot) (rco : t.rco = s.rco) : Aborted c step t :=
  ⟨last.trans h.last, slot.trans h.slot, calm.attention _ h.attention, (congrArg (fun r => r.authority.state) rco).trans h.auth⟩

theorem abortDeparture_aborted {c : AbortCause} {s : State} {step : DepStep} (slot : s.bks.slot = .departure step) :
    Aborted c step (abortDeparture c s) :=
  have ⟨last, idle, attention, auth⟩ := abortDeparture_effects slot
  ⟨last, idle, attention, auth⟩

theorem reachService_aborted {a : AbortCause} {s : State} {step : DepStep} (slot : s.bks.slot = .departure step)
    (run : s.rco.runState = .departing) : Aborted a step (reachService a s) := by
  have still : arrest (withdrawAuthority (assertSb s)) = withdrawAuthority (assertSb s) := by
    unfold arrest
    simp [run]
  unfold reachService
  dsimp only
  rw [still]
  exact (abortDeparture_aborted (by simp [assertSb_bks, slot])).setAttention _

theorem Aborted.deenergizeEb {c : AbortCause} {step : DepStep} {s : State} (h : Aborted c step s) : Aborted c step (deenergizeEb s) := by
  rw [deenergizeEb_of_idle h.slot]
  exact h.calm (.dropEbHold s) rfl rfl rfl

theorem Aborted.setRailOrder {c : AbortCause} {step : DepStep} {s : State} (h : Aborted c step s) (o : RailOrder) :
    Aborted c step (setRailOrder o s) := h.calm (.setRailOrder o s) (by rw [setRailOrder_bks]) (by rw [setRailOrder_bks]) (by simp)

theorem Aborted.escalateTo {c : AbortCause} {step : DepStep} {s : State} (h : Aborted c step s) (l : Level) :
    Aborted c step (escalateTo l s) := by
  obtain ⟨esc, same⟩ := escalateTo_eq l s
  exact h.calm (.escalateTo l s) (by rw [same]; rfl) (by rw [same]; rfl) (by rw [same]; rfl)

/-- A latch that aborts a departure: its record stays to the end of the raise (R100, R117). -/
theorem raiseAs_aborts {a : AbortCause} {c : Cause} {l : Level} {s : State} {step : DepStep} (hl : 2 ≤ l.rank)
    (slot : s.bks.slot = .departure step) (run : s.rco.runState = .departing) (free : s.bks.demand.latched.rank < 2) :
    Aborted a step (raiseAs a c l s) := by
  have high : 2 ≤ (s.bks.demand.add c l).latched.rank := Nat.le_trans hl (rank_le_highest_addCause ..)
  have latched : (s.handed c l).bks.demand.latched = (s.bks.demand.add c l).latched := by rw [handed_bks]
  have service : Aborted a step ((s.handed c l).atService s.bks.demand.latched a) := by
    unfold State.atService
    rw [if_pos ⟨free, latched ▸ high⟩]
    exact reachService_aborted (by rw [handed_bks, slot]) ((congrArg Rco.runState (setDemand_rco ..)).trans run)
  have emergency : Aborted a step ((s.handed c l).atEmergency s.bks.demand.latched a) := by
    unfold State.atEmergency
    split
    · exact service.deenergizeEb
    · exact service
  rw [raiseAs_eq, if_neg (by omega)]
  refine Aborted.escalateTo ?_ _
  unfold State.atRail
  split
  · exact emergency.setRailOrder _
  · exact emergency

/-- A rise to RAIL applies the rail brakes of both cars (R100, R136). -/
theorem raiseAs_rails {a : AbortCause} {c : Cause} {l : Level} {s : State} (hl : 4 ≤ l.rank) (below : s.bks.demand.latched.rank < 4) (e : Car) :
    ((raiseAs a c l s).door e).railOrder = .apply := by
  have high : 4 ≤ (s.bks.demand.add c l).latched.rank := Nat.le_trans hl (rank_le_highest_addCause ..)
  have latched : (s.handed c l).bks.demand.latched = (s.bks.demand.add c l).latched := by rw [handed_bks]
  have rail : ((s.handed c l).atRail s.bks.demand.latched a).door e = { ((s.handed c l).atEmergency s.bks.demand.latched a).door e with
      railOrder := .apply } := by
    unfold State.atRail
    rw [if_pos ⟨below, latched ▸ high⟩]
    exact setRailOrder_door ..
  rw [raiseAs_eq, if_neg (by omega)]
  obtain ⟨esc, same⟩ := escalateTo_eq (s.bks.demand.add c l).latched ((s.handed c l).atRail s.bks.demand.latched a)
  rw [same]
  exact congrArg DoorRecord.railOrder rail

/-! ### The escalation at a raise (R107) -/

theorem atRail_esc (before : Level) (a : AbortCause) (s : State) : (s.atRail before a).bks.esc = s.bks.esc := by
  have emergency := (atEmergency_settles before a s).esc
  unfold State.atRail
  split
  · rw [setRailOrder_bks, emergency]
  · exact emergency

theorem escalateTo_last (l : Level) (s : State) : (escalateTo l s).bks.esc.last = s.bks.esc.last := by
  unfold escalateTo
  split
  · rfl
  split
  · rfl
  · unfold startCheckFor
    split <;> rfl

theorem raiseAs_last (a : AbortCause) (c : Cause) (l : Level) (s : State) : (raiseAs a c l s).bks.esc.last = s.bks.esc.last := by
  rw [raiseAs_eq]
  split
  · rw [handed_bks]
  · rw [escalateTo_last, atRail_esc, handed_bks]

theorem Level.eq_rail {l : Level} (h : 4 ≤ l.rank) : l = .rail := by
  cases l <;> simp_all [Level.rank]

/-- A rise to RAIL ends the stage; with RAIL latched already none has run (R107). -/
theorem raiseAs_rail_stage {a : AbortCause} {c : Cause} {s : State} (stage : s.bks.esc.stage = .none) :
    (raiseAs a c .rail s).bks.esc.stage = .none := by
  have high : 4 ≤ (s.bks.demand.add c .rail).latched.rank := rank_le_highest_addCause c .rail _
  rw [raiseAs_eq]
  split
  · rw [handed_bks]
    exact stage
  · rw [Level.eq_rail high]
    rfl

theorem highest_rank_le {causes : List CauseEntry} {n : Nat} (h : ∀ e ∈ causes, e.level.rank ≤ n) : (highest causes).rank ≤ n := by
  have bounded (l : Level) (hl : l.rank ≤ n) : (causes.foldl (fun a e => a.max e.level) l).rank ≤ n := by
    induction causes generalizing l with
    | nil => exact hl
    | cons x rest ih =>
      refine ih (fun e mem => h e (List.mem_cons_of_mem _ mem)) _ ?_
      rw [Level.rank_max]
      exact Nat.max_le.mpr ⟨hl, h x List.mem_cons_self⟩
  exact bounded .none (Nat.zero_le n)

theorem addCause_rank_le {c : Cause} {l : Level} {causes : List CauseEntry} (h : ∀ e ∈ causes, e.level.rank ≤ l.rank) :
    ∀ e ∈ addCause c l causes, e.level.rank ≤ l.rank := by
  intro e mem
  rcases mem_addCause mem with old | rfl | ⟨old, oldMem, rfl⟩
  · exact h e old
  · exact Nat.le_refl _
  · rw [Level.rank_max]
    exact Nat.max_le.mpr ⟨h old oldMem, Nat.le_refl _⟩

/-- A rise to EMERGENCY of a line in motion starts the EB check (R107). -/
theorem raiseAs_ebCheck {a : AbortCause} {c : Cause} {s : State} (moves : s.msu.standstill = false)
    (below : s.bks.demand.latched.rank < 3) (causes : ∀ e ∈ s.bks.demand.causes, e.level.rank < 3) :
    (raiseAs a c .emergency s).bks.esc.stage = .ebCheck ∧ (raiseAs a c .emergency s).bks.esc.vEntry = s.msu.vMeas ∧
      (raiseAs a c .emergency s).bks.esc.timer = some s.line.tEb := by
  have least : 3 ≤ (s.bks.demand.add c .emergency).latched.rank := rank_le_highest_addCause c .emergency _
  have most : (s.bks.demand.add c .emergency).latched.rank ≤ 3 :=
    highest_rank_le (addCause_rank_le (l := .emergency) fun e mem => Nat.le_of_lt (causes e mem))
  have level : (s.bks.demand.add c .emergency).latched = .emergency := by
    generalize (s.bks.demand.add c .emergency).latched = l at least most
    cases l <;> simp_all [Level.rank]
  have yields : Yields (s.handed c .emergency) ((s.handed c .emergency).atRail s.bks.demand.latched a) := atRail_yields ..
  have msu : ((s.handed c .emergency).atRail s.bks.demand.latched a).msu = s.msu := yields.msu.trans (handed_settles ..).msu
  have calm : Calm s (raiseAs a c .emergency s) := .raiseAs ..
  have risen : raiseAs a c .emergency s = escalateTo .emergency ((s.handed c .emergency).atRail s.bks.demand.latched a) := by
    rw [raiseAs_eq, if_neg (by omega), level]
  have started : escalateTo .emergency ((s.handed c .emergency).atRail s.bks.demand.latched a) =
      startCheck .ebCheck ((s.handed c .emergency).atRail s.bks.demand.latched a).line.tEb
        ((s.handed c .emergency).atRail s.bks.demand.latched a) := by
    unfold escalateTo
    rw [if_neg (by decide), if_neg (by rw [msu, moves]; decide)]
    rfl
  rw [risen, started] at calm ⊢
  refine ⟨rfl, congrArg Msu.vMeas msu, ?_⟩
  have line : ((s.handed c .emergency).atRail s.bks.demand.latched a).line = s.line := congrArg (fun k => k.tables.line) calm.cfs
  rw [← line]
  rfl

end Sys2Proof.Machine
end

section
/-! The line as the Run Coordinator settles it: the run record, the dwell and the platform releases (R28, R31, R61, R126). -/

namespace Sys2Proof.Machine

/-! ### A platform release asked for (R126) -/

theorem nextToken_eq (t : Fin 16) : nextToken t = if t = 15 then 1 else t + 1 := by
  revert t
  decide

theorem withDoor_door (s : State) (c : Car) (d : DoorRecord) (e : Car) : (s.withDoor c d).door e = if e = c then d else s.door e := by
  by_cases h : e = c
  · rw [h, if_pos rfl]
    simp [State.door]
  · rw [if_neg h]
    simp [State.door, PerCar.get_set_other _ _ h]

theorem orderRelease_door (c : Car) (side : Side) (kind : ReleaseKind) (s : State) (e : Car) :
    (orderRelease c side kind s).door e =
      if e = c then
        { s.door c with
          counter := nextToken (s.door c).counter, token := nextToken (s.door c).counter, side := side, kind := some kind
          release := .ordered, ackTimer := startMs s.line.ackTime, lastRefused := .none }
      else s.door e := by
  by_cases h : e = c
  · rw [h, if_pos rfl]
    simp [State.door, orderRelease_dou]
  · rw [if_neg h]
    simp [State.door, orderRelease_dou, PerCar.get_set_other _ _ h]

/-- The release of a car whose platform lies at the current stop: ordered, or the reason of the refusal (R126). -/
theorem askRelease_door {s : State} {c : Car} {k : Fin 6} (run : s.rco.runState = .atStop) (stop : s.rco.currentStop = some k)
    (platform : ((s.stopEntry k).platform c).isSome = true) (e : Car) :
    (askRelease s c).door e = if e = c then s.doorAfterAsk k c else s.door e := by
  obtain ⟨p, at_⟩ := Option.isSome_iff_exists.mp platform
  have refused (r : RefusedRelease) (test : releaseTest c s = .inl r) (asked : s.doorAfterAsk k c = { s.door c with lastRefused := r }) :
      (askRelease s c).door e = if e = c then s.doorAfterAsk k c else s.door e := by
    unfold askRelease
    rw [test, asked]
    exact withDoor_door ..
  have test : releaseTest c s =
      if !s.msu.standstill then .inl .standstill
      else if s.bks.slot != .idle then .inl .sequence
      else if s.rco.authority.state != .none then .inl .authority
      else if (s.door c).release != .none then .inl .releaseState
      else .inr (k, p) := by
    simp only [releaseTest, run, stop, at_]
  have asked := State.doorAfterAsk.eq_1 s k c
  rw [at_] at asked
  dsimp only at asked
  by_cases stands : s.msu.standstill = true
  · rw [stands, if_neg (by decide)] at test
    rw [stands, if_neg (by decide)] at asked
    by_cases slot : s.bks.slot = .idle
    · rw [if_neg (by simp [slot])] at test
      rw [if_neg (not_not_intro slot)] at asked
      by_cases auth : s.rco.authority.state = .none
      · rw [if_neg (by simp [auth])] at test
        rw [if_neg (not_not_intro auth)] at asked
        by_cases release : (s.door c).release = .none
        · rw [if_neg (by simp [release])] at test
          rw [if_neg (not_not_intro release)] at asked
          unfold askRelease
          rw [test]
          dsimp only
          rw [orderRelease_door, asked, nextToken_eq]
          rfl
        · exact refused .releaseState (test.trans (if_pos (by simp [release]))) (asked.trans (if_pos release))
      · exact refused .authority (test.trans (if_pos (by simp [auth]))) (asked.trans (if_pos auth))
    · exact refused .sequence (test.trans (if_pos (by simp [slot]))) (asked.trans (if_pos slot))
  · have moves : s.msu.standstill = false := by simpa using stands
    exact refused .standstill (test.trans (if_pos (by simp [moves]))) (asked.trans (if_pos moves))

/-- What the RCO is answered depends on the measurement, the slot, the authority, the car's record and the tables alone. -/
theorem doorAfterAsk_congr {s t : State} {k : Fin 6} {c : Car} (stands : t.msu.standstill = s.msu.standstill) (slot : t.bks.slot = s.bks.slot)
    (auth : t.rco.authority.state = s.rco.authority.state) (door : t.door c = s.door c) (cfs : t.cfs = s.cfs) :
    t.doorAfterAsk k c = s.doorAfterAsk k c := by
  unfold State.doorAfterAsk State.stopEntry State.line
  rw [stands, slot, auth, door, cfs]

theorem askRelease_doorAfterAsk {s : State} {k : Fin 6} {x c : Car} (run : s.rco.runState = .atStop) (stop : s.rco.currentStop = some k)
    (platform : ((s.stopEntry k).platform x).isSome = true) (other : c ≠ x) :
    (askRelease s x).doorAfterAsk k c = s.doorAfterAsk k c :=
  have calm := Calm.askRelease s x
  doorAfterAsk_congr (by rw [calm.msu]) (by simp) (by simp) ((askRelease_door run stop platform c).trans (if_neg other)) calm.cfs

/-- At a stop each car is asked for its platform release, if it has one there (R28, R61). -/
theorem askReleases_door {s : State} {k : Fin 6} (run : s.rco.runState = .atStop) (stop : s.rco.currentStop = some k) (c : Car) :
    (askReleases s).door c = s.doorAfterAsk k c := by
  have ask (t : State) (x : Car) (run : t.rco.runState = .atStop) (stop : t.rco.currentStop = some k) (c : Car) :
      (if ((t.stopEntry k).platform x).isSome then askRelease t x else t).door c = if c = x then t.doorAfterAsk k x else t.door c := by
    split
    · exact askRelease_door run stop ‹_› c
    · rename_i none
      split
      · rename_i own
        rw [own, State.doorAfterAsk, Option.not_isSome_iff_eq_none.mp none]
      · rfl
  have asked : askReleases s = allCars.foldl (fun t x => if ((t.stopEntry k).platform x).isSome then askRelease t x else t) s := by
    unfold askReleases
    rw [stop]
  generalize first : (if ((s.stopEntry k).platform .a).isSome then askRelease s .a else s) = u
  have rco : u.rco = s.rco := by
    rw [← first]
    split <;> simp
  have calm : Calm s u := by
    rw [← first]
    exact .ite (fun _ => .askRelease s .a) fun _ => .refl s
  have bks : u.bks = s.bks := by
    rw [← first]
    split <;> simp
  have door (e : Car) : u.door e = if e = .a then s.doorAfterAsk k .a else s.door e := by
    rw [← first]
    exact ask s .a run stop e
  have both : askReleases s = if ((u.stopEntry k).platform .b).isSome then askRelease u .b else u := by
    rw [asked, ← first]
    rfl
  rw [both, ask u .b (by rw [rco]; exact run) (by rw [rco]; exact stop) c]
  cases c with
  | a => exact (if_neg (by decide)).trans ((door .a).trans (if_pos rfl))
  | b =>
    rw [if_pos rfl]
    exact doorAfterAsk_congr (by rw [calm.msu]) (by rw [bks]) (by rw [rco]) ((door .b).trans (if_neg (by decide))) calm.cfs

/-! ### Settling (R61) -/

theorem windowTest_congr {s t : State} (msu : t.msu = s.msu) (cfs : t.cfs = s.cfs) : t.windowTest = s.windowTest := by
  unfold State.windowTest State.insideWindow State.stopEntry
  rw [msu, cfs]

theorem resyncHolds_congr {s t : State} (msu : t.msu = s.msu) (cfs : t.cfs = s.cfs) : t.resyncHolds = s.resyncHolds := by
  unfold State.resyncHolds State.line
  rw [msu, cfs]

theorem settleAuthority_rco (b : Bool) (s : State) :
    (settleAuthority b s).rco = { s.rco with authority := if b then Authority.reset else s.rco.authority, brakesSet := true } := by
  cases b <;> simp [settleAuthority]

theorem settleWindow_rco (s : State) :
    (settleWindow s).rco =
      { s.rco with
        currentStop := s.windowTest, runState := if s.windowTest.isSome then .atStop else .offStop
        dwellTimer := if s.windowTest.isSome then s.rco.dwellTimer else none
        dwellElapsed := s.windowTest.isSome && s.rco.dwellElapsed } := by
  unfold settleWindow
  cases s.windowTest <;> simp

/-- The trip in hand is complete or returned: only the trips and the jog run change. -/
theorem settleTrip_rco (s : State) : ∃ queue dropped last,
    (settleTrip s).rco =
      { s.rco with tripInHand := none, jogRun := false, queue := queue, droppedCount := dropped, lastDropped := last } ∧
    (s.rco.tripInHand = none → queue = s.rco.queue) := by
  unfold settleTrip
  cases hand : s.rco.tripInHand with
  | none =>
    have same : { s.rco with jogRun := false } = { s.rco with tripInHand := none, jogRun := false } := by rw [← hand]
    exact ⟨_, _, _, same, fun _ => rfl⟩
  | some x =>
    dsimp only
    split
    · exact ⟨_, _, _, rfl, fun none => by cases none⟩
    · obtain ⟨queue, dropped, last, same⟩ := s.rco.returned_eq
      exact ⟨queue, dropped, last, by rw [returnTrip_rco, same]; rfl, fun none => by cases none⟩

/-- The line as the RCO settles it where no head is taken (R31, R61, R126). -/
structure Settled (b : Bool) (s t : State) : Prop where
  authority : t.rco.authority = if b then Authority.reset else s.rco.authority
  brakesSet : t.rco.brakesSet = true
  currentStop : t.rco.currentStop = s.windowTest
  runState : t.rco.runState = if s.windowTest.isSome then .atStop else .offStop
  jogRun : t.rco.jogRun = false
  tripInHand : t.rco.tripInHand = none
  queue : s.rco.tripInHand = none → t.rco.queue = s.rco.queue
  abortCount : t.rco.abortCount = s.rco.abortCount
  resynced : b = true → s.windowTest.isSome = true → s.rco.mode = .recovery → s.resyncHolds = true → t.rco.mode = .service ∧
    t.rco.modeChange = { previous := .recovery, new := .service, cause := .resync, cancelled := [] }
  unchanged : ¬(b = true ∧ s.windowTest.isSome = true ∧ s.rco.mode = .recovery ∧ s.resyncHolds = true) →
    t.rco.mode = s.rco.mode ∧ t.rco.modeChange = s.rco.modeChange
  dwell : s.windowTest.isSome = true → s.rco.mode.isPublic = true →
    t.rco.dwellTimer = some (1000 * s.line.dwellMin) ∧ t.rco.dwellElapsed = false
  doors : ∀ k, s.windowTest = some k → s.rco.mode.isPublic = true → ∀ c, t.door c =
    (s.withRco { s.rco with authority := if b then Authority.reset else s.rco.authority }).doorAfterAsk k c
  dou : s.rco.mode.isPublic = false → t.dou = s.dou

/-- The line before the last step of settling. -/
def State.resettled (b : Bool) (s : State) : State := settleRecovery b (settleTrip (settleWindow (settleAuthority b s)))

theorem resettled_calm (b : Bool) (s : State) : Calm s (s.resettled b) :=
  Calm.after (.settleRecovery ..) (Calm.after (.settleTrip _) (Calm.after (.settleWindow _) (.settleAuthority b s)))

theorem resettled_rco (b : Bool) (s : State) : ∃ queue dropped last mode change timer elapsed,
    (s.resettled b).rco =
      { s.rco with
        authority := if b then Authority.reset else s.rco.authority, brakesSet := true, currentStop := s.windowTest
        runState := if s.windowTest.isSome then .atStop else .offStop, tripInHand := none, jogRun := false
        queue := queue, droppedCount := dropped, lastDropped := last, mode := mode, modeChange := change
        dwellTimer := timer, dwellElapsed := elapsed } ∧
    (s.rco.tripInHand = none → queue = s.rco.queue) ∧
    (if b = true ∧ s.windowTest.isSome = true ∧ s.rco.mode = .recovery ∧ s.resyncHolds = true then
      mode = .service ∧ change = { previous := .recovery, new := .service, cause := .resync, cancelled := [] }
    else mode = s.rco.mode ∧ change = s.rco.modeChange) := by
  have window : (settleAuthority b s).windowTest = s.windowTest :=
    windowTest_congr (Calm.settleAuthority b s).msu (Calm.settleAuthority b s).cfs
  have calm : Calm s (settleTrip (settleWindow (settleAuthority b s))) :=
    Calm.after (.settleTrip _) (Calm.after (.settleWindow _) (.settleAuthority b s))
  obtain ⟨queue, dropped, last, trip, kept⟩ := settleTrip_rco (settleWindow (settleAuthority b s))
  rw [settleWindow_rco, window, settleAuthority_rco] at trip kept
  have resync := resyncHolds_congr calm.msu calm.cfs
  unfold State.resettled settleRecovery
  generalize settleTrip (settleWindow (settleAuthority b s)) = u at trip resync
  rw [trip, resync]
  have placed : (if s.windowTest.isSome = true then RunState.atStop else .offStop) = .atStop ↔ s.windowTest.isSome = true := by
    split <;> simp [*]
  simp only [placed]
  split
  · rename_i all
    obtain ⟨-, -, recovery, -⟩ := all
    exact ⟨queue, dropped, last, _, _, _, _, by rw [changeMode_rco, trip], kept, rfl, by rw [recovery]⟩
  · exact ⟨queue, dropped, last, _, _, _, _, trip, kept, rfl, rfl⟩

theorem settle_settled {b : Bool} {s : State} (stays : s.rco.mode ≠ .recovery ∨ s.windowTest.isSome = true) :
    Settled b s (settle b s) := by
  obtain ⟨queue, dropped, last, mode, change, timer, elapsed, rco, kept, modes⟩ := resettled_rco b s
  have calm := resettled_calm b s
  have bks : (s.resettled b).bks = s.bks := by simp [State.resettled]
  have dou : (s.resettled b).dou = s.dou := by simp [State.resettled]
  have isPublic : mode.isPublic = s.rco.mode.isPublic := by
    split at modes
    · rename_i all
      rw [modes.1, all.2.2.1]
      rfl
    · rw [modes.1]
  have public_ : (s.resettled b).rco.mode.isPublic = s.rco.mode.isPublic := by rw [rco]; exact isPublic
  have stop : (s.resettled b).rco.currentStop = s.windowTest := by rw [rco]
  have run : (s.resettled b).rco.runState = if s.windowTest.isSome = true then .atStop else .offStop := by rw [rco]
  have auth : (s.resettled b).rco.authority = if b then Authority.reset else s.rco.authority := by rw [rco]
  have effects : settle b s = settleEffects (s.resettled b) := rfl
  have same : settle b s =
      if s.windowTest.isSome = true ∧ s.rco.mode.isPublic = true then askReleases (startDwell (s.resettled b)) else s.resettled b := by
    rw [effects]
    unfold settleEffects
    rw [run, public_]
    cases window : s.windowTest with
    | some k => simp
    | none =>
      rw [window] at modes stays
      have recovery : (s.resettled b).rco.mode ≠ .recovery := by
        rw [rco]
        rw [if_neg (by simp)] at modes
        rw [modes.1]
        exact stays.resolve_right (by simp)
      simp [recovery]
  have fields {α : Type} (f : Rco → α) (other : ∀ r timer elapsed, f { r with dwellTimer := timer, dwellElapsed := elapsed } = f r) :
      f (settle b s).rco = f (s.resettled b).rco := by
    rw [same]
    split
    · rw [askReleases_rco]
      exact other ..
    · rfl
  refine ⟨?_, ?_, ?_, ?_, ?_, ?_, fun free => ?_, ?_, fun after window recovery resync => ?_, fun other => ?_, fun window shown => ?_,
    fun k window shown c => ?_, fun hidden => ?_⟩
  · exact (fields (·.authority) fun _ _ _ => rfl).trans auth
  · exact (fields (·.brakesSet) fun _ _ _ => rfl).trans (by rw [rco])
  · exact (fields (·.currentStop) fun _ _ _ => rfl).trans stop
  · exact (fields (·.runState) fun _ _ _ => rfl).trans run
  · exact (fields (·.jogRun) fun _ _ _ => rfl).trans (by rw [rco])
  · exact (fields (·.tripInHand) fun _ _ _ => rfl).trans (by rw [rco])
  · exact (fields (·.queue) fun _ _ _ => rfl).trans (by rw [rco]; exact kept free)
  · exact (fields (·.abortCount) fun _ _ _ => rfl).trans (by rw [rco])
  · rw [if_pos ⟨after, window, recovery, resync⟩] at modes
    exact ⟨(fields (·.mode) fun _ _ _ => rfl).trans (by rw [rco]; exact modes.1),
      (fields (·.modeChange) fun _ _ _ => rfl).trans (by rw [rco]; exact modes.2)⟩
  · rw [if_neg other] at modes
    exact ⟨(fields (·.mode) fun _ _ _ => rfl).trans (by rw [rco]; exact modes.1),
      (fields (·.modeChange) fun _ _ _ => rfl).trans (by rw [rco]; exact modes.2)⟩
  · rw [same, if_pos ⟨window, shown⟩, askReleases_rco, startDwell_rco]
    exact ⟨congrArg (fun k => startSec k.tables.line.dwellMin) calm.cfs, rfl⟩
  · have placed : s.windowTest.isSome = true := by rw [window]; rfl
    rw [same, if_pos ⟨placed, shown⟩, askReleases_door (k := k) (by rw [startDwell_rco]; exact run.trans (if_pos placed))
      (by rw [startDwell_rco]; exact stop.trans window)]
    exact doorAfterAsk_congr (congrArg Msu.standstill calm.msu) (congrArg Bks.slot bks) (congrArg Authority.state auth)
      (congrArg (PerCar.get · c) dou) calm.cfs
  · rw [same, if_neg (by simp [hidden]), dou]

end Sys2Proof.Machine
end

section
/-! The events of the brakes: STOP, ESTOP, EBL, the escalation timer and the step timers (R99 to R120). -/

namespace Sys2Proof.Machine

/-! ### Events that end without a departure -/

theorem Rests.rested (t : State) : Rests t t.rested := ⟨rfl, rfl, rfl, rfl, rfl, rfl, rfl, rfl, rfl⟩

/-- An event of an operating part after which nothing departs. -/
theorem next_event {s : State} (f : State → State) (loaded : s.loading = false) (waits : (f s).waits = true) :
    (Host.Outcome.next (whileOperating s fun s => endEvent (f s)) : Host.Outcome State Fault Refusal) = .next (f s).rested := by
  rw [next_operating _ loaded, endEvent_of_waits waits]

/-- An edge of a pin after which nothing departs. -/
theorem next_edge {s : State} (f : State → State) (held : State) (loaded : s.loading = false) (waits : (f s).waits = true) :
    (Host.Outcome.next (if s.loading then held else endEvent (f s)) : Host.Outcome State Fault Refusal) = .next (f s).rested := by
  rw [if_neg (by simp [loaded]), endEvent_of_waits waits]

/-! ### STOP -/

/-- Settles O22: a cause at EMERGENCY, with its effects. -/
theorem stopLatchesEmergency : Obligations.StopLatchesEmergency := by
  intro s taken law
  let begun := s.withAnswering (some .con)
  have lawful : begun.brakesLawful = true := law
  have latched := raiseAs_latched .latch .console .emergency begun
  have calm := Calm.raiseAs .latch .console .emergency begun
  obtain ⟨u, next, rests, reply⟩ := exec_decided (x := .stop) (c := .stop) (t := raise .console .emergency begun) rfl taken rfl
    (waits_of_latched (latched_ne_none (Nat.le_trans (by decide) latched)))
  have service := raiseAs_service (a := .latch) (c := .console) (l := .emergency) (by decide) lawful
  have emergency := raiseAs_emergency (a := .latch) (c := .console) (l := .emergency) (by decide) lawful
  refine ⟨u, next, ?_, ?_, ?_, ?_, ?_, fun free => ?_, rests.cfs.trans calm.cfs, rests.msu.trans calm.msu, ?_, reply⟩
  · rw [rests.bks]
    exact raiseAs_entry ..
  · rw [rests.bks]
    exact latched
  · rw [rests.bks]
    exact service.1
  · rw [rests.bks]
    exact emergency
  · rw [rests.bks]
    exact service.2
  · obtain ⟨attention, closed, first, withdrawn⟩ := raiseAs_latches (a := .latch) (c := .console) (l := .emergency) (s := begun) (by decide) free
    refine ⟨(rests.attention _).trans attention, fun p => (congrArg Session.isOpen (rests.session p)).trans (closed p), ?_, ?_⟩
    · rw [rests.bks]
      exact first
    · rw [rests.authority]
      exact withdrawn
  · rw [rests.adu]
    exact calm.load

/-! ### ESTOP -/

/-- After a raise of a lawful line no departure is left to abort. -/
theorem estopQualify_eq {s : State} (running : s.bks.estop.timer.isSome = true) (law : s.brakesLawful = true) :
    estopQualify s =
      raiseAs .estop .estop .emergency
        ((s.withBks { s.bks with estop := { s.bks.estop with timer := none, qualified := true } }).setAttention .estopActive) := by
  unfold estopQualify
  rw [if_pos running]
  dsimp only
  generalize active : (s.withBks { s.bks with estop := { s.bks.estop with timer := none, qualified := true } }).setAttention .estopActive = u
  have lawful : u.brakesLawful = true := by
    rw [← active]
    exact law
  have free := (raiseAs_service (a := .estop) (c := .estop) (l := .emergency) (s := u) (by decide) lawful).2
  unfold abortDeparture
  split
  · rename_i slot
    rw [slot] at free
    cases free
  · rfl

/-- In a lawful line with a departure under way nothing is latched and the run state is DEPARTING (R113, R117). -/
theorem departing_of_law {s : State} {step : DepStep} (law : s.brakesLawful = true) (slot : s.bks.slot = .departure step) :
    s.rco.runState = .departing ∧ s.bks.demand.latched.rank < 2 := by
  obtain ⟨seq, held⟩ := (brakesLawful_iff s).mp law
  have departs : s.bks.slot.isDeparture = true := by rw [slot]; rfl
  refine ⟨seq.departure.mp departs, ?_⟩
  have free := held.departure departs
  exact Nat.lt_of_not_le fun high => by simp [(Level.brakes_iff _).mpr high] at free

/-- Settles O24: the loop's edges leave the readiness test as it stands or as the edge makes it; a qualified opening is a cause. -/
theorem estopLoopQualifies : Obligations.EstopLoopQualifies := by
  refine ⟨fun s loaded => ⟨fun waits => ?_, fun waits => ?_⟩, fun s loaded running law => ?_⟩
  · exact next_edge estopFall (setEstopPin true s) loaded waits
  · exact next_edge estopRise (setEstopPin false s) loaded waits
  · let active := (s.withBks { s.bks with estop := { s.bks.estop with timer := none, qualified := true } }).setAttention .estopActive
    have lawful : active.brakesLawful = true := law
    have latched := raiseAs_latched .estop .estop .emergency active
    have calm := Calm.raiseAs .estop .estop .emergency active
    have qualified := estopQualify_eq running law
    have done : exec .estopQualifyExpiry s = .next (raiseAs .estop .estop .emergency active).rested := by
      refine (next_event estopQualify loaded ?_).trans (congrArg (fun t => Host.Outcome.next (State.rested t)) qualified)
      rw [qualified]
      exact waits_of_latched (latched_ne_none (Nat.le_trans (by decide) latched))
    have service := raiseAs_service (a := .estop) (c := .estop) (l := .emergency) (s := active) (by decide) lawful
    have emergency := raiseAs_emergency (a := .estop) (c := .estop) (l := .emergency) (s := active) (by decide) lawful
    refine ⟨_, done, calm.estop, calm.attention _ (State.attention_setAttention_same ..), raiseAs_entry .., latched, service.1, emergency,
      fun step slot => ?_, calm.cfs, calm.msu, calm.load⟩
    obtain ⟨run, free⟩ := departing_of_law law slot
    have aborted : Aborted .estop step (raiseAs .estop .estop .emergency active) := raiseAs_aborts (by decide) slot run free
    exact ⟨aborted.last, aborted.attention, aborted.auth⟩

/-! ### EBL -/

/-- A departure that starts with EBL fallen completes no stop sequence (R113, R114). -/
theorem startDeparture_lastStop {k : Fin 6} {dir : Dir} {s : State} (fallen : s.bks.eblRisen = false) :
    (startDeparture k dir s).bks.lastStop = s.bks.lastStop := by
  have started (u : State) (still : u.bks.eblRisen = false) : (testD1 u).bks.lastStop = u.bks.lastStop := by
    unfold testD1 startD2
    split
    · dsimp only
      rw [if_neg (by simp [still])]
      rfl
    · rfl
  unfold startDeparture startD1
  dsimp only
  rw [started _ (by simp [fallen])]
  simp

theorem endEvent_lastStop {s : State} (fallen : s.bks.eblRisen = false) : (endEvent s).bks.lastStop = s.bks.lastStop := by
  have stage (n : Nat) (u : State) (still : u.bks.eblRisen = false) : (readinessStage n u).bks.lastStop = u.bks.lastStop := by
    induction n generalizing u with
    | zero => rfl
    | succ n ih =>
      unfold readinessStage
      split
      · split
        · rename_i t _ _
          have calm := Calm.startDeparture t.target u.rco.tripDir (u.withRco { u.rco with firstFailing := none })
          exact (ih _ (calm.eblRisen.trans still)).trans
            (startDeparture_lastStop (s := u.withRco { u.rco with firstFailing := none }) still)
        · rfl
      · rfl
  exact stage 2 s fallen

/-- A raise energizes nothing (R100). -/
theorem raiseAs_hold {a : AbortCause} {c : Cause} {l : Level} {s : State} (released : s.bks.ebHold = false) :
    (raiseAs a c l s).bks.ebHold = false := by
  refine Bool.eq_false_iff.mpr fun held => ?_
  have before : (s.handed c l).bks.ebHold = true := (Lowers.latchRise ..).hold held
  rw [handed_bks] at before
  simp [released] at before

/-- An EB_FAULT: its cause and its attention item (R106). -/
theorem raiseEbFault_effects (s : State) :
    (raiseEbFault s).attention .ebConfirm = true ∧
      (∃ e ∈ (raiseEbFault s).bks.demand.causes, e.cause = .ebFault ∧ 3 ≤ e.level.rank) ∧ (raiseEbFault s).waits = true :=
  ⟨(Calm.raise ..).attention _ (State.attention_setAttention_same ..), raiseAs_entry .latch .ebFault .emergency _,
    waits_of_latched (latched_ne_none (Nat.le_trans (by decide) (raiseAs_latched .latch .ebFault .emergency _)))⟩

/-- Settles O25, row by row of R106. -/
theorem eblEdgesAct : Obligations.EblEdgesAct := by
  intro s loaded
  let risen := s.withBks { s.bks with eblRisen := true }
  let fallen := s.withBks { s.bks with eblRisen := false }
  refine ⟨fun hold slot timer waits => ?_, fun hold other waits => ?_, fun released => ?_, fun hold proved law => ?_, fun hold unproved waits => ?_,
    fun released slot timer => ?_, fun released other waits => ?_⟩
  · have rises : eblRises s = s.withBks { s.bks with
        eblRisen := true, ebProved := true, stepTimer := some { which := .ebSettle, remaining := 500 } } := by
      unfold eblRises
      dsimp only
      rw [if_neg (by simp [hold]), if_pos ⟨slot, timer⟩]
      rfl
    exact (next_edge eblRises (setEblPin true s) loaded (by rw [rises]; exact waits)).trans (by rw [rises])
  · have rises : eblRises s = risen := by
      unfold eblRises
      dsimp only
      rw [if_neg (by simp [hold]), if_neg other]
    exact (next_edge eblRises (setEblPin true s) loaded (by rw [rises]; exact waits)).trans (by rw [rises])
  · have rises : eblRises s = raiseEbFault risen := by
      unfold eblRises
      dsimp only
      rw [if_pos (by simp [released])]
    obtain ⟨attention, entry, waits⟩ := raiseEbFault_effects risen
    have calm := Calm.raiseEbFault risen
    have done : exec .eblRise s = .next (eblRises s).rested := next_edge eblRises (setEblPin true s) loaded (by rw [rises]; exact waits)
    rw [rises] at done
    exact ⟨_, done, calm.eblRisen, attention, holdsCause_of_entry entry,
      raiseAs_hold (s := risen.setAttention .ebConfirm) released, calm.msu, calm.cfs⟩
  · have falls : eblFalls s = raiseEbFault fallen := by
      unfold eblFalls
      dsimp only
      rw [if_pos hold, if_pos proved]
    have lawful : (fallen.setAttention .ebConfirm).brakesLawful = true := law
    obtain ⟨attention, entry, waits⟩ := raiseEbFault_effects fallen
    have calm := Calm.raiseEbFault fallen
    have done : exec .eblFall s = .next (eblFalls s).rested := next_edge eblFalls (setEblPin false s) loaded (by rw [falls]; exact waits)
    rw [falls] at done
    exact ⟨_, done, calm.eblRisen, attention, holdsCause_of_entry entry, raiseAs_emergency (by decide) lawful, (raiseAs_service (by decide) lawful).1⟩
  · have falls : eblFalls s = fallen := by
      unfold eblFalls
      dsimp only
      rw [if_pos hold, if_neg (by simp [unproved])]
    exact (next_edge eblFalls (setEblPin false s) loaded (by rw [falls]; exact waits)).trans (by rw [falls])
  · have falls : eblFalls s = completeStop fallen := by
      unfold eblFalls
      dsimp only
      rw [if_neg (by simp [released]), if_pos ⟨slot, timer⟩]
    have calm := Calm.after (.endEvent _) (Calm.completeStop fallen)
    have done : exec .eblFall s = .next (endEvent (completeStop fallen)) := by
      rw [← falls]
      exact congrArg Host.Outcome.next (if_neg (by simp [loaded]))
    refine ⟨_, done, calm.eblRisen, ?_, calm.msu, calm.cfs, calm.load⟩
    rw [endEvent_lastStop (Calm.completeStop fallen).eblRisen, completeStop_bks]
    rfl
  · have falls : eblFalls s = fallen := by
      unfold eblFalls
      dsimp only
      rw [if_neg (by simp [released]), if_neg other]
    exact (next_edge eblFalls (setEblPin false s) loaded (by rw [falls]; exact waits)).trans (by rw [falls])

/-! ### The escalation timer -/

/-- The escalation record once a check has been compared (R108). -/
def Escalation.compared (e : Escalation) (failed : Bool) : Escalation :=
  { e with stage := .none, timer := none, last := if failed then .failed e.stage else .passed e.stage }

/-- The state of a failed check, with its attention item (R108). -/
def State.checkFailed (s : State) : State :=
  (s.withBks { s.bks with esc := s.bks.esc.compared true }).setAttention .brakeEscalated

theorem checkFailed_attention (s : State) : s.checkFailed.attention .brakeEscalated = true := State.attention_setAttention_same ..

theorem escalationExpiry_failed {s : State} (running : s.bks.esc.timer.isSome = true) (fast : s.bks.esc.checkSpeed < s.msu.vMeas) :
    escalationExpiry s = raiseAs .latch .decelShort (if s.bks.esc.stage = .ebCheck then .rail else .emergency) s.checkFailed := by
  unfold escalationExpiry State.checkFailed Escalation.compared
  rw [if_pos running]
  simp only [fast, if_true]
  rfl

/-- Settles O26: the comparison decides, and the raise of DECEL_SHORT does the rest. -/
theorem escalationComparesSpeed : Obligations.EscalationComparesSpeed := by
  intro s loaded running
  refine ⟨fun slow waits => ?_, fun fast => ?_⟩
  · have passed : escalationExpiry s = s.withBks { s.bks with
        esc := { s.bks.esc with stage := .none, timer := none, last := .passed s.bks.esc.stage } } := by
      unfold escalationExpiry
      rw [if_pos running]
      simp [Nat.not_lt.mpr slow]
    exact (next_event escalationExpiry loaded (by rw [passed]; exact waits)).trans (by rw [passed])
  · have failed := escalationExpiry_failed running fast
    generalize level : (if s.bks.esc.stage = .ebCheck then Level.rail else .emergency) = l at failed
    have rank : l.rank = if s.bks.esc.stage = .ebCheck then 4 else 3 := by
      rw [← level]
      split <;> rfl
    have latched : l.rank ≤ (raiseAs .latch .decelShort l s.checkFailed).bks.demand.latched.rank := raiseAs_latched ..
    have high : 2 ≤ l.rank := by
      rw [rank]
      split <;> decide
    have calm := Calm.raiseAs .latch .decelShort l s.checkFailed
    have done : exec .escalationTimerExpiry s = .next (escalationExpiry s).rested :=
      next_event escalationExpiry loaded (by rw [failed]; exact waits_of_latched (latched_ne_none (Nat.le_trans high latched)))
    rw [failed] at done
    rw [← rank]
    have rests := Rests.rested (raiseAs .latch .decelShort l s.checkFailed)
    generalize (raiseAs .latch .decelShort l s.checkFailed).rested = u at done rests
    have load : u.adu.load = s.adu.load := by
      rw [rests.adu]
      exact calm.load
    rw [← rests.bks] at latched
    have last : u.bks.esc.last = .failed s.bks.esc.stage := by
      rw [rests.bks]
      exact raiseAs_last ..
    have entry : ∃ e ∈ u.bks.demand.causes, e.cause = .decelShort ∧ l.rank ≤ e.level.rank := by
      rw [rests.bks]
      exact raiseAs_entry ..
    refine ⟨u, done, last, (rests.attention _).trans (calm.attention _ (checkFailed_attention s)), entry, latched,
      fun stage => ?_, fun stage moves below causes => ?_, rests.msu.trans calm.msu, rests.cfs.trans calm.cfs, load⟩
    all_goals rw [rests.bks]
    · rw [if_pos stage] at level
      rw [← level]
      have stopped : s.checkFailed.bks.esc.stage = .none := rfl
      refine ⟨raiseAs_rail_stage stopped, fun below c => ?_⟩
      have applied := raiseAs_rails (a := .latch) (c := .decelShort) (l := .rail) (s := s.checkFailed) (by decide) below c
      rw [rests.door, ← level, applied]
    · rw [if_neg (by simp [stage])] at level
      rw [← level]
      exact raiseAs_ebCheck (s := s.checkFailed) moves below causes

/-! ### The departure steps' timers -/

/-- What the count of a departure abort leaves (R29, R73). -/
theorem abortCounted_rco (s : State) :
    s.abortCounted.rco.authority = Authority.reset ∧ s.abortCounted.rco.brakesSet = true ∧ s.abortCounted.rco.jogRun = false ∧
      s.abortCounted.rco.tripInHand = none ∧
      (s.rco.abortCount < 2 → s.abortCounted.rco.abortCount = s.rco.abortCount + 1 ∧ s.abortCounted.rco.mode = s.rco.mode) ∧
      (2 ≤ s.rco.abortCount → s.abortCounted.rco.abortCount = 0 ∧ s.abortCounted.rco.mode = .standby ∧
        s.abortCounted.rco.modeChange.cause = .abortLimit ∧ s.abortCounted.rco.queue = [] ∧ s.abortCounted.attention .abortLimit = true) := by
  obtain ⟨queue, dropped, last, returned⟩ := Rco.returned_eq { s.rco with authority := Authority.reset, brakesSet := true }
  generalize counting : returnTrip ((clearAuthority s).withRco { (clearAuthority s).rco with brakesSet := true }) = u
  have rco : u.rco = { s.rco with authority := Authority.reset, brakesSet := true, tripInHand := none, queue := queue, droppedCount := dropped, lastDropped := last } := by
    rw [← counting, returnTrip_rco]
    simp only [State.withRco_rco, clearAuthority_rco, returned]
  have counted : s.abortCounted = countAbort (u.withRco { u.rco with jogRun := false }) := by
    rw [← counting]
    rfl
  rw [counted]
  unfold countAbort
  dsimp only [State.withRco_rco]
  rw [rco]
  dsimp only
  split
  · rename_i third
    simp only [State.setAttention_rco, enterStandby_rco, State.withRco_rco]
    refine ⟨trivial, trivial, trivial, trivial, fun below => absurd third (by omega), fun _ => ⟨trivial, trivial, trivial, trivial, ?_⟩⟩
    exact State.attention_setAttention_same ..
  · rename_i below
    exact ⟨rfl, rfl, rfl, rfl, fun _ => ⟨rfl, rfl⟩, fun third => absurd third (by omega)⟩

end Sys2Proof.Machine
end

section
/-! The timers of the departure and of the stop sequence (R73, R113 to R120). -/

namespace Sys2Proof.Machine

/-! ### The departure abort at the Run Coordinator (R73) -/

/-- What a departure abort leaves of the run, outside RECOVERY (R29, R73). -/
structure RunAborted (s t : State) : Prop where
  authority : t.rco.authority.state = .none
  brakesSet : t.rco.brakesSet = true
  jogRun : t.rco.jogRun = false
  tripInHand : t.rco.tripInHand = none
  closing : t.rco.runState ≠ .closing
  arrested : s.msu.standstill = false → t.rco.runState = .arrested
  counted : s.rco.abortCount < 2 → t.rco.abortCount = s.rco.abortCount + 1 ∧ t.rco.mode = s.rco.mode
  third : 2 ≤ s.rco.abortCount → t.rco.abortCount = 0 ∧ t.rco.mode = .standby ∧ t.rco.modeChange.cause = .abortLimit ∧
    t.rco.queue = [] ∧ t.attention .abortLimit = true

theorem abortAtRco_runAborted {s : State} (mode : s.rco.mode ≠ .recovery) : RunAborted s (abortAtRco s) := by
  obtain ⟨authority, brakesSet, jogRun, hand, counted, third⟩ := abortCounted_rco s
  have msu := (Settles.abortCounted s).msu
  have abroad : s.abortCounted.rco.mode ≠ .recovery := by
    rcases Nat.lt_or_ge s.rco.abortCount 2 with below | high
    · rw [(counted below).2]
      exact mode
    · rw [(third high).2.1]
      decide
  rw [abortAtRco_eq, msu]
  split
  · rename_i stands
    have settled : Settled false s.abortCounted (settle false s.abortCounted) := settle_settled (.inl abroad)
    have kept := settled.unchanged (by simp)
    refine ⟨by rw [settled.authority]; exact congrArg Authority.state authority, settled.brakesSet, settled.jogRun, settled.tripInHand, ?_,
      fun moves => absurd stands (by simp [moves]), fun below => ?_, fun high => ?_⟩
    · rw [settled.runState]
      split <;> decide
    · obtain ⟨count, same⟩ := counted below
      exact ⟨settled.abortCount.trans count, kept.1.trans same⟩
    · obtain ⟨count, standby, cause, empty, attention⟩ := third high
      exact ⟨settled.abortCount.trans count, kept.1.trans standby, (congrArg ModeChange.cause kept.2).trans cause,
        (settled.queue hand).trans empty, (Calm.settle ..).attention _ attention⟩
  · have attention (h : s.abortCounted.attention .abortLimit = true) : (setRunState .arrested s.abortCounted).attention .abortLimit = true :=
      (Calm.setRunState ..).attention _ h
    constructor <;> simp only [setRunState_rco]
    · exact congrArg Authority.state authority
    · exact brakesSet
    · exact jogRun
    · exact hand
    · decide
    · exact fun _ => trivial
    · exact counted
    · exact fun high =>
        have ⟨count, standby, cause, empty, set_⟩ := third high
        ⟨count, standby, cause, empty, attention set_⟩

/-- The state of an abort before the RCO takes it (R118). -/
def State.released (cause : AbortCause) (step : DepStep) (s : State) : State :=
  let s1 := dropEbHold (assertSb (setStepTimer none s))
  (s1.withBks { s1.bks with lastDeparture := .aborted cause step, slot := .idle }).setAttention .departureAborted

theorem abortDeparture_eq {c : AbortCause} {s : State} {step : DepStep} (slot : s.bks.slot = .departure step) :
    abortDeparture c s = abortAtRco (s.released c step) := by
  unfold abortDeparture
  rw [slot]
  rfl

theorem released_settles (c : AbortCause) (step : DepStep) (s : State) : Settles s (s.released c step) :=
  .after (.setAttention ..) (.after (.withBks _ rfl) (.after (.dropEbHold _) (.after (.assertSb _) (.setStepTimer ..))))

theorem released_rco (c : AbortCause) (step : DepStep) (s : State) : (s.released c step).rco = s.rco := by simp [State.released]

theorem abortDeparture_runAborted {c : AbortCause} {s : State} {step : DepStep} (slot : s.bks.slot = .departure step)
    (mode : s.rco.mode ≠ .recovery) : RunAborted s (abortDeparture c s) := by
  have msu := (released_settles c step s).msu
  have rco := released_rco c step s
  have aborted := abortAtRco_runAborted (s := s.released c step) (by rwa [rco])
  rw [abortDeparture_eq slot]
  refine ⟨aborted.authority, aborted.brakesSet, aborted.jogRun, aborted.tripInHand, aborted.closing, fun moves => aborted.arrested (by rw [msu, moves]), ?_, ?_⟩
  · rw [← rco]
    exact aborted.counted
  · rw [← rco]
    exact aborted.third

/-- The expiry of a departure step's timer is the abort of that step (R117). -/
theorem exec_stepTimeout {s : State} {c : Instr} {which : StepTimer} {step : DepStep}
    (row : (c, which, step) = (.railConfirmExpiry, .railConfirm, .d1) ∨ (c, which, step) = (.ebLiftConfirmExpiry, .ebLift, .d2) ∨
      (c, which, step) = (.torqueProveExpiry, .torqueProve, .d3) ∨ (c, which, step) = (.sbLiftConfirmExpiry, .sbLift, .d4)) :
    exec c s = .next (whileOperating s fun s => endEvent (stepTimeout which s)) := by
  rcases row with row | row | row | row <;> (obtain ⟨rfl, rfl, rfl⟩ : _ ∧ _ ∧ _ := by simpa using row) <;> rfl

/-- Settles O27: the abort, by what it leaves of the brakes and of the run. -/
theorem stepTimeoutAbortsDeparture : Obligations.StepTimeoutAbortsDeparture := by
  intro s c which step row loaded slot timer mode
  let expired := setStepTimer none s
  have timedOut : stepTimeout which s = abortDeparture .stepTimeout expired := if_pos timer
  have aborted : RunAborted expired (abortDeparture .stepTimeout expired) := abortDeparture_runAborted slot mode
  have settles := Settles.abortDeparture .stepTimeout expired
  have calm := Calm.abortDeparture .stepTimeout expired
  have effects := abortDeparture_aborted (c := .stepTimeout) (s := expired) slot
  have bks := abortDeparture_bks .stepTimeout expired
  rw [show expired.bks.slot = .departure step from slot] at bks
  have done : exec c s = .next (stepTimeout which s).rested :=
    (exec_stepTimeout row).trans (next_event (stepTimeout which) loaded (by rw [timedOut]; exact waits_of_run aborted.closing))
  rw [timedOut] at done
  have rests := Rests.rested (abortDeparture .stepTimeout expired)
  generalize (abortDeparture .stepTimeout expired).rested = u at done rests
  have brakes := rests.bks.trans bks
  have load : u.adu.load = s.adu.load := by
    rw [rests.adu]
    exact calm.load
  refine ⟨u, done, congrArg Bks.slot brakes, congrArg Bks.stepTimer brakes, congrArg Bks.lastDeparture brakes, congrArg Bks.sbDmd brakes,
    congrArg Bks.ebHold brakes, congrArg Bks.ebProved brakes, (congrArg Bks.demand brakes).trans rfl, (rests.attention _).trans effects.attention,
    ?_, ?_, ?_, ?_, rests.ssv.trans settles.ssv, rests.msu.trans calm.msu, rests.cfs.trans calm.cfs, load, fun e => ?_, fun moves => ?_,
    fun below => ?_, fun high => ?_⟩
  · rw [rests.rco]
    exact aborted.authority
  · rw [rests.rco]
    exact aborted.brakesSet
  · rw [rests.rco]
    exact aborted.jogRun
  · rw [rests.rco]
    exact aborted.tripInHand
  · rw [rests.door]
    exact settles.rails e
  · rw [rests.rco]
    exact aborted.arrested moves
  · rw [rests.rco]
    exact aborted.counted below
  · rw [rests.rco, rests.attention]
    exact aborted.third high

/-! ### The stop sequence's timers -/

/-- A stop sequence in step S1, or in step S2 with EB-HOLD de-energized, with these faults listed. -/
structure InStop (step : StopStep) (faults : List StopFault) (s : State) : Prop where
  slot : s.bks.slot = .stop step
  run : s.rco.runState = .stopping
  listed : s.bks.faults = faults
  hold : step = .s2 → s.bks.ebHold = false

namespace InStop
variable {step : StopStep} {faults : List StopFault} {s : State}

theorem of_same {t : State} (h : InStop step faults s) (slot : t.bks.slot = s.bks.slot) (run : t.rco.runState = s.rco.runState)
    (listed : t.bks.faults = s.bks.faults) (hold : t.bks.ebHold = true → s.bks.ebHold = true) : InStop step faults t :=
  ⟨slot.trans h.slot, run.trans h.run, listed.trans h.listed, fun second => Bool.eq_false_iff.mpr fun held =>
    by simpa [h.hold second] using hold held⟩

theorem deenergizeEb (h : InStop step faults s) : InStop step faults (deenergizeEb s) := by
  have dropped : Machine.deenergizeEb s = dropEbHold s := by
    unfold Machine.deenergizeEb
    split
    · rename_i held
      refine if_neg fun second => ?_
      rw [h.slot] at second
      simp [h.hold (by simpa using second)] at held
    · rfl
  rw [dropped]
  exact h.of_same rfl rfl rfl (by simp)

/-- Reaching SERVICE demands the service brake and closes the sessions; the sequence goes on (R59, R100). -/
theorem reachService (h : InStop step faults s) (c : AbortCause) : InStop step faults (reachService c s) := by
  have arrested : Machine.arrest (withdrawAuthority (Machine.assertSb s)) = withdrawAuthority (Machine.assertSb s) := by
    unfold Machine.arrest
    rw [show (withdrawAuthority (Machine.assertSb s)).rco.runState = .stopping by simpa using h.run]
  have still (u : State) (slot : u.bks.slot = .stop step) : Machine.abortDeparture c u = u := by
    unfold Machine.abortDeparture
    rw [slot]
  unfold Machine.reachService
  dsimp only
  rw [arrested, still _ (by simpa [assertSb_bks] using h.slot)]
  exact h.of_same (by simp [assertSb_bks]) (by simp) (by simp [assertSb_bks]) (by simp [assertSb_bks])

/-- A cause taken leaves the stop sequence where it is. -/
theorem raiseAs (h : InStop step faults s) (a : AbortCause) (c : Cause) (l : Level) : InStop step faults (raiseAs a c l s) := by
  have taken : InStop step faults (s.handed c l) :=
    h.of_same (by rw [handed_bks]) (congrArg Rco.runState (setDemand_rco ..)) (by rw [handed_bks]) (by rw [handed_bks]; exact id)
  rw [raiseAs_eq]
  split
  · exact taken
  · have service : InStop step faults ((s.handed c l).atService s.bks.demand.latched a) := by
      unfold State.atService
      split
      · exact taken.reachService a
      · exact taken
    have emergency : InStop step faults ((s.handed c l).atEmergency s.bks.demand.latched a) := by
      unfold State.atEmergency
      split
      · exact service.deenergizeEb
      · exact service
    have rail : InStop step faults ((s.handed c l).atRail s.bks.demand.latched a) := by
      unfold State.atRail
      split
      · exact emergency.of_same (by simp) (by simp) (by simp) (by simp)
      · exact emergency
    obtain ⟨esc, same⟩ := escalateTo_eq (s.bks.demand.add c l).latched ((s.handed c l).atRail s.bks.demand.latched a)
    rw [same]
    exact rail.of_same rfl rfl rfl id

end InStop

theorem Sequenced.slot_of_ebDrop {s : State} (law : Sequenced s) (running : s.stepTimerIs .ebDrop = true) : s.bks.slot = .stop .s2 := by
  obtain ⟨n, timer⟩ := timer_step running
  have fits := law.timer
  unfold Bks.timerFits at fits
  rw [timer] at fits
  dsimp only at fits
  split at fits <;> simp_all

theorem stopOutcome_append (l : List StopFault) (f : StopFault) : stopOutcome (l ++ [f]) = .completedWithFault (l ++ [f]) := by
  cases l <;> rfl

/-- The state in which S1's missing confirmation is raised (R119). -/
def State.unconfirmed (s : State) : State :=
  (s.withBks { s.bks with stepTimer := none, faults := s.bks.faults ++ [.sbUnconfirmed] }).setAttention .sbConfirm

theorem unconfirmed_attention (s : State) : s.unconfirmed.attention .sbConfirm = true := State.attention_setAttention_same ..

/-- S2 as it begins with EB-HOLD de-energized: the fall of EBL is awaited, or the sequence is complete (R120). -/
theorem startS2_released {s : State} (released : s.bks.ebHold = false) :
    startS2 s = awaitDrop (setStepTimer none (setSlot (.stop .s2) s)) :=
  if_neg (by simp [released])

/-- In S1 the unconfirmed brake is raised as an EB_FAULT, which de-energizes EB-HOLD, and S2 begins (R119). -/
theorem sbConfirmEnd_eq {s : State} (timer : s.stepTimerIs .sbConfirm = true) (law : s.brakesLawful = true) :
    sbConfirmEnd s = awaitDrop (setStepTimer none (setSlot (.stop .s2) (raiseAs .latch .ebFault .emergency s.unconfirmed))) ∧
      InStop .s1 (s.bks.faults ++ [.sbUnconfirmed]) (raiseAs .latch .ebFault .emergency s.unconfirmed) ∧
      (raiseAs .latch .ebFault .emergency s.unconfirmed).bks.ebHold = false ∧
      (raiseAs .latch .ebFault .emergency s.unconfirmed).bks.sbDmd = true := by
  have laws := (brakesLawful_iff s).mp law
  have slot := laws.seq.slot_of_sbConfirm timer
  have begun : Keeps BrakeLaw s s.unconfirmed :=
    .trans (.trans (setStepTimer_brakeLaw s) (faults_brakeLaw _ (s.bks.faults ++ [.sbUnconfirmed]))) (.brakes_of_rco rfl rfl)
  have lawful : s.unconfirmed.brakesLawful = true := (brakesLawful_iff _).mpr (begun.law laws)
  have stopping : InStop .s1 (s.bks.faults ++ [.sbUnconfirmed]) s.unconfirmed := ⟨slot, laws.seq.stop.mp (by rw [slot]; rfl), rfl, by simp⟩
  have released := raiseAs_emergency (a := .latch) (c := .ebFault) (l := .emergency) (s := s.unconfirmed) (by decide) lawful
  refine ⟨(if_pos timer).trans ?_, stopping.raiseAs .., released, (raiseAs_service (by decide) lawful).1⟩
  exact startS2_released released

/-- In S2 the missing fall is raised as an EB_FAULT, and the sequence is complete with it listed (R120). -/
theorem ebDropEnd_eq {s : State} (timer : s.stepTimerIs .ebDrop = true) (law : s.brakesLawful = true) (released : s.bks.ebHold = false) :
    (∃ raised, raised = raiseEbFault (setStepTimer none s) ∧
      ebDropEnd s = completeStop (raised.withBks { raised.bks with faults := raised.bks.faults ++ [.ebUnconfirmed] }) ∧
      raised.bks.faults = s.bks.faults ∧ raised.bks.ebHold = false ∧ raised.bks.sbDmd = true) := by
  have laws := (brakesLawful_iff s).mp law
  have slot := laws.seq.slot_of_ebDrop timer
  have begun : Keeps BrakeLaw s ((setStepTimer none s).setAttention .ebConfirm) := .trans (setStepTimer_brakeLaw s) (.brakes_of_rco rfl rfl)
  have lawful : ((setStepTimer none s).setAttention .ebConfirm).brakesLawful = true := (brakesLawful_iff _).mpr (begun.law laws)
  have stopping : InStop .s2 s.bks.faults ((setStepTimer none s).setAttention .ebConfirm) :=
    ⟨slot, laws.seq.stop.mp (by rw [slot]; rfl), rfl, fun _ => released⟩
  refine ⟨_, rfl, if_pos timer, (stopping.raiseAs .latch .ebFault .emergency).listed, ?_, ?_⟩
  · exact raiseAs_emergency (a := .latch) (c := .ebFault) (by decide) lawful
  · exact (raiseAs_service (a := .latch) (c := .ebFault) (by decide) lawful).1

/-- Settles O29: the fault is raised with the sequence where it is, then the sequence goes on. -/
theorem unconfirmedBrakesAreListed : Obligations.UnconfirmedBrakesAreListed := by
  refine ⟨fun s loaded timer law => ?_, fun s loaded timer law hold => ?_⟩
  · obtain ⟨expired, inStop, released, demanded⟩ := sbConfirmEnd_eq timer law
    have entry := raiseAs_entry .latch .ebFault .emergency s.unconfirmed
    have latched := raiseAs_latched .latch .ebFault .emergency s.unconfirmed
    have raisedCalm := Calm.raiseAs .latch .ebFault .emergency s.unconfirmed
    generalize raiseAs .latch .ebFault .emergency s.unconfirmed = raised at *
    have calm := Calm.after (.awaitDrop _) (Calm.after (.setStepTimer none _) (Calm.setSlot (.stop .s2) raised))
    have bks := awaitDrop_bks (setStepTimer none (setSlot (.stop .s2) raised))
    have rco (risen : raised.bks.eblRisen = true) : (awaitDrop (setStepTimer none (setSlot (.stop .s2) raised))).rco = raised.rco := by
      unfold awaitDrop
      rw [if_pos (show (setStepTimer none (setSlot (.stop .s2) raised)).bks.eblRisen = true from risen)]
      rfl
    generalize awaitDrop (setStepTimer none (setSlot (.stop .s2) raised)) = t at *
    have demand : t.bks.demand = raised.bks.demand := by
      rw [bks]
      split <;> rfl
    have done : exec .sbConfirmExpiry s = .next (sbConfirmEnd s).rested :=
      next_event sbConfirmEnd loaded (by
        rw [expired]
        exact waits_of_latched (latched_ne_none (by rw [demand]; exact Nat.le_trans (by decide) latched)))
    rw [expired] at done
    have risen : raised.bks.eblRisen = s.bks.eblRisen := raisedCalm.eblRisen
    have rests := Rests.rested t
    generalize t.rested = u at done rests
    have load : u.adu.load = s.adu.load := by
      rw [rests.adu]
      exact calm.load.trans raisedCalm.load
    refine ⟨u, done, (rests.attention _).trans (calm.attention _ (raisedCalm.attention _ (unconfirmed_attention s))), ?_, ?_, ?_,
      fun up => ?_, fun down => ?_, rests.msu.trans (calm.msu.trans raisedCalm.msu), rests.cfs.trans (calm.cfs.trans raisedCalm.cfs), load⟩
    · rw [rests.bks, demand]
      exact entry
    · rw [rests.bks, bks]
      split <;> exact released
    · rw [rests.bks, bks]
      split <;> exact demanded
    · rw [rests.bks, bks, if_pos (show (setStepTimer none (setSlot (.stop .s2) raised)).bks.eblRisen = true from risen.trans up),
        rests.runState, rco (risen.trans up)]
      exact ⟨rfl, inStop.listed, rfl, inStop.run⟩
    · rw [rests.bks, bks, if_neg (by simp [risen, down])]
      refine ⟨rfl, ?_⟩
      change stopOutcome raised.bks.faults = _
      rw [inStop.listed, stopOutcome_append]
  · obtain ⟨raised, raise_, expired, listed, released, demanded⟩ := ebDropEnd_eq timer law hold
    obtain ⟨attention, entry, -⟩ := raiseEbFault_effects (setStepTimer none s)
    have raisedCalm := Calm.raiseEbFault (setStepTimer none s)
    have latched : 3 ≤ (raiseEbFault (setStepTimer none s)).bks.demand.latched.rank := raiseAs_latched .latch .ebFault .emergency _
    rw [← raise_] at attention entry raisedCalm latched
    let faulted := raised.withBks { raised.bks with faults := raised.bks.faults ++ [.ebUnconfirmed] }
    have calm : Calm raised (completeStop faulted) := Calm.after (.completeStop _) (.withBks _ _ rfl rfl)
    have bks := completeStop_bks faulted
    have idles := completeStop_idles faulted
    generalize completeStop faulted = t at *
    have done : exec .ebDropConfirmExpiry s = .next (ebDropEnd s).rested :=
      next_event ebDropEnd loaded (by
        rw [expired]
        exact waits_of_latched (latched_ne_none (by rw [bks]; exact Nat.le_trans (by decide) latched)))
    rw [expired] at done
    have rests := Rests.rested t
    generalize t.rested = u at done rests
    have load : u.adu.load = s.adu.load := by
      rw [rests.adu]
      exact calm.load.trans raisedCalm.load
    have brakes : u.bks = faulted.bks.stopped := rests.bks.trans bks
    refine ⟨u, done, (rests.attention _).trans (calm.attention _ attention), ?_, congrArg Bks.slot brakes, ?_, ?_, ?_, ?_,
      rests.msu.trans (calm.msu.trans raisedCalm.msu), rests.cfs.trans (calm.cfs.trans raisedCalm.cfs), load⟩
    · rw [brakes]
      exact holdsCause_of_entry entry
    · rw [brakes]
      change stopOutcome (raised.bks.faults ++ [.ebUnconfirmed]) = _
      rw [listed, stopOutcome_append]
    · rw [rests.authority]
      exact idles.auth
    · rw [brakes]
      exact released
    · rw [brakes]
      exact demanded

end Sys2Proof.Machine
end

section
/-! The stop sequence to its end, and the confirmation of standstill (R48, R60, R61, R74, R109, R119, R120). -/

namespace Sys2Proof.Machine

/-! ### The delay of S2 (R120) -/

/-- The three tests of R31. -/
theorem resyncHolds_iff (s : State) : s.resyncHolds = true ↔
    (s.msu.qualified = true ∧ s.msu.ch1.resynced = true ∧ s.msu.ch2.resynced = true ∧
      ∃ p1, s.msu.ch1.position = some p1 ∧
        ∃ p2, s.msu.ch2.position = some p2 ∧ ((p1 - p2).natAbs : Int) ≤ s.line.positionTolerance) := by
  unfold State.resyncHolds
  cases s.msu.ch1.position with
  | none => simp
  | some p1 =>
    cases s.msu.ch2.position with
    | none => simp
    | some p2 =>
      simp only [Bool.and_eq_true, decide_eq_true_eq, Option.some.injEq, exists_eq_left', and_assoc]
      exact Iff.rfl

/-- A completed stop sequence is a settled line whose slot is idle (R61, R120). -/
theorem completeStop_settled {s : State} (stays : s.rco.mode ≠ .recovery ∨ s.windowTest.isSome = true) :
    Settled true (s.withBks s.bks.stopped) (completeStop s) := settle_settled stays

/-- A line settled after its stop sequence departs from no closing. -/
theorem Settled.waits {b : Bool} {s t : State} (h : Settled b s t) : t.waits = true := by
  refine waits_of_run ?_
  rw [h.runState]
  split <;> decide

/-- The end of the event changes the first failing condition alone. -/
theorem Settled.rests {b : Bool} {s t u : State} (h : Settled b s t) {failing : Option ReadyCond}
    (rco : u.rco = { t.rco with firstFailing := failing }) (doors : u.dou = t.dou) : Settled b s u where
  authority := by rw [rco]; exact h.authority
  brakesSet := by rw [rco]; exact h.brakesSet
  currentStop := by rw [rco]; exact h.currentStop
  runState := by rw [rco]; exact h.runState
  jogRun := by rw [rco]; exact h.jogRun
  tripInHand := by rw [rco]; exact h.tripInHand
  queue := by rw [rco]; exact h.queue
  abortCount := by rw [rco]; exact h.abortCount
  resynced := by rw [rco]; exact h.resynced
  unchanged := by rw [rco]; exact h.unchanged
  dwell := by rw [rco]; exact h.dwell
  doors k window shown c := (congrArg (PerCar.get · c) doors).trans (h.doors k window shown c)
  dou hidden := doors.trans (h.dou hidden)

/-- Settles O30: the sequence completes, and the line is settled. -/
theorem stopDelayEndDropsEmergencyBrake : Obligations.StopDelayEndDropsEmergencyBrake := by
  intro s loaded timer slot hold
  let dropped := s.withBks { s.bks with ebHold := false, ebProved := false, stepTimer := none }
  have ended : stopDelayEnd s = awaitDrop dropped := by
    refine (if_pos timer).trans ?_
    unfold deenergizeEb
    rw [if_pos (show (setStepTimer none s).bks.ebHold = true from hold), if_pos (show (setStepTimer none s).bks.slot = .stop .s2 from slot)]
    rfl
  refine ⟨fun risen waits => ?_, fun fallen stays => ?_⟩
  · have awaited : stopDelayEnd s = s.withBks { s.bks with
        ebHold := false, ebProved := false, stepTimer := some { which := .ebDrop, remaining := 1000 } } := ended.trans (if_pos risen)
    exact (next_event stopDelayEnd loaded (by rw [awaited]; exact waits)).trans (by rw [awaited])
  · have completed : stopDelayEnd s = completeStop dropped := ended.trans (if_neg (by simp [dropped, fallen]))
    have settled : Settled true (dropped.withBks dropped.bks.stopped) (completeStop dropped) := completeStop_settled stays
    have calm := Calm.completeStop dropped
    have bks := completeStop_bks dropped
    have done : exec .stopEbDelayEnd s = .next (stopDelayEnd s).rested :=
      next_event stopDelayEnd loaded (by rw [completed]; exact settled.waits)
    rw [completed] at done
    have rests := Rests.rested (completeStop dropped)
    have line := settled.rests rests.rco rests.dou
    generalize completeStop dropped = t at *
    generalize t.rested = u at done rests line
    have brakes : u.bks = dropped.bks.stopped := rests.bks.trans bks
    have load : u.adu.load = s.adu.load := by
      rw [rests.adu]
      exact calm.load
    refine ⟨u, done, congrArg Bks.ebHold brakes, congrArg Bks.ebProved brakes, congrArg Bks.slot brakes, congrArg Bks.stepTimer brakes,
      (congrArg Bks.lastStop brakes).trans ?_, by rw [line.authority]; rfl, line.brakesSet, line.currentStop, line.runState, line.jogRun, line.tripInHand,
      rests.msu.trans calm.msu, rests.cfs.trans calm.cfs, load, (congrArg Bks.demand brakes).trans rfl, ⟨fun recovery resync => ?_, fun other => ?_⟩,
      fun k window shown => ?_, fun notService notRecovery => line.dou ?_⟩
    · change stopOutcome s.bks.faults = _
      cases s.bks.faults <;> rfl
    · cases window : s.windowTest with
      | none => exact absurd recovery (stays.resolve_right (by simp [window]))
      | some k => exact line.resynced rfl (by rw [show (dropped.withBks dropped.bks.stopped).windowTest = s.windowTest from rfl, window]; rfl) recovery ((resyncHolds_iff s).mpr resync)
    · exact line.unchanged fun all => other.elim (fun notRecovery => notRecovery all.2.2.1) fun unsynced => unsynced ((resyncHolds_iff s).mp all.2.2.2)
    · have public_ := (LineMode.isPublic_iff s.rco.mode).mpr shown
      obtain ⟨timer, elapsed⟩ := line.dwell (by rw [show (dropped.withBks dropped.bks.stopped).windowTest = s.windowTest from rfl, window]; rfl) public_
      exact ⟨timer, elapsed, fun c => (line.doors k window public_ c).trans (doorAfterAsk_congr rfl rfl rfl rfl rfl)⟩
    · exact Bool.eq_false_iff.mpr fun public_ => ((LineMode.isPublic_iff s.rco.mode).mp public_).elim notService notRecovery

/-! ### The end of an event after a stop (R69 to R71) -/

/-- What a departure that starts with EBL fallen leaves: no brake is released at its start, and no timer of the run (R71, R113, R114). -/
theorem startDeparture_fallen {k : Fin 6} {dir : Dir} {s : State} (fallen : s.bks.eblRisen = false) :
    (startDeparture k dir s).bks.sbDmd = s.bks.sbDmd ∧ (startDeparture k dir s).rco.jogTimer = s.rco.jogTimer ∧
      (startDeparture k dir s).bks.eblRisen = false := by
  have started (u : State) (still : u.bks.eblRisen = false) :
      (testD1 u).bks.sbDmd = u.bks.sbDmd ∧ (testD1 u).rco = u.rco ∧ (testD1 u).bks.eblRisen = false := by
    unfold testD1 startD2
    split
    · dsimp only
      rw [if_neg (by simp [still])]
      exact ⟨rfl, rfl, still⟩
    · exact ⟨rfl, rfl, still⟩
  unfold startDeparture startD1
  dsimp only
  obtain ⟨demanded, rco, still⟩ := started (startStep .railConfirm Config.railConfirm
    (setRailOrder .lift (takeSnapshot (setSlot (.departure .d1)
      ((setRunState .departing (setAuthority { s.rco.authority with
        targetStop := some k, targetPosition := some (s.stopEntry k).position, dir := some dir } s)).withRco
        { (setRunState .departing (setAuthority { s.rco.authority with
            targetStop := some k, targetPosition := some (s.stopEntry k).position, dir := some dir } s)).rco with brakesSet := false })))))
    (by simp [fallen])
  exact ⟨by rw [demanded]; simp, by rw [rco]; simp, still⟩

theorem endEvent_fallen {s : State} (fallen : s.bks.eblRisen = false) :
    (endEvent s).bks.sbDmd = s.bks.sbDmd ∧ (endEvent s).rco.jogTimer = s.rco.jogTimer := by
  have stage (n : Nat) (u : State) (still : u.bks.eblRisen = false) :
      (readinessStage n u).bks.sbDmd = u.bks.sbDmd ∧ (readinessStage n u).rco.jogTimer = u.rco.jogTimer := by
    induction n generalizing u with
    | zero => exact ⟨rfl, rfl⟩
    | succ n ih =>
      unfold readinessStage
      split
      · split
        · rename_i t _ _
          obtain ⟨demanded, timer, next⟩ := startDeparture_fallen (k := t.target) (dir := u.rco.tripDir)
            (s := u.withRco { u.rco with firstFailing := none }) still
          obtain ⟨again, again'⟩ := ih _ next
          exact ⟨again.trans demanded, again'.trans timer⟩
        · exact ⟨rfl, rfl⟩
      · exact ⟨rfl, rfl⟩
  exact stage 2 s fallen

/-- At standstill a raise starts no check (R107). -/
theorem raiseAs_esc_of_standstill {a : AbortCause} {c : Cause} {l : Level} {s : State} (stands : s.msu.standstill = true)
    (idle : s.bks.esc.stage = .none ∧ s.bks.esc.timer = none) : (raiseAs a c l s).bks.esc = s.bks.esc := by
  have msu : ((s.handed c l).atRail s.bks.demand.latched a).msu = s.msu := (atRail_yields ..).msu.trans (handed_settles ..).msu
  rw [raiseAs_eq]
  split
  · rw [handed_bks]
  · unfold escalateTo
    split
    · unfold cancelCheck
      rw [State.withBks_bks, atRail_esc, handed_bks]
      obtain ⟨stage, timer⟩ := idle
      cases esc : s.bks.esc
      simp_all
    · rw [if_pos (by rw [msu]; exact stands), atRail_esc, handed_bks]

/-- A departure at standstill, with no check in progress, starts none (R107). -/
theorem startDeparture_esc {k : Fin 6} {dir : Dir} {s : State} (stands : s.msu.standstill = true)
    (idle : s.bks.esc.stage = .none ∧ s.bks.esc.timer = none) : (startDeparture k dir s).bks.esc = s.bks.esc := by
  have tested (u : State) (still : u.msu.standstill = true) (esc : u.bks.esc = s.bks.esc) : (testD1 u).bks.esc = u.bks.esc := by
    unfold testD1 startD2
    split
    · dsimp only
      split
      · have raised : (raiseEbFault (setStepTimer none (setSlot (.departure .d2) u))).bks.esc = u.bks.esc :=
          raiseAs_esc_of_standstill (s := (setStepTimer none (setSlot (.departure .d2) u)).setAttention .ebConfirm) still
            (by rw [show ((setStepTimer none (setSlot (.departure .d2) u)).setAttention .ebConfirm).bks.esc = u.bks.esc from rfl, esc]; exact idle)
        exact raised
      · rfl
    · rfl
  unfold startDeparture startD1
  dsimp only
  have begun : Settles s (setAuthority { s.rco.authority with targetStop := some k, targetPosition := some (s.stopEntry k).position, dir := some dir } s) :=
    .setAuthority s (.inl rfl)
  rw [tested _ ?_ (by simp)]
  · simp
  · refine Eq.trans (congrArg Msu.standstill ?_) stands
    exact (Calm.setRailOrder .lift _).msu.trans ((Calm.setRunState ..).msu.trans begun.msu)

theorem endEvent_esc {s : State} (stands : s.msu.standstill = true) (idle : s.bks.esc.stage = .none ∧ s.bks.esc.timer = none) :
    (endEvent s).bks.esc = s.bks.esc := by
  have stage (n : Nat) (u : State) (still : u.msu.standstill = true) (idle : u.bks.esc.stage = .none ∧ u.bks.esc.timer = none) :
      (readinessStage n u).bks.esc = u.bks.esc := by
    induction n generalizing u with
    | zero => rfl
    | succ n ih =>
      unfold readinessStage
      split
      · split
        · rename_i t _ _
          have calm := Calm.startDeparture t.target u.rco.tripDir (u.withRco { u.rco with firstFailing := none })
          have same := startDeparture_esc (k := t.target) (dir := u.rco.tripDir) (s := u.withRco { u.rco with firstFailing := none }) still idle
          exact (ih _ (by rw [calm.msu]; exact still) (by rw [same]; exact idle)).trans same
        · rfl
      · rfl
  exact stage 2 s stands idle

/-! ### The stop sequence begins (R119) -/

/-- The line in STOPPING as its stop sequence is asked for (R60, R119). -/
theorem beginStop_rco (s : State) (waiting : (s.bks.sbDmd && s.bks.sbConfirmed) = false) :
    (beginStop s).bks = { s.bks with
        slot := .stop .s1, faults := [], stepTimer := some { which := .sbConfirm, remaining := 1000 }, sbDmd := true, sbConfirmed := false } ∧
      (beginStop s).rco.runState = .stopping ∧ (beginStop s).rco.jogTimer = none := by
  have unconfirmed (u : State) (bks : u.bks = s.bks) : startStop u = startStep .sbConfirm Config.sbConfirm
      (assertSb (u.withBks { u.bks with slot := .stop .s1, faults := [], stepTimer := none })) := by
    unfold startStop
    exact if_neg (by simp [assertSb_bks, bks, waiting])
  unfold beginStop
  dsimp only
  rw [unconfirmed _ (by simp), startStep_bks, startStep_rco, assertSb_rco, assertSb_bks]
  simp [waiting, Config.sbConfirm]

/-- With the service brake confirmed already step S1 completes at its start (R119). -/
theorem beginStop_confirmed {s : State} (demanded : s.bks.sbDmd = true) (confirmed : s.bks.sbConfirmed = true) :
    ∃ x, beginStop s = startS2 x ∧ x.bks = { s.bks with slot := .stop .s1, faults := [], stepTimer := none } ∧
      x.rco.runState = .stopping ∧ x.rco.jogTimer = none ∧ x.rco.mode = s.rco.mode ∧ Calm s x := by
  have taken (u : State) (bks : u.bks = s.bks) :
      startStop u = startS2 (assertSb (u.withBks { u.bks with slot := .stop .s1, faults := [], stepTimer := none })) := by
    unfold startStop
    exact if_pos (by simp [assertSb_bks, bks, demanded, confirmed])
  unfold beginStop
  dsimp only
  rw [taken _ (by simp)]
  refine ⟨_, rfl, ?_, by simp, by simp, by simp, ?_⟩
  · rw [assertSb_bks]
    simp [demanded, confirmed]
  · exact Calm.after (.assertSb _) (Calm.after (.withBks _ _ rfl rfl) (Calm.after (.withRco _ _ rfl) (.setRunState ..)))

/-- S2 with nothing to delay it: EB-HOLD is de-energized and the fall of EBL is awaited (R120). -/
theorem startS2_undelayed {s : State} (soon : s.bks.ebHold = false ∨ s.line.stopEbDelay = 0) :
    ∃ x, startS2 s = awaitDrop x ∧ x.bks.slot = .stop .s2 ∧ x.bks.ebHold = false ∧ x.bks.faults = s.bks.faults ∧
      x.bks.sbDmd = s.bks.sbDmd ∧ x.bks.eblRisen = s.bks.eblRisen ∧ x.rco = s.rco ∧ Calm s x := by
  have begun : Calm s (setStepTimer none (setSlot (.stop .s2) s)) := Calm.after (.setStepTimer ..) (.setSlot ..)
  by_cases held : s.bks.ebHold = true
  · have drops : startS2 s = awaitDrop (setStepTimer none (dropEbHold (setStepTimer none (setSlot (.stop .s2) s)))) := by
      unfold startS2 deenergizeEb
      dsimp only
      rw [if_pos (show (setStepTimer none (setSlot (.stop .s2) s)).bks.ebHold = true from held),
        if_pos (show (setStepTimer none (setSlot (.stop .s2) s)).line.stopEbDelay = 0 from soon.resolve_left (by simp [held])),
        if_pos (show (setStepTimer none (setSlot (.stop .s2) s)).bks.ebHold = true from held)]
      rfl
    exact ⟨_, drops, rfl, rfl, rfl, rfl, rfl, rfl, Calm.after (.setStepTimer ..) (Calm.after (.dropEbHold _) begun)⟩
  · have released : s.bks.ebHold = false := by simpa using held
    exact ⟨_, startS2_released released, rfl, released, rfl, rfl, rfl, rfl, begun⟩

/-- Settling leaves the jog hold timer (R61). -/
theorem settle_jogTimer (b : Bool) (s : State) : (settle b s).rco.jogTimer = s.rco.jogTimer := by
  obtain ⟨queue, dropped, last, mode, change, timer, elapsed, rco, -⟩ := resettled_rco b s
  have resettled : (s.resettled b).rco.jogTimer = s.rco.jogTimer := by rw [rco]
  have effects : settle b s = settleEffects (s.resettled b) := rfl
  rw [effects]
  unfold settleEffects
  split
  · rw [askReleases_rco, startDwell_rco]
    exact resettled
  split
  · rcases takeHead_cases (s.resettled b) with same | ⟨-, same | ⟨_, _, -, -, same⟩⟩
    · rw [same, resettled]
    · rw [same]
      exact resettled
    · rw [same, takeTrip_rco]
      exact resettled
  · exact resettled

theorem cancelCheck_rco (s : State) : (cancelCheck s).rco = s.rco := rfl

/-- The run settled: AT_STOP or OFF_STOP by the window test, without an authority (R61). -/
def State.settledAs (s t : State) : Prop :=
  t.rco.authority.state = .none ∧ t.rco.brakesSet = true ∧ t.rco.currentStop = s.windowTest ∧ t.rco.jogRun = false ∧
    t.rco.runState = (if s.windowTest.isSome then .atStop else .offStop)

theorem Settled.as {b : Bool} {s t : State} (h : Settled b s t) (auth : b = false → s.rco.authority.state = .none) : s.settledAs t := by
  refine ⟨?_, h.brakesSet, h.currentStop, h.jogRun, h.runState⟩
  rw [h.authority]
  cases b with
  | false => exact auth rfl
  | true => rfl

/-- A stop sequence whose step S1 is complete at its start, to the end of the event (R119, R120). -/
theorem endEvent_beginStop_confirmed {s t : State} (demanded : s.bks.sbDmd = true) (confirmed : s.bks.sbConfirmed = true)
    (event : t = endEvent (cancelCheck (beginStop s))) :
    t.bks.sbDmd = true ∧ t.rco.jogTimer = none ∧
      (s.bks.ebHold = true → s.line.stopEbDelay ≠ 0 → t.rco.runState = .stopping ∧ t.bks.slot = .stop .s2 ∧ t.bks.ebHold = true ∧
        t.bks.stepTimer = some { which := .stopEbDelay, remaining := s.line.stopEbDelay }) ∧
      (s.bks.ebHold = false ∨ s.line.stopEbDelay = 0 →
        (s.bks.eblRisen = true → t.rco.runState = .stopping ∧ t.bks.slot = .stop .s2 ∧ t.bks.ebHold = false ∧
          t.bks.stepTimer = some { which := .ebDrop, remaining := 1000 }) ∧
        (s.bks.eblRisen = false → s.rco.mode ≠ .recovery ∨ s.windowTest.isSome = true →
          t.bks.slot = .idle ∧ t.bks.ebHold = false ∧ t.bks.lastStop = .completed ∧ s.settledAs t)) := by
  obtain ⟨x, begun, bks, run, timer, mode, calm⟩ := beginStop_confirmed demanded confirmed
  rw [begun] at event
  have line : x.line = s.line := congrArg (fun k => k.tables.line) calm.cfs
  have hold : x.bks.ebHold = s.bks.ebHold := by rw [bks]
  have ebl : x.bks.eblRisen = s.bks.eblRisen := by rw [bks]
  have demand : x.bks.sbDmd = true := by rw [bks]; exact demanded
  by_cases delayed : s.bks.ebHold = true ∧ s.line.stopEbDelay ≠ 0
  · obtain ⟨held, delay⟩ := delayed
    have waits : startS2 x = startStep .stopEbDelay x.line.stopEbDelay (setStepTimer none (setSlot (.stop .s2) x)) := by
      unfold startS2
      dsimp only
      rw [if_pos (show (setStepTimer none (setSlot (.stop .s2) x)).bks.ebHold = true from hold.trans held),
        if_neg (show ¬(setStepTimer none (setSlot (.stop .s2) x)).line.stopEbDelay = 0 by
          change ¬x.line.stopEbDelay = 0
          rw [line]
          exact delay)]
      rfl
    rw [waits, endEvent_of_run (by rw [cancelCheck_rco, startStep_rco]; simp [run])] at event
    subst event
    refine ⟨demand, timer, fun _ _ => ⟨run, rfl, hold.trans held, ?_⟩, fun soon => ?_⟩
    · change (some { which := .stopEbDelay, remaining := x.line.stopEbDelay } : Option RunningStep) = _
      rw [line]
    · rcases soon with released | none
      · simp [held] at released
      · exact absurd none delay
  · have soon : s.bks.ebHold = false ∨ s.line.stopEbDelay = 0 := by
      by_cases held : s.bks.ebHold = true
      · exact .inr (Classical.byContradiction fun delay => delayed ⟨held, delay⟩)
      · exact .inl (by simpa using held)
    obtain ⟨y, awaits, slot, released, faults, demand', ebl', rco, calm'⟩ := startS2_undelayed (s := x) (by rwa [hold, line])
    rw [awaits] at event
    by_cases risen : s.bks.eblRisen = true
    · have up : y.bks.eblRisen = true := ebl'.trans (ebl.trans risen)
      have waits : awaitDrop y = startStep .ebDrop 1000 y := if_pos up
      rw [waits, endEvent_of_run (by rw [cancelCheck_rco, startStep_rco, rco]; simp [run])] at event
      subst event
      refine ⟨demand'.trans demand, (congrArg Rco.jogTimer rco).trans timer, fun held delay => absurd ⟨held, delay⟩ delayed,
        fun _ => ⟨fun _ => ⟨(congrArg Rco.runState rco).trans run, slot, released, rfl⟩, fun down => ?_⟩⟩
      simp [risen] at down
    · have down : y.bks.eblRisen = false := ebl'.trans (ebl.trans (by simpa using risen))
      have completes : awaitDrop y = completeStop y := if_neg (by simp [down])
      rw [completes] at event
      have stopped := completeStop_bks y
      have timers : (completeStop y).rco.jogTimer = none := (settle_jogTimer true _).trans ((congrArg Rco.jogTimer rco).trans timer)
      have window : y.windowTest = s.windowTest := windowTest_congr (calm'.msu.trans calm.msu) (calm'.cfs.trans calm.cfs)
      have settles (stays : s.rco.mode ≠ .recovery ∨ s.windowTest.isSome = true) :
          Settled true (y.withBks y.bks.stopped) (completeStop y) :=
        completeStop_settled (by rw [rco, mode, window]; exact stays)
      generalize completeStop y = w at *
      obtain ⟨keptDemand, keptTimer⟩ := endEvent_fallen (s := cancelCheck w) ((congrArg Bks.eblRisen stopped).trans down)
      refine ⟨?_, ?_, fun held delay => absurd ⟨held, delay⟩ delayed, fun _ => ⟨fun up => absurd up risen, fun _ stays => ?_⟩⟩
      · rw [event, keptDemand]
        exact (congrArg Bks.sbDmd stopped).trans (demand'.trans demand)
      · rw [event, keptTimer]
        exact timers
      · have settled := settles stays
        have still : (cancelCheck w).rco.runState ≠ .closing := by
          rw [cancelCheck_rco, settled.runState]
          split <;> decide
        rw [endEvent_of_run still] at event
        have faultless : y.bks.faults = [] := by rw [faults, bks]
        have line' : Settled true (y.withBks y.bks.stopped) t := by
          rw [event]
          exact settled.rests rfl rfl
        have brakes : t.bks = { y.bks.stopped with esc := t.bks.esc } := by
          rw [event]
          change (cancelCheck w).bks = { y.bks.stopped with esc := (cancelCheck w).bks.esc }
          unfold cancelCheck
          rw [State.withBks_bks, stopped]
        have last : t.bks.lastStop = stopOutcome y.bks.faults := congrArg Bks.lastStop brakes
        rw [faultless] at last
        have as_ := line'.as (by simp)
        unfold State.settledAs at as_ ⊢
        rw [show (y.withBks y.bks.stopped).windowTest = s.windowTest from window] at as_
        exact ⟨congrArg Bks.slot brakes, (congrArg Bks.ebHold brakes).trans released, last, as_⟩

/-! ### The expiry of the standstill timer -/

theorem standstillAtRco_settles (s : State) : Settles s (standstillAtRco s) := by
  unfold standstillAtRco
  split
  · exact .ite (fun _ => .settle ..) fun _ => .beginStop s
  · split
    · exact .ite (fun _ => .beginStop s) fun _ => .refl s
    · exact .ite (fun _ => .beginStop s) fun _ => .refl s
    · exact .refl s
  · exact .refl s

/-- The state with standstill confirmed, before the Run Coordinator and the Brake Sequencer are told (R48). -/
def State.confirmed (s : State) : State := s.withMsu { s.msu with standstill := true, standstillTimer := none }

theorem confirmed_windowTest (s : State) : s.confirmed.windowTest = s.windowTest := rfl

/-- The runs that end at standstill begin their stop sequence (R60, R74). -/
theorem standstillAtRco_begins {s : State}
    (ends : (s.rco.runState = .running ∧ s.rco.authority.state = .granted ∧
        (∃ k, s.rco.authority.targetStop = some k ∧ s.insideWindow k = true)) ∨
      (s.rco.runState = .running ∧ s.rco.authority.state = .withdrawn ∧ s.rco.jogRun = true) ∨
      (s.rco.runState = .arrested ∧ s.rco.brakesSet = false)) : standstillAtRco s = beginStop s := by
  unfold standstillAtRco
  rcases ends with ⟨run, auth, k, target, inside⟩ | ⟨run, auth, jog⟩ | ⟨run, free⟩
  · rw [run, auth, target]
    exact if_pos inside
  · rw [run, auth]
    exact if_pos jog
  · rw [run]
    exact if_neg (by simp [free])

/-- Settles O20: standstill confirmed, the run ended by what it was, and no check left. -/
theorem standstillExpiryConfirms : Obligations.StandstillExpiryConfirms := by
  intro s loaded timer
  have expired : standstillExpiry s = cancelCheck (standstillAtRco s.confirmed) := if_pos timer
  have done : exec .standstillTimerExpiry s = .next (endEvent (cancelCheck (standstillAtRco s.confirmed))) := by
    rw [← expired]
    exact next_operating (fun s => endEvent (standstillExpiry s)) loaded
  have settles := standstillAtRco_settles s.confirmed
  have calm : Calm s.confirmed (cancelCheck (standstillAtRco s.confirmed)) :=
    Calm.after (.cancelCheck _) (.standstillAtRco s.confirmed)
  have ended := Calm.endEvent (cancelCheck (standstillAtRco s.confirmed))
  have esc : (cancelCheck (standstillAtRco s.confirmed)).bks.esc = { s.bks.esc with stage := .none, timer := none } := by
    change { (standstillAtRco s.confirmed).bks.esc with stage := .none, timer := none } = _
    rw [settles.esc]
    rfl
  have unchecked := endEvent_esc (s := cancelCheck (standstillAtRco s.confirmed)) (by rw [calm.msu]; rfl) (by rw [esc]; exact ⟨rfl, rfl⟩)
  refine ⟨_, done, ended.msu.trans calm.msu, ended.cfs.trans calm.cfs, ended.load.trans calm.load, unchecked.trans esc, fun ends => ⟨fun waiting => ?_,
    fun demanded confirmed => ?_⟩, fun run set_ auth stays => ?_⟩
  · have begins := standstillAtRco_begins (s := s.confirmed) ends
    obtain ⟨bks, run, jog⟩ := beginStop_rco s.confirmed (by
      change (s.bks.sbDmd && s.bks.sbConfirmed) = false
      rcases waiting with h | h <;> simp [h])
    rw [begins]
    generalize beginStop s.confirmed = w at *
    rw [endEvent_of_run (by rw [cancelCheck_rco, run]; decide)]
    refine ⟨run, jog, congrArg Bks.slot bks, congrArg Bks.sbDmd bks, congrArg Bks.sbConfirmed bks, congrArg Bks.stepTimer bks⟩
  · have begins := standstillAtRco_begins (s := s.confirmed) ends
    have stop := endEvent_beginStop_confirmed (s := s.confirmed) demanded confirmed rfl
    rw [begins]
    exact stop
  · have settled : Settled false s.confirmed (settle false s.confirmed) := settle_settled stays
    have bks : (settle false s.confirmed).bks = s.bks := settle_bks ..
    have settling : standstillAtRco s.confirmed = settle false s.confirmed := by
      unfold standstillAtRco
      rw [show s.confirmed.rco.runState = .arrested from run]
      exact if_pos set_
    rw [settling]
    generalize settle false s.confirmed = w at *
    have still : (cancelCheck w).rco.runState ≠ .closing := by
      rw [cancelCheck_rco, settled.runState]
      split <;> decide
    rw [endEvent_of_run still]
    refine ⟨?_, (settled.rests rfl rfl).as fun _ => auth⟩
    have kept : (cancelCheck w).bks = { s.bks with esc := (cancelCheck w).bks.esc } := by
      unfold cancelCheck
      rw [State.withBks_bks, bks]
    exact kept

end Sys2Proof.Machine
end

section
/-! The timers of the run, the doors and the gates (R67 to R69, R78, R127, R130, R148 to R153). -/

namespace Sys2Proof.Machine

/-! ### The choice of a grant (R150) -/

/-- A gate comes before another in the choice: fewer admissions, then the lower number. -/
def State.precedes (s : State) (g h : Fin 16) : Prop :=
  (s.gate g).admissions < (s.gate h).admissions ∨ ((s.gate g).admissions = (s.gate h).admissions ∧ g ≤ h)

theorem precedes_refl (s : State) (g : Fin 16) : s.precedes g g := .inr ⟨rfl, Fin.le_refl g⟩

theorem precedes_trans {s : State} {a b c : Fin 16} (h : s.precedes a b) (g : s.precedes b c) : s.precedes a c := by
  unfold State.precedes at *
  omega

theorem prefer_cases (s : State) (g h : Fin 16) : (s.prefer g h = g ∨ s.prefer g h = h) ∧ s.precedes (s.prefer g h) g ∧ s.precedes (s.prefer g h) h := by
  unfold State.prefer State.precedes
  split
  · exact ⟨.inl rfl, by omega, by omega⟩
  split
  · exact ⟨.inr rfl, by omega, by omega⟩
  split
  · exact ⟨.inl rfl, by omega, by omega⟩
  · exact ⟨.inr rfl, by omega, by omega⟩

theorem foldl_prefer (s : State) (l : List (Fin 16)) (g : Fin 16) :
    (l.foldl s.prefer g = g ∨ l.foldl s.prefer g ∈ l) ∧ s.precedes (l.foldl s.prefer g) g ∧ ∀ h ∈ l, s.precedes (l.foldl s.prefer g) h := by
  induction l generalizing g with
  | nil => exact ⟨.inl rfl, precedes_refl s g, by simp⟩
  | cons x l ih =>
    obtain ⟨which, first, second⟩ := prefer_cases s g x
    obtain ⟨mem, base, all⟩ := ih (s.prefer g x)
    refine ⟨?_, precedes_trans base first, fun h mem => ?_⟩
    · rcases mem with same | later
      · rw [List.foldl_cons, same]
        rcases which with own | new
        · exact .inl own
        · exact .inr (by rw [new]; exact List.mem_cons_self)
      · exact .inr (List.mem_cons_of_mem _ later)
    · rcases List.mem_cons.mp mem with rfl | later
      · exact precedes_trans base second
      · exact all h later

/-- Settles O35: the fold keeps a gate of the list that comes before every other it has met. -/
theorem grantChoosesFewestAdmissions : Obligations.GrantChoosesFewestAdmissions := by
  intro s l some_
  obtain ⟨g, rest, rfl⟩ := List.exists_cons_of_ne_nil some_
  obtain ⟨mem, base, all⟩ := foldl_prefer s rest g
  refine ⟨rest.foldl s.prefer g, ?_, rfl, fun h mem => ?_⟩
  · rcases mem with same | later
    · rw [same]
      exact List.mem_cons_self
    · exact List.mem_cons_of_mem _ later
  · rcases List.mem_cons.mp mem with rfl | later
    · exact base
    · exact all h later

/-! ### The door timers (R127, R130) -/

/-- The sessions that a car serves close at the loss of its release (R137). -/
theorem releaseLost_closed {c : Car} {s : State} {p : Fin 8} (served : (s.session p).served = some c) :
    ((releaseLost c s).session p).isOpen = false := by
  let close (u : State) (q : Fin 8) : State := if (u.session q).served = some c then closeSession .releaseLost u q else u
  have keeps (u : State) (q : Fin 8) : ((close u q).session p).served = (u.session p).served := by
    dsimp only [close]
    split
    · rw [closeSession_sessions]
      split
      · rename_i same
        rw [same.1]
        rfl
      · rfl
    · rfl
  have steps (u : State) (q : Fin 8) : AduStep u (close u q) := .ite (fun _ => .closeSession ..) fun _ => .refl u
  have shut (l : List (Fin 8)) (u : State) (mem : p ∈ l) (served : (u.session p).served = some c) :
      ((l.foldl close u).session p).isOpen = false := by
    induction l generalizing u with
    | nil => cases mem
    | cons q l ih =>
      by_cases own : q = p
      · subst own
        have closed : ((close u q).session q).isOpen = false := by
          dsimp only [close]
          rw [if_pos served, closeSession_sessions]
          split
          · rfl
          · rename_i h
            simpa using h
        exact Bool.eq_false_iff.mpr fun open_ => by simpa [closed] using (AduStep.foldl steps l (close u q)).opens q open_
      · exact ih _ ((List.mem_cons.mp mem).resolve_left fun h => own h.symm) ((keeps u q).trans served)
  exact shut _ s (mem_allPlatforms p) served

/-- A car's platform release withdrawn closes the sessions that it serves (R137). -/
theorem withdraw_closes {c : Car} {w : WithdrawalCause} {s : State} {p : Fin 8} (platform : (s.door c).isPlatform = true)
    (served : (s.session p).served = some c) : ((withdraw c w s).session p).isOpen = false := by
  unfold withdraw
  dsimp only
  rw [if_pos platform]
  refine releaseLost_closed ?_
  have same (d : DoorRecord) : (setDoor c d s).session p = s.session p := congrArg (fun a => a.sessions.get p) (setDoor_adu c d s)
  rw [same]
  exact served

/-- Settles O33: a release withdrawn or overdue is not NONE, so nothing departs. -/
theorem doorTimersAct : Obligations.DoorTimersAct := by
  intro s c loaded
  refine ⟨fun running => ?_, fun running waits => ?_⟩
  · have expired : ackExpiry c s = (withdraw c .ackLate s).setAttention .doorAckLate := if_pos running
    have calm := Calm.withdraw c .ackLate s
    have dou := withdraw_dou c .ackLate s
    have release : ((withdraw c .ackLate s).door c).release ≠ .none := by
      rw [(door_of_dou_set dou).1]
      simp [DoorRecord.withdrawn]
    have bks : (withdraw c .ackLate s).bks = s.bks := withdraw_bks ..
    have closes (p : Fin 8) (platform : (s.door c).isPlatform = true) (served : (s.session p).served = some c) :=
      withdraw_closes (w := .ackLate) platform served
    have done : exec (.ackTimerExpiry c) s = .next (ackExpiry c s).rested :=
      next_event (ackExpiry c) loaded (by
        rw [expired]
        exact waits_of_release (c := c) release)
    rw [expired] at done
    generalize withdraw c .ackLate s = w at *
    have rests := Rests.rested (w.setAttention .doorAckLate)
    generalize (w.setAttention .doorAckLate).rested = u at *
    obtain ⟨own, others⟩ := door_of_dou_set (rests.dou.trans dou)
    have load : u.adu.load = s.adu.load := by
      rw [rests.adu]
      exact calm.load
    exact ⟨u, done, own, others, (rests.attention _).trans (State.attention_setAttention_same ..), rests.bks.trans bks, rests.msu.trans calm.msu,
      rests.cfs.trans calm.cfs, load, fun p platform served => by rw [rests.session]; exact closes p platform served⟩
  · have expired : closeExpiry c s =
        (s.withDoor c { s.door c with closeTimer := none, overdue := true }).setAttention .doorCloseOverdue := if_pos running
    have still : ((s.withDoor c { s.door c with closeTimer := none, overdue := true }).setAttention .doorCloseOverdue).waits = true := by
      have calm := Calm.closeExpiry c s
      rw [expired] at calm
      refine (waits_of_releases calm rfl rfl fun e => ?_).trans waits
      have door : (((s.withDoor c { s.door c with closeTimer := none, overdue := true }).setAttention .doorCloseOverdue).door e).release =
          (s.door e).release := by
        refine (congrArg DoorRecord.release (withDoor_door s c _ e)).trans ?_
        split
        · rename_i own
          rw [own]
        · rfl
      rw [door]
    exact (next_event (closeExpiry c) loaded (by rw [expired]; exact still)).trans (by rw [expired])

/-! ### The admission timers (R151, R153) -/

/-- A gate granted its reservation, as the state stands before the notice (R150). -/
theorem grant_eq (p : Fin 8) (g : Fin 16) (s : State) :
    grant p g s =
      noticeGate g .admitted .none
        ((s.withSession p
          { s.session p with waiting := (s.session p).waiting.erase g, reservations := (s.session p).reservations + 1 }).withGate g
          { s.gate g with state := .reserved, admissions := satInc 255 (s.gate g).admissions, timer := startSec s.line.reservationTimeout }) := by
  unfold grant reserve
  simp [State.withSession, State.session, State.withGate, State.gate, State.withAdu, State.line]

/-- A gate alone in the list is granted where the policy allows (R148, R150). -/
theorem evaluatePolicy_of_single {s : State} {p : Fin 8} {g : Fin 16} (alone : (s.session p).waiting = [g]) (allows : s.policyAllows p = true) :
    evaluatePolicy s p = grant p g s := by
  unfold evaluatePolicy
  rw [alone]
  change grantWaiting p 1 s = _
  unfold grantWaiting
  rw [if_pos allows, alone]
  rfl

/-- Settles O34: the timer's own effect, then the policy. -/
theorem admissionTimersAct : Obligations.AdmissionTimersAct := by
  refine ⟨fun s g loaded running alone waits => ?_, fun s p loaded running waits => ?_⟩
  · have expired : reservationExpiry g s = noticeGate g .cancelled .none (giveUp g s) := by
      refine (if_pos running).trans (evaluatePolicy_of_empty ?_)
      rw [noticeGate_session]
      simpa [giveUp, idleGate, State.withSession, State.withGate, State.withAdu, State.session] using alone
    have still : (reservationExpiry g s).waits = true :=
      (waits_of_calm (Calm.reservationExpiry g s) (by rw [expired]; simp [giveUp, idleGate]) (by simp) (by rw [expired]; simp [giveUp, idleGate])).trans waits
    exact (next_event (reservationExpiry g) loaded still).trans (by rw [expired]; rfl)
  · let quiet := s.withSession p { s.session p with quietTimer := none }
    have calm : Calm s (exitQuietExpiry p s) := Calm.exitQuietExpiry p s
    have expired : exitQuietExpiry p s = evaluatePolicy quiet p := if_pos running
    have still : (exitQuietExpiry p s).waits = true :=
      (waits_of_calm calm (by rw [expired]; simp [quiet]) (by simp) (by rw [expired]; simp [quiet])).trans waits
    have done : exec (.exitQuietTimerExpiry p) s = .next (exitQuietExpiry p s).rested := next_event (exitQuietExpiry p) loaded still
    have session : quiet.session p = { s.session p with quietTimer := none } := State.session_withSession_same ..
    refine ⟨fun empty => ?_, fun g alone allows => ?_⟩
    · rw [done, expired, evaluatePolicy_of_empty (by rw [session]; exact empty)]
    · have allowed : quiet.policyAllows p = true := by
        have places : quiet.placesLeft p = s.placesLeft p := by
          unfold State.placesLeft
          rw [session]
          rfl
        unfold State.policyAllows policyAnswer State.policyIndex
        rw [places, session]
        exact allows
      rw [done, expired, evaluatePolicy_of_single (by rw [session]; exact alone) allowed, grant_eq, session, alone, List.erase_cons_head]
      simp [quiet, State.withSession, State.session, State.withGate, State.gate, State.withAdu, State.line, noticeGate, startSec]

/-! ### The jog hold timer (R78) -/

/-- The point where it lies short of the stop, and else the stop (R78). -/
theorem target_min (point stop : Int) : (if Dir.up.beyond stop point then some point else some stop) = some (min point stop) := by
  simp only [Dir.beyond, decide_eq_true_eq]
  split <;> congr 1 <;> omega

theorem target_max (point stop : Int) : (if Dir.down.beyond stop point then some point else some stop) = some (max point stop) := by
  simp only [Dir.beyond, decide_eq_true_eq]
  split <;> congr 1 <;> omega

/-- Settles O32: the withdrawal point and the nearer of it and the stop. -/
theorem jogHoldExpiryWithdraws : Obligations.JogHoldExpiryWithdraws := by
  intro s dir aG p k loaded running granted way target limit positive place moves open_
  let stopped := s.withRco { s.rco with jogTimer := none }
  let withdrawn : Authority :=
    { s.rco.authority with
      state := .withdrawn, withdrawalPoint := some (s.withdrawalPoint dir), targetPosition := s.withdrawnTarget dir (s.withdrawalPoint dir) }
  have msu : (setAuthority withdrawn stopped).msu = s.msu := (Calm.setAuthority withdrawn stopped).msu
  have expired : jogExpiry s = setAuthority withdrawn stopped := by
    unfold jogExpiry
    rw [if_pos running, granted, way]
    exact if_neg (by rw [msu, moves]; decide)
  have rco : (setAuthority withdrawn stopped).rco = { s.rco with jogTimer := none, authority := withdrawn } := setAuthority_rco ..
  have calm := Calm.setAuthority withdrawn stopped
  have bks : (setAuthority withdrawn stopped).bks = s.bks := setAuthority_bks ..
  have ssv : (setAuthority withdrawn stopped).ssv = s.ssv := (Settles.setAuthority stopped (.inr (.inr ⟨granted, rfl⟩))).ssv
  have dou : (setAuthority withdrawn stopped).dou = s.dou := setAuthority_dou ..
  have adu : (setAuthority withdrawn stopped).adu = s.adu := setAuthority_adu ..
  have att : (setAuthority withdrawn stopped).att = s.att := setAuthority_att ..
  have done : exec .jogHoldExpiry s = .next (jogExpiry s).rested :=
    next_event jogExpiry loaded (by
      rw [expired]
      exact waits_of_run (by rw [rco]; exact open_))
  rw [expired] at done
  have distance : brakingDistance s.msu.vMeas (s.ssv.aG.getD s.line.aMin) = ((s.msu.vMeas * s.msu.vMeas + (2 * aG - 1)) / (2 * aG) : Nat) := by
    unfold brakingDistance
    rw [limit]
    exact if_neg (Nat.ne_of_gt positive)
  generalize setAuthority withdrawn stopped = w at *
  have rests := Rests.rested w
  generalize w.rested = u at *
  refine ⟨u, done, ?_, ?_, ?_, ?_, ?_, ?_, rests.bks.trans bks, rests.ssv.trans ssv, rests.msu.trans calm.msu, rests.dou.trans dou,
    rests.adu.trans adu, rests.att.trans att, rests.cfs.trans calm.cfs⟩
  · rw [rests.rco]
    exact congrArg Rco.jogTimer rco
  · rw [rests.authority, rco]
  · rw [rests.authority, rco]
    exact target
  · rw [rests.authority, rco]
    exact way
  · rw [rests.runState, rco]
  · rw [rests.authority, rco]
    simp only [withdrawn, State.withdrawalPoint, State.withdrawnTarget, distance, place, target]
    cases dir with
    | up => exact ⟨rfl, target_min ..⟩
    | down => exact ⟨rfl, target_max ..⟩

end Sys2Proof.Machine
end

section
/-! CLOSING as it begins: the head taken, the sessions closed, the platform releases withdrawn (R67 to R69, R129, R146). -/

namespace Sys2Proof.Machine

/-! ### The platform releases withdrawn (R129) -/

theorem withdrawPlatform_door (w : WithdrawalCause) (s : State) (c e : Car) :
    (withdrawPlatform w s c).door e =
      if e = c ∧ (s.door c).given = true ∧ (s.door c).isPlatform = true then (s.door c).withdrawn s.line.closeTimeout w else s.door e := by
  unfold withdrawPlatform
  by_cases taken : (s.door c).given = true ∧ (s.door c).isPlatform = true
  · rw [if_pos (by simp [taken])]
    obtain ⟨own, others⟩ := door_of_dou_set (withdraw_dou c w s)
    by_cases same : e = c
    · rw [if_pos ⟨same, taken⟩, same, own]
    · rw [if_neg (fun h => same h.1), others e same]
  · rw [if_neg (by simpa using taken), if_neg (fun h => taken h.2)]

/-- Each car's given platform release is withdrawn, and nothing else of the doors changes. -/
theorem withdrawPlatforms_door (w : WithdrawalCause) (s : State) (c : Car) :
    (allCars.foldl (withdrawPlatform w) s).door c =
      if (s.door c).given = true ∧ (s.door c).isPlatform = true then (s.door c).withdrawn s.line.closeTimeout w else s.door c := by
  have both : allCars.foldl (withdrawPlatform w) s = withdrawPlatform w (withdrawPlatform w s .a) .b := rfl
  have line : (withdrawPlatform w s .a).line = s.line := congrArg (fun k => k.tables.line) (Calm.withdrawPlatform w s .a).cfs
  have first (e : Car) := withdrawPlatform_door w s .a e
  rw [both, withdrawPlatform_door, line]
  cases c with
  | a => rw [if_neg (fun h => absurd h.1 (by decide)), first .a]; simp
  | b =>
    have other : (withdrawPlatform w s .a).door .b = s.door .b := by rw [first .b, if_neg (fun h => absurd h.1 (by decide))]
    rw [other]
    simp

theorem withdrawn_release {d : DoorRecord} {timeout : Nat} {w : WithdrawalCause} (given : d.given = true) :
    (d.withdrawn timeout w).release = .none ↔ d.release = .none := by
  constructor
  · intro h
    cases h
  · intro h
    simp [DoorRecord.given, h] at given

theorem withdrawPlatforms_release (w : WithdrawalCause) (s : State) (c : Car) :
    ((allCars.foldl (withdrawPlatform w) s).door c).release = .none ↔ (s.door c).release = .none := by
  rw [withdrawPlatforms_door]
  split
  · rename_i taken
    exact withdrawn_release taken.1
  · exact Iff.rfl

theorem withdrawPlatforms_bks (w : WithdrawalCause) (s : State) : (allCars.foldl (withdrawPlatform w) s).bks = s.bks := foldl_bks (by simp) _ s

theorem withdrawPlatforms_closed {w : WithdrawalCause} {s : State} (closed : ∀ p, (s.session p).isOpen = false) (p : Fin 8) :
    ((allCars.foldl (withdrawPlatform w) s).session p).isOpen = false :=
  Bool.eq_false_iff.mpr fun open_ => by
    simpa [closed p] using (Settles.foldl (Settles.withdrawPlatform w) allCars s).opens p open_

/-! ### The head (R68, R69) -/

/-- The head that is taken is the first request for another stop (R68). -/
theorem takeFrom_eq (q : List Trip) (s : State) :
    takeFrom q s =
      match q.dropWhile (fun t => s.rco.currentStop == some t.target) with
      | [] => s.withRco { s.rco with queue := [] }
      | t :: rest => takeTrip t rest s := by
  induction q with
  | nil => rfl
  | cons t rest ih =>
    unfold takeFrom
    split
    · rename_i here
      rw [ih, List.dropWhile_cons_of_pos (by simp [here])]
    · rename_i other
      rw [List.dropWhile_cons_of_neg (by simpa using other)]

section
variable (t : Trip) (rest : List Trip) (s : State)

/-- What CLOSING does to the doors: each given platform release is withdrawn (R129). -/
theorem beginClosing_door (c : Car) :
    (beginClosing s).door c =
      if (s.door c).given = true ∧ (s.door c).isPlatform = true then (s.door c).withdrawn s.line.closeTimeout .closing else s.door c := by
  have doors : (closeAll .closing (setRunState .closing s)).dou = s.dou := by simp
  have line : (closeAll .closing (setRunState .closing s)).line = s.line :=
    congrArg (fun k => k.tables.line) (Calm.after (.closeAll ..) (Calm.setRunState .closing s)).cfs
  unfold beginClosing
  rw [withdrawPlatforms_door, line, State.door, doors]
  rfl

theorem takeTrip_door (c : Car) :
    (takeTrip t rest s).door c =
      if (s.door c).given = true ∧ (s.door c).isPlatform = true then (s.door c).withdrawn s.line.closeTimeout .closing else s.door c :=
  beginClosing_door _ c

theorem beginClosing_closed (p : Fin 8) : ((beginClosing s).session p).isOpen = false := by
  have closed := closeAll_closed .closing (setRunState .closing s)
  unfold beginClosing
  generalize closeAll .closing (setRunState .closing s) = u at closed ⊢
  exact withdrawPlatforms_closed closed p

theorem takeTrip_closed (p : Fin 8) : ((takeTrip t rest s).session p).isOpen = false :=
  beginClosing_closed _ p

/-- CLOSING finds the readiness as it stood: a release withdrawn still stands (R70). -/
theorem takeTrip_readiness : (takeTrip t rest s).readiness = s.readiness := by
  refine readiness_of_releases (Calm.takeTrip t rest s) (by rw [takeTrip_bks]) fun c => ?_
  rw [takeTrip_door]
  split
  · rename_i given
    exact withdrawn_release given.1
  · exact Iff.rfl

/-- While readiness fails, CLOSING waits. -/
theorem takeTrip_waits (failing : s.readiness.isSome = true) : (takeTrip t rest s).waits = true := by
  simp [State.waits, takeTrip_readiness, failing]

end

/-- The trip is taken and CLOSING begins while readiness fails: what the event leaves (R68, R69, R129, R146). -/
structure Closing (t : Trip) (rest : List Trip) (s u : State) : Prop where
  run : u.rco.runState = .closing
  trip : u.rco.tripInHand = some t
  queue : u.rco.queue = rest
  dwell : u.rco.dwellTimer = none
  failing : u.rco.firstFailing.isSome = true
  closed : ∀ p, (u.session p).isOpen = false
  door : ∀ c, (s.door c).given = true → (s.door c).isPlatform = true → u.door c = (s.door c).withdrawn s.line.closeTimeout .closing
  bks : u.bks = s.bks
  ssv : u.ssv = s.ssv
  msu : u.msu = s.msu
  cfs : u.cfs = s.cfs
  load : u.adu.load = s.adu.load
  authority : u.rco.authority = s.rco.authority
  mode : u.rco.mode = s.rco.mode

theorem takeTrip_closing {t : Trip} {rest : List Trip} {s u : State} (failing : s.readiness.isSome = true)
    (rests : Rests (takeTrip t rest s) u) : Closing t rest s u := by
  have rco := rests.rco
  have calm := Calm.takeTrip t rest s
  have still := takeTrip_readiness t rest s
  have doors := takeTrip_door t rest s
  have closed := takeTrip_closed t rest s
  have bks := takeTrip_bks t rest s
  have ssv := (Settles.takeTrip t rest s).ssv
  have taken := takeTrip_rco t rest s
  generalize takeTrip t rest s = w at *
  have run : w.rco.runState = .closing := by rw [taken]
  rw [State.rested, if_pos run, still] at rco
  refine
    { run := by rw [rco]; exact run
      trip := by rw [rco]; simp [taken]
      queue := by rw [rco]; simp [taken]
      dwell := by rw [rco]; simp [taken]
      failing := by rw [rco]; exact failing
      closed := fun p => by rw [rests.session]; exact closed p
      door := fun c given platform => by rw [rests.door, doors, if_pos ⟨given, platform⟩]
      bks := rests.bks.trans bks
      ssv := rests.ssv.trans ssv
      msu := rests.msu.trans calm.msu
      cfs := rests.cfs.trans calm.cfs
      load := (congrArg Adu.load rests.adu).trans calm.load
      authority := by rw [rco]; simp [taken]
      mode := by rw [rco]; simp [taken] }

/-! ### The dwell (R67) -/

/-- Settles O31: the dwell over, `takeFrom_eq` finds the head, and `takeTrip_closing` says what CLOSING does with it. -/
theorem dwellExpiryTakesHead : Obligations.DwellExpiryTakesHead := by
  intro s loaded running run
  have step (t : State) (expiry : dwellExpiry s = t) (waits : t.waits = true) : exec .dwellTimerExpiry s = .next t.rested :=
    next_event dwellExpiry loaded (by rw [expiry]; exact waits) |>.trans (by rw [expiry])
  have expiry : dwellExpiry s = takeHead (s.withRco { s.rco with dwellTimer := none, dwellElapsed := true }) := if_pos running
  constructor
  · intro head rest mode failing queue
    have taken : dwellExpiry s = takeTrip head rest (s.withRco { s.rco with dwellTimer := none, dwellElapsed := true }) := by
      have may : (s.withRco { s.rco with dwellTimer := none, dwellElapsed := true }).mayTake = true := by
        rcases mode with mode | mode <;> simp [State.mayTake, State.withRco, mode, run]
      rw [expiry, takeHead, if_pos may, takeFrom_eq]
      simp only [State.withRco, queue]
    have still : (s.withRco { s.rco with dwellTimer := none, dwellElapsed := true }).readiness.isSome = true := failing
    generalize made : s.withRco { s.rco with dwellTimer := none, dwellElapsed := true } = v at taken still
    obtain ⟨closes, trip, queue, dwell, fails, closed, door, bks, ssv, msu, cfs, load, authority, mode⟩ :=
      takeTrip_closing still (Rests.rested (takeTrip head rest v))
    have done := step _ taken (takeTrip_waits _ _ _ still)
    generalize (takeTrip head rest v).rested = t at *
    subst made
    refine ⟨t, done, closes, trip, queue, dwell, fails, closed, fun c given platform => ?_, bks, ssv, msu, cfs, load, authority, mode⟩
    have door := door c given platform
    exact ⟨congrArg DoorRecord.release door, congrArg DoorRecord.token door, congrArg DoorRecord.lastWithdrawal door,
      congrArg DoorRecord.closeTimer door⟩
  · intro rests
    refine step _ ?_ (waits_of_run (by simp [State.withRco, run]))
    rw [expiry]
    rcases rests with empty | notPublic
    · unfold takeHead
      split
      · simp only [State.withRco, empty, takeFrom]
      · rfl
    · refine if_neg ?_
      intro may
      have mode := (LineMode.isPublic_iff _).mp (State.mayTake_rests may).1
      exact not_or.mpr notPublic mode

end Sys2Proof.Machine
end

section
/-! The square root of R87, the datum events (R49) and the parts of a sample event after its reads (R45 to R48). -/

namespace Sys2Proof.Machine

/-! ### The square root (00 section 3.2) -/

/-- The digits from `2 ^ k` down find the root of a number whose root lies below `r + 2 ^ (k + 1)`. -/
theorem isqrtFrom_bounds (n k r : Nat) (low : r * r ≤ n) (high : n < (r + 2 ^ (k + 1)) * (r + 2 ^ (k + 1))) :
    isqrtFrom n k r * isqrtFrom n k r ≤ n ∧ n < (isqrtFrom n k r + 1) * (isqrtFrom n k r + 1) := by
  induction k generalizing r with
  | zero =>
    unfold isqrtFrom
    split
    · rename_i more
      exact ⟨more, high⟩
    · rename_i done
      exact ⟨low, Nat.lt_of_not_le done⟩
  | succ k ih =>
    unfold isqrtFrom
    split
    · rename_i more
      refine ih _ more ?_
      have twice : r + 2 ^ (k + 1) + 2 ^ (k + 1) = r + 2 ^ (k + 1 + 1) := by rw [Nat.pow_succ 2 (k + 1)]; omega
      rw [twice]
      exact high
    · rename_i less
      exact ih _ low (Nat.lt_of_not_le less)

/-- isqrt(n) is the largest number whose square does not exceed n. -/
theorem isqrt_bounds (n : Nat) : isqrt n * isqrt n ≤ n ∧ n < (isqrt n + 1) * (isqrt n + 1) := by
  refine isqrtFrom_bounds n _ 0 (Nat.zero_le _) ?_
  rw [Nat.zero_add, ← Nat.pow_add]
  exact Nat.lt_of_lt_of_le Nat.lt_log2_self (Nat.pow_le_pow_right (by decide) (by omega))

theorem int_pow_two (x : Int) : x ^ 2 = x * x :=
  calc
    x ^ 2 = x ^ 1 * x := Int.pow_succ x 1
    _ = x ^ 0 * x * x := congrArg (· * x) (Int.pow_succ x 0)
    _ = x * x := congrArg (· * x) ((congrArg (· * x) (Int.pow_zero x)).trans (Int.one_mul x))

/-- Settles O19: `isqrt_bounds` at twice a_g times the distance left. -/
theorem targetCandidateIsGreatestSpeed : Obligations.TargetCandidateIsGreatestSpeed := by
  intro l aG toGo
  constructor
  · intro spent
    exact if_pos (by omega)
  · intro left
    have root : targetCandidate l aG toGo = isqrt (2 * aG * (toGo - l.mStop).toNat) := if_neg (by omega)
    obtain ⟨low, high⟩ := isqrt_bounds (2 * aG * (toGo - l.mStop).toNat)
    have distance : ((2 * aG * (toGo - l.mStop).toNat : Nat) : Int) = 2 * aG * (toGo - l.mStop) := by
      rw [Int.natCast_mul, Int.toNat_of_nonneg (by omega), Int.natCast_mul]
      rfl
    rw [root, ← distance, int_pow_two, int_pow_two]
    exact ⟨Int.ofNat_le.mpr low, Int.ofNat_lt.mpr high⟩

/-! ### Datum events (R49, R50) -/

section
variable {c : Channel} {datum tolerance : Int}

theorem judgeDatum_skipped (h : c.status = .failed ∨ c.ring = []) :
    c.judgeDatum datum tolerance = ({ c with lastDatum := .skipped }, .skipped) := by
  unfold Channel.judgeDatum
  split
  · rfl
  · exact if_pos h

theorem judgeDatum_corrected {p : Int} (failed : c.status ≠ .failed) (ring : c.ring ≠ []) (position : c.position = some p)
    (near : ((datum - p).natAbs : Int) ≤ tolerance) :
    c.judgeDatum datum tolerance =
      ({ c with
          offset := c.offset + (datum - p), position := some datum
          ring := c.ring.map (fun e => { e with position := e.position + (datum - p) })
          resynced := true, lastDatum := .corrected (datum - p) }, .corrected (datum - p)) := by
  have corrected : p + (datum - p) = datum := by omega
  simp only [Channel.judgeDatum, position, failed, ring, or_self, if_false, mag, if_pos near, corrected]

theorem judgeDatum_mismatch {p : Int} (failed : c.status ≠ .failed) (ring : c.ring ≠ []) (position : c.position = some p)
    (far : tolerance < ((datum - p).natAbs : Int)) :
    c.judgeDatum datum tolerance =
      ({ c with resynced := false, lastDatum := .mismatch (datum - p) }, .mismatch (datum - p)) := by
  simp only [Channel.judgeDatum, position, failed, ring, or_self, if_false, mag, if_neg (Int.not_le.mpr far)]

/-- The outcome of an edge stands in the channel (R49). -/
theorem judgeDatum_lastDatum : (c.judgeDatum datum tolerance).2 = (c.judgeDatum datum tolerance).1.lastDatum := by
  unfold Channel.judgeDatum
  split
  · rfl
  · split
    · rfl
    · split <;> rfl

end

/-- The measurement record after an edge of a present entry (R49, R50). -/
def State.datumJudged (s : State) (n : Fin 4) : Msu :=
  let x1 := s.msu.ch1.judgeDatum (s.datumEntry n).position s.line.datumTolerance
  let x2 := s.msu.ch2.judgeDatum (s.datumEntry n).position s.line.datumTolerance
  { s.msu with
    ch1 := x1.1, ch2 := x2.1
    datums := s.msu.datums.set n.val { edges := satInc 255 (s.msu.datums.get n).edges, outcome1 := x1.2, outcome2 := x2.2 } n.isLt }

theorem datumEvent_present {s : State} {n : Fin 4} (present : (s.datumEntry n).present = true) :
    datumEvent n s =
      if (s.msu.ch1.judgeDatum (s.datumEntry n).position s.line.datumTolerance).2.isMismatch ||
          (s.msu.ch2.judgeDatum (s.datumEntry n).position s.line.datumTolerance).2.isMismatch then
        raise .datumMismatch .service ((s.withMsu (s.datumJudged n)).setAttention .datumFault)
      else s.withMsu (s.datumJudged n) :=
  if_pos present

/-- A mismatch in either channel sets DATUM_FAULT and adds DATUM_MISMATCH (R49). -/
theorem datumEvent_mismatch {s : State} {n : Fin 4} (present : (s.datumEntry n).present = true)
    (far : (s.msu.ch1.judgeDatum (s.datumEntry n).position s.line.datumTolerance).2.isMismatch = true ∨
      (s.msu.ch2.judgeDatum (s.datumEntry n).position s.line.datumTolerance).2.isMismatch = true) :
    (endEvent (datumEvent n s)).attention .datumFault = true ∧
      holdsCause (endEvent (datumEvent n s)).bks.demand.causes .datumMismatch = true := by
  rw [datumEvent_present present, if_pos (by simpa using far)]
  exact ⟨(Calm.endEvent _).attention _ ((Calm.raise ..).attention _ (State.attention_setAttention_same ..)),
    (Persists.endEvent _).causes _ (holdsCause_raise ..)⟩

theorem datumEvent_msu {s : State} {n : Fin 4} (present : (s.datumEntry n).present = true) :
    (endEvent (datumEvent n s)).msu = s.datumJudged n := by
  rw [(Calm.endEvent _).msu, datumEvent_present present]
  split
  · exact (Calm.raise ..).msu
  · rfl

/-- Settles O21: `datumEvent_msu` gives the record, and the three lemmas of `judgeDatum` each channel's row of R49. -/
theorem datumEventJudgesChannels : Obligations.DatumEventJudgesChannels := by
  intro s n loaded
  refine ⟨endEvent (datumEvent n s), next_operating _ loaded, fun absent => ?_, fun present => ?_⟩
  · have none : datumEvent n s = s := if_neg (by simp [absent])
    rw [none]
    exact ⟨(Calm.endEvent s).msu, endEvent_of_waits⟩
  · have mismatch := datumEvent_mismatch present
    have msu := datumEvent_msu present
    generalize endEvent (datumEvent n s) = t at mismatch msu
    have both (x : Channel × Channel) (h : x = (s.msu.ch1, t.msu.ch1) ∨ x = (s.msu.ch2, t.msu.ch2)) :
        x.2 = (x.1.judgeDatum (s.datumEntry n).position s.line.datumTolerance).1 ∧
          ((x.1.judgeDatum (s.datumEntry n).position s.line.datumTolerance).2.isMismatch = true →
            t.attention .datumFault = true ∧ holdsCause t.bks.demand.causes .datumMismatch = true) := by
      rcases h with rfl | rfl
      · exact ⟨by rw [msu]; rfl, fun far => mismatch (.inl far)⟩
      · exact ⟨by rw [msu]; rfl, fun far => mismatch (.inr far)⟩
    refine ⟨fun x h => ?_, ?_, ?_, ?_⟩
    · obtain ⟨judged, handed⟩ := both x h
      refine ⟨fun skip => by rw [judged, judgeDatum_skipped skip], fun p failed ring position => ⟨fun near => ?_, fun far => ?_⟩⟩
      · rw [judged, judgeDatum_corrected failed ring position near]
      · have row := judgeDatum_mismatch (datum := (s.datumEntry n).position) (tolerance := s.line.datumTolerance) failed ring position far
        exact ⟨by rw [judged, row], handed (by rw [row]; rfl)⟩
    · rw [msu]
      simp [State.datumJudged, get_eq_getElem]
    · rw [msu]
      simp [State.datumJudged, judgeDatum_lastDatum, get_eq_getElem]
    · rw [msu]
      simp [State.datumJudged, judgeDatum_lastDatum, get_eq_getElem]

end Sys2Proof.Machine
end

section
/-! What a sample event does after its reads: the checks, the standstill timer, and what the rest of the event leaves (R45 to R48). -/

namespace Sys2Proof.Machine

/-! ### The causes of a record -/

/-- Each cause of the record stands in it after, at its level or above. -/
structure Mounts (s t : State) : Prop where
  causes : ∀ e ∈ s.bks.demand.causes, ∃ f ∈ t.bks.demand.causes, f.cause = e.cause ∧ e.level.rank ≤ f.level.rank

namespace Mounts

theorem of_demand {s t : State} (demand : t.bks.demand.causes = s.bks.demand.causes) : Mounts s t :=
  ⟨fun e mem => ⟨e, by rw [demand]; exact mem, rfl, Nat.le_refl _⟩⟩

theorem refl (s : State) : Mounts s s := .of_demand rfl

theorem trans {s t u : State} (a : Mounts s t) (b : Mounts t u) : Mounts s u where
  causes e mem := by
    obtain ⟨f, mem, same, rank⟩ := a.causes e mem
    obtain ⟨g, mem, same', rank'⟩ := b.causes f mem
    exact ⟨g, mem, same'.trans same, Nat.le_trans rank rank'⟩

theorem after {s t u : State} (b : Mounts t u) (a : Mounts s t) : Mounts s u := a.trans b

theorem ite {s a b : State} {c : Prop} [Decidable c] (ha : c → Mounts s a) (hb : ¬c → Mounts s b) : Mounts s (if c then a else b) := by
  split
  · exact ha ‹_›
  · exact hb ‹_›

theorem raise (c : Cause) (l : Level) (s : State) : Mounts s (raise c l s) := ⟨(raiseAs_yields .latch c l s).causes⟩

theorem raise_of_demand {s u : State} (c : Cause) (l : Level) (demand : u.bks.demand.causes = s.bks.demand.causes) :
    Mounts s (Machine.raise c l u) := .after (raise c l u) (.of_demand demand)

theorem testD1 (s : State) : Mounts s (testD1 s) :=
  .ite (fun _ => .ite (fun _ => raise_of_demand _ _ rfl) fun _ => .of_demand rfl) fun _ => .refl s

theorem startDeparture (k : Fin 6) (dir : Dir) (s : State) : Mounts s (startDeparture k dir s) := by
  unfold Machine.startDeparture startD1
  exact .after (.testD1 _) (.of_demand (by simp))

theorem readinessStage (n : Nat) (s : State) : Mounts s (readinessStage n s) := by
  induction n generalizing s with
  | zero => exact .refl s
  | succ n ih =>
    unfold Machine.readinessStage
    split
    · split
      · exact .after (ih _) (.after (startDeparture ..) (.of_demand rfl))
      · exact .of_demand rfl
    · exact .of_demand rfl

theorem endEvent (s : State) : Mounts s (endEvent s) := readinessStage 2 s

theorem takeAsked (l : Level) (s : State) : Mounts s (takeAsked l s) :=
  .ite (fun _ => .after (raise ..) (.of_demand rfl)) fun _ => .of_demand (by rw [setDemand_bks])

theorem superviseLine (s : State) : Mounts s (superviseLine s) := by
  have ceiling : Mounts s (takeCeiling (s.withSsv s.supervised)) := .ite (fun _ => .of_demand rfl) fun _ => .of_demand rfl
  have asked := ceiling.trans (takeAsked (takeCeiling (s.withSsv s.supervised)).ssv.asked _)
  exact .ite (fun _ => asked.trans (raise ..)) fun _ => asked

theorem retestArrival (s : State) : Mounts s (retestArrival s) := by
  refine .ite (fun _ => ?_) fun _ => .refl s
  split
  · exact .ite (fun _ => .of_demand (by rw [(Lowers.beginStop s).demand])) fun _ => .refl s
  · exact .refl s

theorem settleStandstill (s : State) : Mounts s (settleStandstill s) := by
  refine .ite (fun _ => .ite (fun _ => .of_demand rfl) fun _ => .refl s) fun _ => .ite (fun _ => ?_) fun _ => .of_demand rfl
  obtain ⟨esc, bks⟩ := loseStandstill_bks (s.withMsu { s.msu with standstillTimer := none })
  exact .of_demand (by rw [bks]; rfl)

theorem checkPositions (s : State) : Mounts s (checkPositions s) :=
  .ite (fun _ => .ite (fun _ => raise_of_demand _ _ rfl) fun _ => .of_demand rfl) fun _ => .refl s

theorem checkSpeeds (recomputed : Bool) (s : State) : Mounts s (checkSpeeds recomputed s) :=
  .ite (fun _ => .ite (fun _ => .ite (fun _ => raise_of_demand _ _ rfl) fun _ => .of_demand rfl) fun _ => .of_demand rfl)
    fun _ => .refl s

/-- A cause that stands at a level or above stands so after. -/
theorem entry {s t : State} (h : Mounts s t) {c : Cause} {n : Nat} (old : ∃ e ∈ s.bks.demand.causes, e.cause = c ∧ n ≤ e.level.rank) :
    ∃ e ∈ t.bks.demand.causes, e.cause = c ∧ n ≤ e.level.rank := by
  obtain ⟨e, mem, cause, rank⟩ := old
  obtain ⟨f, mem, same, rank'⟩ := h.causes e mem
  exact ⟨f, mem, same.trans cause, Nat.le_trans rank rank'⟩

end Mounts

/-! ### The checks (R45 to R47) -/

theorem raise_setAttention_effects (s : State) (i : Attention) (c : Cause) (l : Level) :
    (raise c l (s.setAttention i)).attention i = true ∧
      ∃ e ∈ (raise c l (s.setAttention i)).bks.demand.causes, e.cause = c ∧ l.rank ≤ e.level.rank :=
  ⟨(Calm.raise ..).attention _ (State.attention_setAttention_same ..), raiseAs_entry ..⟩

/-- The record after the range test (R47). -/
def Msu.ranged (m : Msu) (l : LineConsts) (good1 good2 : Bool) : Msu :=
  { m with
    ch1 := m.ch1.testRange l good1, ch2 := m.ch2.testRange l good2
    outOfRange := rangeFlag m.outOfRange good1 good2 (m.ch1.testRange l good1).inRange (m.ch2.testRange l good2).inRange }

theorem checkRange_msu (good1 good2 : Bool) (s : State) : (checkRange good1 good2 s).msu = s.msu.ranged s.line good1 good2 := by
  unfold checkRange
  dsimp only
  split
  · rw [raise_setAttention_msu]
    rfl
  · rfl

theorem checkRange_onset {good1 good2 : Bool} {s : State} (out : (s.msu.ranged s.line good1 good2).outOfRange = true)
    (before : s.msu.outOfRange = false) :
    (checkRange good1 good2 s).attention .positionRange = true ∧
      ∃ e ∈ (checkRange good1 good2 s).bks.demand.causes, e.cause = .overrun ∧ 3 ≤ e.level.rank := by
  have handed : checkRange good1 good2 s =
      raise .overrun .emergency ((s.withMsu (s.msu.ranged s.line good1 good2)).setAttention .positionRange) :=
    if_pos (by rw [Bool.and_eq_true]; exact ⟨out, by simp [before]⟩)
  rw [handed]
  exact raise_setAttention_effects ..

/-- The record after the comparison of the positions (R45). -/
def State.placed (s : State) : Msu := if s.msu.qualified then { s.msu with positionDisagree := s.positionsApart } else s.msu

theorem checkPositions_msu (s : State) : (checkPositions s).msu = s.placed := by
  unfold checkPositions State.placed
  split
  · dsimp only
    split
    · rw [raise_setAttention_msu]
      rfl
    · rfl
  · rfl

theorem checkPositions_onset {s : State} (qualified : s.msu.qualified = true) (apart : s.positionsApart = true)
    (before : s.msu.positionDisagree = false) :
    (checkPositions s).attention .channelDisagree = true ∧
      ∃ e ∈ (checkPositions s).bks.demand.causes, e.cause = .positionDisagree ∧ 2 ≤ e.level.rank := by
  have handed : checkPositions s =
      raise .positionDisagree .service ((s.withMsu { s.msu with positionDisagree := s.positionsApart }).setAttention .channelDisagree) :=
    (if_pos qualified).trans (if_pos (by rw [apart, before]; rfl))
  rw [handed]
  exact raise_setAttention_effects ..

/-- The record after the comparison of the speeds (R46). -/
def Msu.compared (m : Msu) (recomputed : Bool) : Msu :=
  { m with
    speedDisagree :=
      if m.qualified && recomputed then
        if speedsDisagree m.ch1.speed m.ch2.speed then satInc 3 m.speedDisagree else 0
      else m.speedDisagree }

theorem checkSpeeds_msu (recomputed : Bool) (s : State) : (checkSpeeds recomputed s).msu = s.msu.compared recomputed := by
  unfold checkSpeeds Msu.compared
  split
  · split
    · dsimp only
      split
      · rw [raise_setAttention_msu]
        rfl
      · rfl
    · rfl
  · rfl

theorem checkSpeeds_third {recomputed : Bool} {s : State} (compared : (s.msu.qualified && recomputed) = true)
    (apart : speedsDisagree s.msu.ch1.speed s.msu.ch2.speed = true) (third : satInc 3 s.msu.speedDisagree = 3) :
    (checkSpeeds recomputed s).attention .channelDisagree = true ∧
      ∃ e ∈ (checkSpeeds recomputed s).bks.demand.causes, e.cause = .speedDisagree ∧ 3 ≤ e.level.rank := by
  have handed : checkSpeeds recomputed s =
      raise .speedDisagree .emergency
        ((s.withMsu { s.msu with speedDisagree := satInc 3 s.msu.speedDisagree }).setAttention .channelDisagree) :=
    (if_pos compared).trans ((if_pos apart).trans (if_pos third))
  rw [handed]
  exact raise_setAttention_effects ..

/-- The record after the standstill timer is settled (R48). -/
def Msu.stilled (m : Msu) (l : LineConsts) : Msu :=
  if m.still then
    { m with standstillTimer := if m.standstill = false ∧ m.standstillTimer = none then some l.standstillTime else m.standstillTimer }
  else { m with standstill := false, standstillTimer := none }

theorem settleStandstill_msu (s : State) : (settleStandstill s).msu = s.msu.stilled s.line := by
  unfold settleStandstill Msu.stilled
  split
  · split
    · rename_i starts
      rw [if_pos (by simpa using starts)]
      rfl
    · rename_i stays
      rw [if_neg (by simpa using stays)]
  · dsimp only
    split
    · rw [loseStandstill_msu]
      rfl
    · rename_i moving
      simp [State.withMsu, Bool.eq_false_iff.mpr moving]

/-! ### The loss of standstill (R131) -/

theorem withdrawAll_given (w : WithdrawalCause) (s : State) (c : Car) : ((allCars.foldl (withdrawGiven w) s).door c).given = false := by
  refine Bool.eq_false_iff.mpr fun given => ?_
  obtain ⟨notB, given⟩ := withdrawGiven_given w _ .b c given
  obtain ⟨notA, -⟩ := withdrawGiven_given w _ .a c given
  cases c with
  | a => exact notA rfl
  | b => exact notB rfl

/-- The end of standstill confirmation takes every given release away. -/
theorem settleStandstill_given {s : State} (moving : s.msu.still = false) (stood : s.msu.standstill = true) (c : Car) :
    ((settleStandstill s).door c).given = false := by
  have lost : settleStandstill s = loseStandstill (s.withMsu { s.msu with standstillTimer := none }) :=
    (if_neg (by simp [moving])).trans (if_pos stood)
  rw [lost]
  exact withdrawAll_given ..

/-- While the line moves, nothing departs. -/
theorem waits_of_moving {s : State} (moving : s.msu.standstill = false) : s.waits = true := by
  have failing : s.readiness ≠ none := fun ready => by
    have := readiness_none ready .standstill
    simp [State.readyHolds, moving] at this
  simp [State.waits, Option.isSome_iff_ne_none.mpr failing]

theorem retestArrival_settles (s : State) : Settles s (retestArrival s) := by
  refine .ite (fun _ => ?_) fun _ => .refl s
  split
  · exact .ite (fun _ => .beginStop s) fun _ => .refl s
  · exact .refl s

theorem superviseLine_given {s : State} (moving : s.msu.standstill = false) (c : Car) (given : ((superviseLine s).door c).given = true) :
    (s.door c).given = true := by
  have ceiling : (takeCeiling (s.withSsv s.supervised)).msu = s.msu ∧ (takeCeiling (s.withSsv s.supervised)).dou = s.dou := by
    unfold takeCeiling
    split <;> exact ⟨rfl, rfl⟩
  have asked (l : Level) (t : State) (still : t.msu.standstill = false) :
      (takeAsked l t).msu = t.msu ∧ ∀ c, ((takeAsked l t).door c).given = true → (t.door c).given = true := by
    unfold takeAsked
    split
    · have yields := raiseAs_yields .latch .overspeed l (t.withBks { t.bks with demand := { t.bks.demand with caution := l == .caution } })
      exact ⟨yields.msu, yields.given still⟩
    · refine ⟨(Calm.setDemand ..).msu, fun c h => ?_⟩
      rwa [State.door, setDemand_dou] at h
  obtain ⟨msu, dou⟩ := ceiling
  unfold superviseLine at given
  dsimp only at given
  generalize takeCeiling (s.withSsv s.supervised) = u at msu dou given
  obtain ⟨sameMsu, doors⟩ := asked u.ssv.asked u (by rw [msu]; exact moving)
  have before : ((takeAsked u.ssv.asked u).door c).given = true := by
    split at given
    · exact (raiseAs_yields .latch .overrun .emergency (takeAsked u.ssv.asked u)).given (by rw [sameMsu, msu]; exact moving) c given
    · exact given
  have := doors c before
  rwa [State.door, dou] at this

/-! ### The rest of a sample event -/

theorem afterStandstill_msu (s : State) : (endEvent (superviseLine (retestArrival s))).msu = s.msu := by
  rw [(Calm.endEvent _).msu, superviseLine_msu, (Calm.retestArrival _).msu]

theorem afterStandstill_mounts (s : State) : Mounts s (endEvent (superviseLine (retestArrival s))) :=
  ((Mounts.retestArrival s).trans (.superviseLine _)).trans (.endEvent _)

theorem afterStandstill_given {s : State} (moving : s.msu.standstill = false) (c : Car) (lost : (s.door c).given = false) :
    ((endEvent (superviseLine (retestArrival s))).door c).given = false := by
  have arrival := retestArrival_settles s
  have still : (retestArrival s).msu.standstill = false := by rw [arrival.msu]; exact moving
  have ended : endEvent (superviseLine (retestArrival s)) = (superviseLine (retestArrival s)).rested :=
    endEvent_of_waits (waits_of_moving (by rw [superviseLine_msu]; exact still))
  refine Bool.eq_false_iff.mpr fun given => ?_
  rw [ended] at given
  have before := arrival.given moving c (superviseLine_given still c given)
  rw [lost] at before
  cases before

end Sys2Proof.Machine
end

section
/-! The sample event and standstill, the cross-checks and the range test (R45 to R48, R131). -/

namespace Sys2Proof.Machine

/-! ### What the reads leave -/

theorem takeRead_inRange (c : Channel) (zeroCount scale : Nat) (r : SensorRead) : (c.takeRead zeroCount scale r).inRange = c.inRange := by
  unfold Channel.takeRead
  split
  · rfl
  · unfold Channel.takeBad
    dsimp only
    split
    · rfl
    · split
      · rfl
      · unfold Channel.hold
        split <;> rfl

theorem settleSpeed_inRange (c : Channel) : c.settleSpeed.inRange = c.inRange := by
  obtain ⟨_, _, settled⟩ := c.settleSpeed_eq
  rw [settled]

/-- Steps 1 to 4 of a sample event leave what the checks and the standstill timer keep. -/
structure Msu.SameChecks (m n : Msu) : Prop where
  standstill : n.standstill = m.standstill
  timer : n.standstillTimer = m.standstillTimer
  positions : n.positionDisagree = m.positionDisagree
  speeds : n.speedDisagree = m.speedDisagree
  range : n.outOfRange = m.outOfRange
  inRange1 : n.ch1.inRange = m.ch1.inRange
  inRange2 : n.ch2.inRange = m.ch2.inRange

theorem Msu.supervise_eq (m : Msu) (a : Authority) : ∃ v d p, m.supervise a = { m with vMeas := v, motion := d, pSup := p } := by
  unfold Msu.supervise
  split
  · exact ⟨_, _, _, rfl⟩
  · exact ⟨m.vMeas, m.motion, m.pSup, rfl⟩

theorem settleValues_sameChecks (r1 r2 : SensorRead) (s : State) : s.msu.SameChecks (settleValues (takeReads r1 r2 s)).msu := by
  obtain ⟨v, d, p, supervised⟩ := (s.msu.withReads s.line r1 r2).supervise_eq (takeReads r1 r2 s).rco.authority
  rw [settleValues_msu, supervised]
  exact ⟨rfl, rfl, rfl, rfl, rfl, (settleSpeed_inRange _).trans (takeRead_inRange ..), (settleSpeed_inRange _).trans (takeRead_inRange ..)⟩

/-! ### The checks, field by field -/

/-- The speed is recomputed where the ring spans 80 ms between read entries (R41). -/
theorem recomputed_iff (c : Channel) : c.recomputed = c.spans.isSome := by
  rcases ring : c.ring with _ | ⟨e, rest⟩
  · simp [Channel.recomputed, Channel.spans, ring]
  · have newest : (e :: rest).getLast? = some ((e :: rest).getLast (by simp)) := List.getLast?_eq_some_getLast (by simp)
    generalize (e :: rest).getLast (by simp) = f at newest
    unfold Channel.recomputed Channel.spans
    simp only [ring, newest, List.head?_cons, Option.all_some, ringCapacity]
    split
    · rename_i full
      simpa [and_assoc] using full
    · rename_i short
      refine Bool.eq_false_iff.mpr fun h => short ?_
      simpa [and_assoc] using h

theorem testRange_of_bad (c : Channel) (l : LineConsts) {good : Bool} (bad : good = false) : c.testRange l good = c := by
  rw [bad]
  rfl

theorem testRange_of_good {c : Channel} (l : LineConsts) {good : Bool} {p : Int} (read : good = true) (position : c.position = some p) :
    (c.testRange l good).inRange = true ↔ -l.overrun ≤ p ∧ p ≤ l.length + l.overrun := by
  simp [Channel.testRange, read, position, measurable]

theorem positionsApart_iff {s : State} {p1 p2 : Int} (h1 : s.msu.ch1.position = some p1) (h2 : s.msu.ch2.position = some p2) :
    s.positionsApart = true ↔ s.line.positionTolerance < ((p1 - p2).natAbs : Int) := by
  simp only [State.positionsApart, h1, h2]
  exact decide_eq_true_iff

theorem speedsDisagree_iff (v1 v2 : Nat) : speedsDisagree v1 v2 = true ↔ max 150 (max v1 v2 / 16) < max v1 v2 - min v1 v2 :=
  decide_eq_true_iff

theorem still_iff (m : Msu) : m.still = true ↔ m.qualified = true ∧ m.ch1.speed ≤ 20 ∧ m.ch2.speed ≤ 20 := by
  simp [Msu.still, and_assoc]

/-! ### The checks, together -/

/-- What the checks and the standstill timer make of the settled values `v`, and what stands of it at the event's end. -/
structure Checked (good1 good2 both : Bool) (v t : State) : Prop where
  ch1 : t.msu.ch1 = v.msu.ch1.testRange v.line good1
  ch2 : t.msu.ch2 = v.msu.ch2.testRange v.line good2
  qualified : t.msu.qualified = v.msu.qualified
  stands : v.msu.still = true → t.msu.standstill = v.msu.standstill ∧
    t.msu.standstillTimer =
      if v.msu.standstill = false ∧ v.msu.standstillTimer = none then some v.line.standstillTime else v.msu.standstillTimer
  moves : v.msu.still = false → t.msu.standstill = false ∧ t.msu.standstillTimer = none ∧
    (v.msu.standstill = true → ∀ c, (t.door c).given = false)
  positions : v.msu.qualified = true → t.msu.positionDisagree = v.positionsApart
  positionsOnset : v.msu.qualified = true → v.positionsApart = true → v.msu.positionDisagree = false →
    t.attention .channelDisagree = true ∧ holdsCause t.bks.demand.causes .positionDisagree = true
  speeds : t.msu.speedDisagree = (v.msu.compared both).speedDisagree
  speedsThird : (v.msu.qualified && both) = true → speedsDisagree v.msu.ch1.speed v.msu.ch2.speed = true →
    satInc 3 v.msu.speedDisagree = 3 →
    t.attention .channelDisagree = true ∧ ∃ e ∈ t.bks.demand.causes, e.cause = .speedDisagree ∧ 3 ≤ e.level.rank
  range : t.msu.outOfRange = (v.msu.ranged v.line good1 good2).outOfRange
  rangeOnset : (v.msu.ranged v.line good1 good2).outOfRange = true → v.msu.outOfRange = false →
    t.attention .positionRange = true ∧ ∃ e ∈ t.bks.demand.causes, e.cause = .overrun ∧ 3 ≤ e.level.rank

theorem testRange_speed (c : Channel) (l : LineConsts) (good : Bool) : (c.testRange l good).speed = c.speed := by
  obtain ⟨_, tested⟩ := c.testRange_eq l good
  rw [tested]

theorem testRange_position (c : Channel) (l : LineConsts) (good : Bool) : (c.testRange l good).position = c.position := by
  obtain ⟨_, tested⟩ := c.testRange_eq l good
  rw [tested]

theorem stilled_eq (m : Msu) (l : LineConsts) : ∃ b timer, m.stilled l = { m with standstill := b, standstillTimer := timer } := by
  unfold Msu.stilled
  split
  · exact ⟨m.standstill, _, rfl⟩
  · exact ⟨_, _, rfl⟩

theorem placed_eq (s : State) : ∃ b, s.placed = { s.msu with positionDisagree := b } := by
  unfold State.placed
  split
  · exact ⟨_, rfl⟩
  · exact ⟨s.msu.positionDisagree, rfl⟩

theorem checked (good1 good2 both : Bool) (v : State) :
    Checked good1 good2 both v
      (endEvent (superviseLine (retestArrival (settleStandstill (checkSpeeds both (checkPositions (checkRange good1 good2 v))))))) := by
  have calmA := KeepsReads.checkRange good1 good2 v
  have msuA := checkRange_msu good1 good2 v
  have onsetA := checkRange_onset (s := v) (good1 := good1) (good2 := good2)
  generalize checkRange good1 good2 v = a at *
  have lineA : a.line = v.line := congrArg (fun k => k.tables.line) calmA.cfs
  have calmB := KeepsReads.checkPositions a
  have msuB := checkPositions_msu a
  have onsetB := checkPositions_onset (s := a)
  have mountsB := Mounts.checkPositions a
  generalize checkPositions a = b at *
  have calmC := KeepsReads.checkSpeeds both b
  have msuC := checkSpeeds_msu both b
  have thirdC := checkSpeeds_third (s := b) (recomputed := both)
  have mountsC := Mounts.checkSpeeds both b
  generalize checkSpeeds both b = c at *
  have calmD := KeepsReads.settleStandstill c
  have msuD := settleStandstill_msu c
  have givenD := settleStandstill_given (s := c)
  have mountsD := Mounts.settleStandstill c
  generalize settleStandstill c = d at *
  have lineC : c.line = v.line := congrArg (fun k => k.tables.line) (calmC.cfs.trans (calmB.cfs.trans calmA.cfs))
  have msu := afterStandstill_msu d
  have mounts := afterStandstill_mounts d
  have given := afterStandstill_given (s := d)
  have calm : KeepsReads d (endEvent (superviseLine (retestArrival d))) :=
    (KeepsReads.of_calm (.retestArrival _) (.retestArrival _)).trans ((KeepsReads.superviseLine _).trans (.of_calm (.endEvent _) (.endEvent _)))
  generalize endEvent (superviseLine (retestArrival d)) = t at *
  obtain ⟨stood, timer, stilled⟩ := stilled_eq c.msu c.line
  replace stilled := msuD.trans stilled
  obtain ⟨apart, placed⟩ := placed_eq a
  have still : c.msu.still = v.msu.still := by
    simp only [msuC, msuB, placed, msuA, Msu.compared, Msu.ranged, Msu.still, testRange_speed]
  have stood : c.msu.standstill = v.msu.standstill ∧ c.msu.standstillTimer = v.msu.standstillTimer := by
    simp only [msuC, msuB, placed, msuA, Msu.compared, Msu.ranged, and_self]
  have apartA : a.positionsApart = v.positionsApart := by
    simp only [State.positionsApart, lineA, msuA, Msu.ranged, testRange_position]
  obtain ⟨stood, ran⟩ := stood
  exact
    { ch1 := by simp only [msu, stilled, msuC, msuB, placed, msuA, Msu.compared, Msu.ranged]
      ch2 := by simp only [msu, stilled, msuC, msuB, placed, msuA, Msu.compared, Msu.ranged]
      qualified := by simp only [msu, stilled, msuC, msuB, placed, msuA, Msu.compared, Msu.ranged]
      stands := fun h => by
        rw [msu, msuD, Msu.stilled, if_pos (still.trans h), lineC, stood, ran]
        exact ⟨rfl, rfl⟩
      moves := fun h => by
        have moving : c.msu.still = false := still.trans h
        have lost : d.msu.standstill = false ∧ d.msu.standstillTimer = none := by
          rw [msuD, Msu.stilled, if_neg (by simp [moving])]
          exact ⟨rfl, rfl⟩
        rw [msu]
        exact ⟨lost.1, lost.2, fun before car => given lost.1 car (givenD moving (stood.trans before) car)⟩
      positions := fun h => by
        have qualified : a.msu.qualified = true := by rw [msuA]; exact h
        rw [← apartA, msu, stilled, msuC]
        simp only [Msu.compared, msuB, State.placed, if_pos qualified]
      positionsOnset := fun h disagree before => by
        have qualified : a.msu.qualified = true := by rw [msuA]; exact h
        obtain ⟨item, cause⟩ := onsetB qualified (apartA.trans disagree) (by rw [msuA]; exact before)
        exact ⟨calm.attention _ (calmD.attention _ (calmC.attention _ item)),
          holdsCause_of_entry (mounts.entry (mountsD.entry (mountsC.entry cause)))⟩
      speeds := by simp only [msu, stilled, msuC, msuB, placed, msuA, Msu.compared, Msu.ranged, testRange_speed]
      speedsThird := fun compared disagree third => by
        obtain ⟨item, cause⟩ := thirdC
          (by simp only [msuB, placed, msuA, Msu.ranged]; exact compared)
          (by simp only [msuB, placed, msuA, Msu.ranged, testRange_speed]; exact disagree)
          (by simp only [msuB, placed, msuA, Msu.ranged]; exact third)
        exact ⟨calm.attention _ (calmD.attention _ item), mounts.entry (mountsD.entry cause)⟩
      range := by simp only [msu, stilled, msuC, msuB, placed, msuA, Msu.compared]
      rangeOnset := fun out before => by
        obtain ⟨item, cause⟩ := onsetA out before
        exact ⟨calm.attention _ (calmD.attention _ (calmC.attention _ (calmB.attention _ item))),
          mounts.entry (mountsD.entry (mountsC.entry (mountsB.entry cause)))⟩ }

/-! ### The sample event -/

/-- Settles O17: `checked` gives the record and the onsets; the four `_iff` lemmas read its tests as R45 to R48 state them. -/
theorem sampleEventSettlesStandstill : Obligations.SampleEventSettlesStandstill := by
  intro s r1 r2 loaded timed lawful
  refine ⟨_, exec_sampleEvent loaded timed, ?_⟩
  have disagree : s.msu.speedDisagree ≤ 3 := by
    simp only [Msu.lawful, Bool.and_eq_true, decide_eq_true_eq] at lawful
    exact lawful.2
  have kept : s.msu.SameChecks (settleValues (takeReads r1 r2 s.restartSample)).msu := by
    obtain ⟨h1, h2, h3, h4, h5, h6, h7⟩ := settleValues_sameChecks r1 r2 s.restartSample
    exact ⟨h1, h2, h3, h4, h5, h6, h7⟩
  have cfs : (settleValues (takeReads r1 r2 s.restartSample)).cfs = s.cfs := (takeReads_calm r1 r2 s.restartSample).cfs
  unfold measure checkChannels
  generalize settleValues (takeReads r1 r2 s.restartSample) = v at kept cfs ⊢
  have checked := checked (goodRead r1) (goodRead r2) (v.msu.ch1.spans.isSome && v.msu.ch2.spans.isSome) v
  generalize endEvent (superviseLine (retestArrival (settleStandstill (checkSpeeds (v.msu.ch1.spans.isSome && v.msu.ch2.spans.isSome)
    (checkPositions (checkRange (goodRead r1) (goodRead r2) v)))))) = t at checked ⊢
  have line : v.line = s.line := congrArg (fun k => k.tables.line) cfs
  have speed1 : t.msu.ch1.speed = v.msu.ch1.speed := by rw [checked.ch1, testRange_speed]
  have speed2 : t.msu.ch2.speed = v.msu.ch2.speed := by rw [checked.ch2, testRange_speed]
  have still := still_iff v.msu
  refine ⟨?_, fun p1 p2 qualified position1 position2 => ?_, ?_, fun x h => ?_, ?_, ?_⟩
  · rw [checked.qualified, speed1, speed2, ← kept.standstill, ← kept.timer, ← line]
    split
    · rename_i h
      exact checked.stands (still.mpr h)
    · rename_i h
      exact checked.moves (Bool.eq_false_iff.mpr fun stands => h (still.mp stands))
  · rw [checked.qualified] at qualified
    rw [checked.ch1, testRange_position] at position1
    rw [checked.ch2, testRange_position] at position2
    rw [checked.positions qualified, ← line]
    exact ⟨positionsApart_iff position1 position2, fun apart before => checked.positionsOnset qualified apart (kept.positions.trans before)⟩
  · intro apart compared
    have both : compared ↔ (v.msu.qualified && (v.msu.ch1.spans.isSome && v.msu.ch2.spans.isSome)) = true := by
      have recomputed (c : Channel) (good : Bool) : (c.testRange v.line good).recomputed = c.spans.isSome := by
        obtain ⟨_, tested⟩ := c.testRange_eq v.line good
        rw [tested, ← recomputed_iff]
        rfl
      simp only [compared, checked.ch1, checked.ch2, checked.qualified, recomputed, Bool.and_eq_true]
    have far : apart ↔ speedsDisagree v.msu.ch1.speed v.msu.ch2.speed = true := by
      simp only [apart, speed1, speed2, speedsDisagree_iff]
    have counted := checked.speeds
    rw [Msu.compared, satInc_eq_min (kept.speeds ▸ disagree), kept.speeds] at counted
    dsimp only at counted
    constructor
    · rw [counted]
      by_cases same : compared
      · rw [if_pos (both.mp same), if_neg (not_not_intro same)]
        simp only [far]
      · rw [if_neg (fun h => same (both.mpr h)), if_pos same]
    · intro same disagrees third
      refine checked.speedsThird (both.mp same) (far.mp disagrees) ?_
      rw [counted, if_pos (both.mp same), if_pos (far.mp disagrees)] at third
      rw [satInc_eq_min (kept.speeds ▸ disagree), kept.speeds]
      exact third
  · have tested (c c' : Channel) (good : Bool) (after : c' = c.testRange v.line good) :
        (good = false → c'.inRange = c.inRange) ∧
          ∀ p : Int, good = true → c'.position = some p → (c'.inRange = true ↔ -s.line.overrun ≤ p ∧ p ≤ s.line.length + s.line.overrun) := by
      refine ⟨fun bad => by rw [after, testRange_of_bad _ _ bad], fun p read position => ?_⟩
      rw [after, testRange_position] at position
      rw [after, ← line]
      exact testRange_of_good _ read position
    rcases h with rfl | rfl
    · have := tested _ _ _ checked.ch1
      exact ⟨fun bad => (this.1 bad).trans kept.inRange1, this.2⟩
    · have := tested _ _ _ checked.ch2
      exact ⟨fun bad => (this.1 bad).trans kept.inRange2, this.2⟩
  · rw [checked.range, ← kept.range, checked.ch1, checked.ch2]
    simp only [Msu.ranged, rangeFlag, Bool.and_eq_true, Bool.or_eq_true, Bool.not_eq_true', and_assoc]
  · intro out before
    rw [checked.range] at out
    exact checked.rangeOnset out (kept.range.trans before)

end Sys2Proof.Machine
end

section
/-! BRAKE RESET (R30, R111). -/

namespace Sys2Proof.Machine

theorem setDemand_att (d : Demand) (s : State) : (setDemand d s).att = s.att := by
  unfold setDemand
  split
  · rfl
  · rw [handNotice_att]
    rfl

theorem takeHead_of_empty {s : State} (empty : s.rco.queue = []) : takeHead s = s := by
  have none : s.withRco { s.rco with queue := [] } = s := by rw [← empty]; rfl
  unfold takeHead
  rw [empty]
  split
  · exact none
  · rfl

/-- The record cleared (R111). -/
def State.brakeCleared (s : State) : State := setDemand s.bks.demand.cleared (s.withBks { s.bks with esc := Escalation.reset })

/-- A BRAKE RESET with no head to take clears the record, and may change the mode (R30, R111). -/
theorem takeBrakeReset_eq {s : State} (unqueued : s.rco.queue = [] ∨ s.rco.mode ≠ .service) :
    takeBrakeReset s = if s.toRecovery then changeMode .recovery .brakeReset [] s.brakeCleared else s.brakeCleared := by
  unfold takeBrakeReset
  split
  · rename_i recovers
    simp only [State.toRecovery, Bool.and_eq_true, beq_iff_eq] at recovers
    refine takeHead_of_empty ?_
    rw [changeMode_rco]
    have queue := unqueued.resolve_right (not_not_intro recovers.1.1)
    simpa using queue
  · rfl

theorem toRecovery_iff (s : State) : s.toRecovery = true ↔
    s.rco.mode = .service ∧ (s.rco.runState = .atStop ∨ s.rco.runState = .offStop) ∧
      (s.windowTest = none ∨ holdsCause s.bks.demand.causes .positionDisagree = true ∨
        holdsCause s.bks.demand.causes .datumMismatch = true) := by
  simp [State.toRecovery, and_assoc, or_assoc]

/-- Settles O23: refused, nothing changes; taken, `takeBrakeReset_eq` gives the state. -/
theorem brakeResetClearsTheRecord : Obligations.BrakeResetClearsTheRecord := by
  intro s taken
  let begun := s.withAnswering (some .con)
  have row : Instr.request .brakeReset = some (.con, .command .brakeReset) := rfl
  constructor
  · intro waits
    refine ⟨fun moving => ?_, fun stands busy => ?_, fun c stands idle present => ?_⟩
    · exact exec_refused row taken waits (if_pos (by simp [moving]))
    · exact exec_refused row taken waits ((if_neg (by simp [stands])).trans (if_pos busy))
    · refine exec_refused row taken waits ((if_neg (by simp [stands])).trans ((if_neg (not_not_intro idle)).trans ?_))
      have same : begun.firstPresent = some c := present
      rw [same]
      rfl
  · intro stands idle absent run unqueued
    have decided : decideBrakeReset begun = accept (takeBrakeReset begun) := by
      have stood : begun.msu.standstill = true := stands
      refine (if_neg (by simp [stood])).trans ((if_neg (not_not_intro idle)).trans ?_)
      have same : begun.firstPresent = none := absent
      rw [same]
    rw [takeBrakeReset_eq (s := begun) unqueued] at decided
    have recovers : begun.toRecovery = true ↔ _ := toRecovery_iff s
    have bks : begun.brakeCleared.bks = { s.bks with demand := s.bks.demand.cleared, esc := Escalation.reset } := by
      rw [State.brakeCleared, setDemand_bks]
      rfl
    have calm : Calm begun begun.brakeCleared := .after (.setDemand ..) (.withBks _ _ rfl rfl)
    have rco : begun.brakeCleared.rco = s.rco := setDemand_rco ..
    have dou : begun.brakeCleared.dou = s.dou := setDemand_dou ..
    have adu : begun.brakeCleared.adu = s.adu := setDemand_adu ..
    have att : begun.brakeCleared.att = s.att := setDemand_att ..
    generalize begun.brakeCleared = w at decided bks calm rco dou adu att
    let t := if begun.toRecovery then changeMode .recovery .brakeReset [] w else w
    have same : t.bks = w.bks ∧ t.cfs = w.cfs ∧ t.msu = w.msu ∧ t.dou = w.dou ∧ t.adu = w.adu ∧ t.att = w.att := by
      dsimp only [t]
      split <;> exact ⟨rfl, rfl, rfl, rfl, rfl, rfl⟩
    have changed : t.rco = if begun.toRecovery then
        { s.rco with
          mode := .recovery
          modeChange := { previous := s.rco.mode, new := .recovery, cause := .brakeReset, cancelled := [] } }
      else s.rco := by
      dsimp only [t]
      split
      · rw [changeMode_rco, rco]
      · exact rco
    have rests : t.rco.runState = s.rco.runState := by rw [changed]; split <;> rfl
    obtain ⟨u, next, rested, reply⟩ := exec_decided (t := t) row taken decided (waits_of_run (by rw [rests]; exact run))
    obtain ⟨tbks, tcfs, tmsu, tdou, tadu, tatt⟩ := same
    refine ⟨u, next, rested.bks.trans (tbks.trans bks), ?_, rested.cfs.trans (tcfs.trans calm.cfs), rested.msu.trans (tmsu.trans calm.msu),
      rested.dou.trans (tdou.trans dou), rested.adu.trans (tadu.trans adu), rested.att.trans (tatt.trans att), ?_⟩
    · rw [rested.rco, State.rested, if_neg (by rw [rests]; exact run)]
      change { t.rco with firstFailing := none } = _
      rw [changed]
      by_cases off : begun.toRecovery = true
      · have conditions := recovers.mp off
        have service : s.rco.mode = .service := conditions.1
        rw [if_pos off, if_pos conditions, service]
      · rw [if_neg off, if_neg fun h => off (recovers.mpr h)]
    · rw [reply, attentionSummary_of_att (rested.att.trans (tatt.trans att))]
      rfl

end Sys2Proof.Machine
end

section
/-! The steps of a departure (R113 to R117). -/

namespace Sys2Proof.Machine

/-! ### The reports of a car -/

theorem portCar_port (c : Car) : portCar c.port = c := by cases c <;> rfl

theorem takeWeigh_attention (c : Car) (w : Option Nat) (s : State) (i : Attention) (h : s.attention i = true) :
    (takeWeigh c w s).attention i = true := evaluateLoad_attention _ _ _ h

/-- A report of a car that is shut and has no release: what it says of the rail brake (R125, R136). -/
def State.railReported (s : State) (c : Car) (rail : RailCond) : State :=
  if rail = .fault ∧ (s.door c).rail ≠ .fault then (takeFields c .closedLocked (some 0) rail false s).setAttention .railFault
  else takeFields c .closedLocked (some 0) rail false s

theorem railReported_door (s : State) (c : Car) (rail : RailCond) (e : Car) :
    (s.railReported c rail).door e =
      if e = c then { s.door c with door := .closedLocked, heldToken := 0, rail := rail, carFault := false } else s.door e := by
  unfold State.railReported takeFields
  split
  · exact withDoor_door ..
  · exact withDoor_door ..

theorem railReported_same (s : State) (c : Car) (rail : RailCond) :
    (s.railReported c rail).bks = s.bks ∧ (s.railReported c rail).rco = s.rco ∧ (s.railReported c rail).msu = s.msu ∧
      (s.railReported c rail).cfs = s.cfs := by
  unfold State.railReported
  split <;> exact ⟨rfl, rfl, rfl, rfl⟩

/-- A report of a shut car without a release asks for the test of D1 and no more (R125). -/
theorem takeCarReport_shut {c : Car} {rail : RailCond} {s : State} (free : (s.door c).release = .none) :
    takeCarReport c .closedLocked (some 0) rail false s = testD1 (s.railReported c rail) := by
  have door : (takeFields c .closedLocked (some 0) rail false s).door c =
      { s.door c with door := .closedLocked, heldToken := 0, rail := rail, carFault := false } :=
    (withDoor_door ..).trans (if_pos rfl)
  have judged : judgeToken c (some 0) (takeFields c .closedLocked (some 0) rail false s) = takeFields c .closedLocked (some 0) rail false s := by
    unfold judgeToken
    simp only [door, free, if_true]
  unfold takeCarReport State.railReported
  rw [judged]
  generalize takeFields c .closedLocked (some 0) rail false s = u at door
  have shut : doorsInDeparture c (doorsWhileGranted c u) = u := by
    have granted : doorsWhileGranted c u = u := if_neg (by simp [door, free])
    rw [granted]
    exact if_pos (by rw [door])
  simp only [shut, door, DoorRecord.unreleased, free, dealOpening, Bool.false_and]
  rfl

/-- A cause that raises an unlatched line's level to EMERGENCY restrains it (R100). -/
theorem raiseAs_restrains {a : AbortCause} {c : Cause} {l : Level} {s : State} (hl : 3 ≤ l.rank) (free : s.bks.demand.latched = .none) :
    (raiseAs a c l s).bks.sbDmd = true ∧ (raiseAs a c l s).bks.ebHold = false := by
  have brakes : s.bks.demand.latched.brakes = false := by rw [free]; rfl
  have law : Restrained s.bks :=
    ⟨fun _ => brakes, fun _ => by rw [free]; decide, fun h => by rw [brakes] at h; cases h⟩
  have high := raiseAs_restrained a c ((Level.brakes_iff l).mpr (by omega)) law
  have latched := raiseAs_latched a c l s
  refine ⟨high.demanded ((Level.brakes_iff _).mpr (by omega)), Bool.eq_false_iff.mpr fun hold => ?_⟩
  exact absurd (high.hold hold) (by omega)

/-! ### Step D1 (R113, R114) -/

theorem RailCond.ofByte_lifted (b : Byte) : RailCond.ofByte b = .lifted ↔ b = 1 := by
  constructor
  · intro h
    unfold RailCond.ofByte at h
    split at h
    · cases h
    · rename_i one
      exact BitVec.eq_of_toNat_eq one
    · cases h
  · rintro rfl
    rfl

theorem testD1_waiting {s : State} (waits : (s.door .a).rail ≠ .lifted ∨ (s.door .b).rail ≠ .lifted) : testD1 s = s :=
  if_neg fun h => waits.elim (fun a => a h.2.1) fun b => b h.2.2

theorem testD1_lifted {s : State} (slot : s.bks.slot = .departure .d1) (lifted : ∀ c, (s.door c).rail = .lifted) : testD1 s = startD2 s := if_pos ⟨slot, lifted .a, lifted .b⟩

theorem startD2_awaits {s : State} (fallen : s.bks.eblRisen = false) :
    startD2 s =
      s.withBks { s.bks with
        slot := .departure .d2, ebHold := true, stepTimer := some { which := .ebLift, remaining := 2000 } } :=
  if_neg (c := s.bks.eblRisen = true) (by simp [fallen])

/-- EBL risen before EB-HOLD is energized: an EB_FAULT, which aborts the departure in D2 (R114). -/
theorem startD2_faults {s : State} (risen : s.bks.eblRisen = true) (run : s.rco.runState = .departing) (free : s.bks.demand.latched = .none) :
    Aborted .latch .d2 (startD2 s) ∧ (startD2 s).bks.sbDmd = true ∧ (startD2 s).bks.ebHold = false ∧
      (startD2 s).attention .ebConfirm = true ∧
      (∃ e ∈ (startD2 s).bks.demand.causes, e.cause = .ebFault ∧ 3 ≤ e.level.rank) ∧ (startD2 s).bks.demand.latched ≠ .none := by
  have faulted : startD2 s = raiseEbFault (setStepTimer none (setSlot (.departure .d2) s)) := if_pos (c := s.bks.eblRisen = true) risen
  rw [faulted]
  obtain ⟨attention, entry, -⟩ := raiseEbFault_effects (setStepTimer none (setSlot (.departure .d2) s))
  have unlatched : ((setStepTimer none (setSlot (.departure .d2) s)).setAttention .ebConfirm).bks.demand.latched = .none := free
  obtain ⟨demanded, released⟩ := raiseAs_restrains (a := .latch) (c := .ebFault) (l := .emergency) (by decide) unlatched
  have aborted : Aborted .latch .d2
      (raiseAs .latch .ebFault .emergency ((setStepTimer none (setSlot (.departure .d2) s)).setAttention .ebConfirm)) :=
    raiseAs_aborts (by decide) rfl run (by rw [unlatched]; decide)
  exact ⟨aborted, demanded, released, attention, entry,
    latched_ne_none (Nat.le_trans (by decide) (raiseAs_latched .latch .ebFault .emergency _))⟩

/-! ### Step D2 (R114, R131) -/

theorem withdrawGiven_door (w : WithdrawalCause) (s : State) (c e : Car) :
    (withdrawGiven w s c).door e =
      if e = c ∧ (s.door c).given = true then (s.door c).withdrawn s.line.closeTimeout w else s.door e := by
  unfold withdrawGiven
  by_cases given : (s.door c).given = true
  · rw [if_pos given]
    obtain ⟨own, others⟩ := door_of_dou_set (withdraw_dou c w s)
    by_cases same : e = c
    · rw [if_pos ⟨same, given⟩, same, own]
    · rw [if_neg (fun h => same h.1), others e same]
  · rw [if_neg given, if_neg (fun h => given h.2)]

/-- Each car's given release is withdrawn, and nothing else of the doors changes. -/
theorem withdrawAll_door (w : WithdrawalCause) (s : State) (c : Car) :
    (allCars.foldl (withdrawGiven w) s).door c =
      if (s.door c).given = true then (s.door c).withdrawn s.line.closeTimeout w else s.door c := by
  have both : allCars.foldl (withdrawGiven w) s = withdrawGiven w (withdrawGiven w s .a) .b := rfl
  have line : (withdrawGiven w s .a).line = s.line := congrArg (fun k => k.tables.line) (Calm.withdrawGiven w s .a).cfs
  have first (e : Car) := withdrawGiven_door w s .a e
  rw [both, withdrawGiven_door, line]
  cases c with
  | a => rw [if_neg (fun h => absurd h.1 (by decide)), first .a]; simp
  | b =>
    have other : (withdrawGiven w s .a).door .b = s.door .b := by rw [first .b, if_neg (fun h => absurd h.1 (by decide))]
    rw [other]
    simp

theorem startD3_bks (s : State) :
    (startD3 s).bks = { s.bks with slot := .departure .d3, stepTimer := some { which := .torqueProve, remaining := 3000 } } := by
  unfold startD3
  simp [foldl_withdrawGiven_bks]
  rfl

theorem setAuthority_ssv (a : Authority) (s : State) : (setAuthority a s).ssv = s.ssv := by
  unfold setAuthority
  split
  · rfl
  · exact (Settles.handNotice _ _).ssv

theorem startD3_ssv (s : State) : (startD3 s).ssv = s.ssv := by
  have withdrawn (u : State) : (allCars.foldl (withdrawGiven .prove) u).ssv = u.ssv :=
    (Settles.foldl (fun u c => .ite (fun _ => .withdraw c .prove u) fun _ => .refl u) allCars u).ssv
  exact (withdrawn _).trans (setAuthority_ssv { s.rco.authority with state := .prove } (setSlot (.departure .d3) s))

theorem startD3_door (s : State) (c : Car) :
    (startD3 s).door c = if (s.door c).given = true then (s.door c).withdrawn s.line.closeTimeout .prove else s.door c := by
  have dou : (setAuthority { s.rco.authority with state := .prove } (setSlot (.departure .d3) s)).dou = s.dou := by simp
  have line : (setAuthority { s.rco.authority with state := .prove } (setSlot (.departure .d3) s)).line = s.line :=
    congrArg (fun k => k.tables.line) (Calm.after (.setAuthority ..) (Calm.setSlot (.departure .d3) s)).cfs
  refine (withdrawAll_door .prove (setAuthority { s.rco.authority with state := .prove } (setSlot (.departure .d3) s)) c).trans ?_
  rw [line, State.door, dou]
  rfl

/-! ### Steps D3 and D4 (R115, R116) -/

theorem startD4_effects (s : State) :
    (startD4 s).bks =
        { s.bks with
          slot := .departure .d4, sbDmd := false, sbConfirmed := false
          stepTimer := some { which := .sbLift, remaining := 1000 } } ∧
      (startD4 s).rco = s.rco := ⟨rfl, rfl⟩

theorem grantAuthority_effects (s : State) :
    (grantAuthority s).bks = { s.bks with slot := .idle, stepTimer := none, lastDeparture := .completed } ∧
      (grantAuthority s).rco.jogTimer = (if s.rco.jogRun then some 400 else s.rco.jogTimer) ∧
      ∀ p, ((grantAuthority s).session p).served = none ∧ ((grantAuthority s).session p).stop = none := by
  unfold grantAuthority
  refine ⟨by simp, ?_, fun p => ?_⟩
  · simp
    rfl
  · simp [clearServed, State.session]

/-! ### A report of the drive (R56, R103) -/

/-- The report taken, and SB confirmed with it (R56, R103). -/
def State.driveReported (s : State) (r : DriveReport) : State := followSb r.sb (s.withRco { s.rco with driveReport := some r })

theorem takeDriveReport_eq (r : DriveReport) (s : State) :
    takeDriveReport r s =
      if r.state = .fault ∧ s.live = true then raise .drive .service (driveStep r (s.driveReported r)) else driveStep r (s.driveReported r) := rfl

theorem followSb_bks (sb : SbCondition) (s : State) :
    (followSb sb s).bks = { s.bks with sbConfirmed := if s.bks.sbDmd then sb == .applied else s.bks.sbConfirmed } := by
  unfold followSb
  by_cases demanded : s.bks.sbDmd = true
  · rw [if_pos demanded, if_pos demanded]
    rfl
  · rw [if_neg demanded, if_neg demanded]

section
variable (s : State) (r : DriveReport)

theorem driveReported_bks :
    (s.driveReported r).bks =
      { s.bks with sbConfirmed := if s.bks.sbDmd then r.sb == .applied else s.bks.sbConfirmed } := followSb_bks ..

theorem driveReported_rco : (s.driveReported r).rco = { s.rco with driveReport := some r } := by
  unfold State.driveReported followSb
  split <;> rfl

theorem driveReported_same : (s.driveReported r).msu = s.msu ∧ (s.driveReported r).cfs = s.cfs ∧ (s.driveReported r).dou = s.dou ∧
    (s.driveReported r).adu = s.adu ∧ (s.driveReported r).att = s.att ∧ (s.driveReported r).pc5 = s.pc5 := by
  unfold State.driveReported followSb
  split <;> exact ⟨rfl, rfl, rfl, rfl, rfl, rfl⟩

/-- A report that shows no FAULT acts on the step in progress alone. -/
theorem takeDriveReport_sound (sound : r.state ≠ .fault) : takeDriveReport r s = driveStep r (s.driveReported r) :=
  (takeDriveReport_eq r s).trans (if_neg fun h => sound h.1)

end

/-- A DRIVE REPORT whose event leaves nothing departing. -/
theorem exec_driveReport {s w : State} {state sb : Byte} (taken : s.takesNow .drv = true)
    (took : takeDriveReport { state := .ofByte state, sb := .ofByte sb } (s.withAnswering (some .drv)) = w) (waits : w.waits = true) :
    ∃ t, exec (.driveReport state sb) s = .next t ∧ Rests w t := by
  have decided : decideRequest .drv (.driveReport state sb) (s.withAnswering (some .drv)) = (w, .driveOrder) := by
    rw [← took]
    rfl
  obtain ⟨t, next, rests, -⟩ := exec_rests (c := .driveReport state sb) rfl taken decided waits
  exact ⟨t, next, rests⟩

theorem DriveState.ofByte_sound {b : Byte} (coded : b.toNat < 4) : DriveState.ofByte b ≠ .fault := by
  unfold DriveState.ofByte
  have cases_ : b.toNat = 0 ∨ b.toNat = 1 ∨ b.toNat = 2 ∨ b.toNat = 3 := by omega
  rcases cases_ with h | h | h | h <;> rw [h] <;> decide

/-! ### The steps together -/

/-- The report of a shut car without a release, to the test of D1 (R113, R125). -/
theorem exec_shutReport {s w : State} {c : Car} {rail : Byte} (taken : s.takesNow c.port = true) (free : (s.door c).release = .none)
    (tested : testD1 ((s.withAnswering (some c.port)).railReported c (.ofByte rail)) = w) (waits : (takeWeigh c none w).waits = true) :
    ∃ t, exec (.carReport c 1 0 rail 0 0 0) s = .next t ∧ t.bks = w.bks ∧ t.rco.runState = w.rco.runState ∧
      t.rco.authority = w.rco.authority ∧ t.msu = w.msu ∧ t.cfs = w.cfs ∧ ∀ i, w.attention i = true → t.attention i = true := by
  have report : takeCarReport c .closedLocked (some 0) (.ofByte rail) false (s.withAnswering (some c.port)) = w :=
    (takeCarReport_shut (s := s.withAnswering (some c.port)) free).trans tested
  have decided : decideRequest c.port (.carReport 1 0 rail 0 0 0) (s.withAnswering (some c.port)) = (takeWeigh c none w, .carOrder c) := by
    rw [← report]
    simp only [decideRequest, portCar_port]
    rfl
  obtain ⟨t, next, rests, -⟩ := exec_rests (c := .carReport c 1 0 rail 0 0 0) rfl taken decided waits
  have contained := Contained.takeWeigh c none w
  exact ⟨t, next, rests.bks.trans (takeWeigh_bks ..), rests.runState.trans (by rw [takeWeigh_rco]), rests.authority.trans (by rw [takeWeigh_rco]),
    rests.msu.trans contained.msu, rests.cfs.trans contained.cfs,
    fun i h => (rests.attention i).trans (takeWeigh_attention c none w i h)⟩

theorem takeWeigh_waits_of_run {c : Car} {w : State} (run : w.rco.runState ≠ .closing) : (takeWeigh c none w).waits = true :=
  waits_of_run (by rw [takeWeigh_rco]; exact run)

/-- Settles O28. -/
theorem departureStepsProceed : Obligations.DepartureStepsProceed := by
  refine ⟨fun s c rail taken run slot unlatched free => ?_, fun s loaded slot timer run => ?_, fun s sb taken run => ⟨fun slot => ?_,
    fun state slot coded law => ?_, fun state slot coded law mode => ?_⟩⟩
  · have report (w : State) := exec_shutReport (w := w) (rail := rail) taken free
    obtain ⟨bks, rco, msu, cfs⟩ := railReported_same (s.withAnswering (some c.port)) c (.ofByte rail)
    have doors := railReported_door (s.withAnswering (some c.port)) c (.ofByte rail)
    generalize (s.withAnswering (some c.port)).railReported c (.ofByte rail) = w at report bks rco msu cfs doors
    have own : (w.door c).rail = .lifted ↔ rail = 1 := by rw [doors, if_pos rfl, ← RailCond.ofByte_lifted]
    have other (e : Car) (h : e ≠ c) : (w.door e).rail = (s.door e).rail := by rw [doors, if_neg h]; rfl
    have run' : w.rco.runState = .departing := by rw [rco]; exact run
    by_cases lifted : rail = 1 ∧ ∀ e, e ≠ c → (s.door e).rail = .lifted
    · have both (e : Car) : (w.door e).rail = .lifted := by
        by_cases same : e = c
        · rw [same]
          exact own.mpr lifted.1
        · rw [other e same]
          exact lifted.2 e same
      have tested : testD1 w = startD2 w := testD1_lifted (by rw [bks]; exact slot) both
      have refuted (h : rail ≠ 1 ∨ ∃ e, e ≠ c ∧ (s.door e).rail ≠ .lifted) : False := by
        rcases h with wrong | ⟨e, different, applied⟩
        · exact wrong lifted.1
        · exact applied (lifted.2 e different)
      by_cases risen : s.bks.eblRisen = true
      · obtain ⟨aborted, demanded, released, attention, entry, latched⟩ :=
          startD2_faults (s := w) (by rw [bks]; exact risen) run' (by rw [bks]; exact unlatched)
        have calm := Calm.startD2 w
        obtain ⟨t, next, tbks, trun, tauth, tmsu, tcfs, titem⟩ :=
          report _ tested (waits_of_latched (by rw [takeWeigh_bks]; exact latched))
        refine ⟨t, next, tmsu.trans (calm.msu.trans msu), tcfs.trans (calm.cfs.trans cfs), fun _ _ => ⟨fun down => ?_, fun _ => ?_⟩,
          fun h => (refuted h).elim⟩
        · rw [risen] at down
          cases down
        · rw [tbks, tauth]
          exact ⟨aborted.slot, released, demanded, aborted.last, titem _ attention, aborted.auth, entry⟩
      · have awaits := startD2_awaits (s := w) (by rw [bks]; simpa using risen)
        obtain ⟨t, next, tbks, trun, tauth, tmsu, tcfs, -⟩ := report _ (tested.trans awaits)
          (takeWeigh_waits_of_run (by rw [State.withBks_rco, run']; decide))
        refine ⟨t, next, tmsu.trans msu, tcfs.trans cfs, fun _ _ => ⟨fun _ => ?_, fun up => absurd up risen⟩, fun h => (refuted h).elim⟩
        refine ⟨tbks.trans ?_, trun.trans run', tauth.trans (congrArg Rco.authority rco)⟩
        rw [State.withBks_bks, bks]
        rfl
    · have tested : testD1 w = w := by
        refine testD1_waiting (Classical.byContradiction fun both => lifted ?_)
        obtain ⟨a, b⟩ := not_or.mp both
        have all (e : Car) : (w.door e).rail = .lifted := by
          cases e with
          | a => exact Classical.not_not.mp a
          | b => exact Classical.not_not.mp b
        exact ⟨own.mp (all c), fun e different => (other e different).symm.trans (all e)⟩
      obtain ⟨t, next, tbks, trun, tauth, tmsu, tcfs, -⟩ := report _ tested (takeWeigh_waits_of_run (by rw [run']; decide))
      refine ⟨t, next, tmsu.trans msu, tcfs.trans cfs, fun one others => absurd ⟨one, others⟩ lifted,
        fun _ => ⟨tbks.trans bks, trun.trans run', tauth.trans (congrArg Rco.authority rco)⟩⟩
  · have expired : ebSettleEnd s = startD3 (setStepTimer none s) := if_pos timer
    have bks := startD3_bks (setStepTimer none s)
    have rco := startD3_rco (setStepTimer none s)
    have doors := startD3_door (setStepTimer none s)
    have calm : Calm (setStepTimer none s) (startD3 (setStepTimer none s)) := Calm.startD3 _
    have ssv := startD3_ssv (setStepTimer none s)
    generalize startD3 (setStepTimer none s) = t at *
    have run' : t.rco.runState = .departing := by rw [rco]; exact run
    have done : exec .ebSettleExpiry s = .next (ebSettleEnd s).rested :=
      next_event ebSettleEnd loaded (by rw [expired]; exact waits_of_run (by rw [run']; decide))
    rw [expired] at done
    have rests := Rests.rested t
    generalize t.rested = u at done rests
    refine ⟨u, done, rests.authority.trans (by rw [rco]; rfl), rests.bks.trans bks, rests.runState.trans run', rests.msu.trans calm.msu,
      rests.cfs.trans calm.cfs, ?_, ?_, fun c => ?_⟩
    · exact rests.ssv.trans ssv
    · rw [rests.adu]
      exact calm.load
    · rw [rests.door, doors]
      have same : (setStepTimer none s).door c = s.door c := rfl
      rw [same]
      split
      · exact ⟨rfl, fun _ => ⟨rfl, rfl⟩⟩
      · rename_i free
        exact ⟨Bool.eq_false_iff.mpr free, fun given => absurd given free⟩
  · have rco := driveReported_rco (s.withAnswering (some .drv)) { state := .ofByte 2, sb := .ofByte sb }
    have bks := driveReported_bks (s.withAnswering (some .drv)) { state := .ofByte 2, sb := .ofByte sb }
    have took := takeDriveReport_sound (s.withAnswering (some .drv)) { state := .ofByte 2, sb := .ofByte sb } (DriveState.ofByte_sound (b := 2) (by decide))
    generalize (s.withAnswering (some .drv)).driveReported { state := .ofByte 2, sb := .ofByte sb } = w at rco bks took
    have proved : driveStep { state := .ofByte 2, sb := .ofByte sb } w = startD4 (setStepTimer none w) := by
      have step : w.bks.slot = .departure .d3 := by rw [bks]; exact slot
      unfold driveStep
      rw [step]
      exact if_pos rfl
    obtain ⟨begins, sameRco⟩ := startD4_effects (setStepTimer none w)
    generalize startD4 (setStepTimer none w) = u at proved begins sameRco
    have stays : u.rco = w.rco := sameRco
    obtain ⟨t, next, rests⟩ := exec_driveReport taken (took.trans proved) (waits_of_run (by rw [stays, rco]; simp [run]))
    have brakes := rests.bks.trans begins
    refine ⟨t, next, by rw [brakes], by rw [brakes], by rw [brakes], ?_, by rw [brakes], rests.authority.trans (by rw [stays, rco]; rfl)⟩
    rw [brakes]
    exact (congrArg Bks.ebHold bks : _)
  · have rco := driveReported_rco (s.withAnswering (some .drv)) { state := .ofByte state, sb := .ofByte 1 }
    have bks := driveReported_bks (s.withAnswering (some .drv)) { state := .ofByte state, sb := .ofByte 1 }
    have took := takeDriveReport_sound (s.withAnswering (some .drv)) { state := .ofByte state, sb := .ofByte 1 } (DriveState.ofByte_sound coded)
    obtain ⟨-, -, dou, adu, -, -⟩ := driveReported_same (s.withAnswering (some .drv)) { state := .ofByte state, sb := .ofByte 1 }
    generalize (s.withAnswering (some .drv)).driveReported { state := .ofByte state, sb := .ofByte 1 } = w at rco bks took dou adu
    have step : w.bks.slot = .departure .d4 := by rw [bks]; exact slot
    have holds : (setStepTimer none w).lawHolds = true := by
      rw [← law]
      simp only [State.lawHolds, State.releasesNone, State.doorsLocked, setStepTimer, State.withBks_dou, dou, State.withAnswering_dou]
    have granted : driveStep { state := .ofByte state, sb := .ofByte 1 } w = grantAuthority (setStepTimer none w) := by
      unfold driveStep
      rw [step]
      exact (if_pos ⟨rfl, DriveState.ofByte_sound coded⟩).trans (if_pos holds)
    obtain ⟨brakes, hold, served⟩ := grantAuthority_effects (setStepTimer none w)
    obtain ⟨jog, runs⟩ := grantAuthority_rco (setStepTimer none w)
    generalize grantAuthority (setStepTimer none w) = u at granted brakes hold served runs
    obtain ⟨t, next, rests⟩ := exec_driveReport taken (took.trans granted) (waits_of_run (by rw [runs]; simp))
    have trco := rests.rco
    have tbks := rests.bks.trans brakes
    have wrco : (setStepTimer none w).rco = w.rco := rfl
    have wbks : (setStepTimer none w).bks = { w.bks with stepTimer := none } := rfl
    rw [wrco] at runs hold
    rw [wbks] at tbks
    refine ⟨t, next, rests.authority.trans (by rw [runs, rco]; rfl), rests.runState.trans (by rw [runs]), by rw [tbks], by rw [tbks],
      by rw [tbks], ?_, ?_, ?_, ?_, fun p => by rw [rests.session]; exact served p⟩
    · rw [tbks]
      exact (congrArg Bks.sbDmd bks : _)
    · rw [tbks]
      exact (congrArg Bks.ebHold bks : _)
    · rw [trco]
      change u.rco.abortCount = 0
      rw [runs]
    · rw [trco]
      change u.rco.jogTimer = _
      rw [hold, rco]
      rfl
  · have rco := driveReported_rco (s.withAnswering (some .drv)) { state := .ofByte state, sb := .ofByte 1 }
    have bks := driveReported_bks (s.withAnswering (some .drv)) { state := .ofByte state, sb := .ofByte 1 }
    have took := takeDriveReport_sound (s.withAnswering (some .drv)) { state := .ofByte state, sb := .ofByte 1 } (DriveState.ofByte_sound coded)
    obtain ⟨-, -, dou, -, -, -⟩ := driveReported_same (s.withAnswering (some .drv)) { state := .ofByte state, sb := .ofByte 1 }
    generalize (s.withAnswering (some .drv)).driveReported { state := .ofByte state, sb := .ofByte 1 } = w at rco bks took dou
    have step : w.bks.slot = .departure .d4 := by rw [bks]; exact slot
    have fails : (setStepTimer none w).lawHolds = false := by
      rw [← law]
      simp only [State.lawHolds, State.releasesNone, State.doorsLocked, setStepTimer, State.withBks_dou, dou, State.withAnswering_dou]
    have held : driveStep { state := .ofByte state, sb := .ofByte 1 } w = abortDeparture .releaseHeld (setStepTimer none w) := by
      unfold driveStep
      rw [step]
      exact (if_pos ⟨rfl, DriveState.ofByte_sound coded⟩).trans (if_neg (by simp [fails]))
    have slot' : (setStepTimer none w).bks.slot = .departure .d4 := step
    have mode' : (setStepTimer none w).rco.mode ≠ .recovery := by
      change w.rco.mode ≠ .recovery
      rw [rco]
      exact mode
    have aborted := abortDeparture_runAborted (c := .releaseHeld) slot' mode'
    have brakes := abortDeparture_bks .releaseHeld (setStepTimer none w)
    rw [slot'] at brakes
    generalize abortDeparture .releaseHeld (setStepTimer none w) = u at held aborted brakes
    obtain ⟨t, next, rests⟩ := exec_driveReport taken (took.trans held) (waits_of_run aborted.closing)
    have tbks := rests.bks.trans brakes
    exact ⟨t, next, by rw [tbks], by rw [tbks], by rw [tbks], by rw [tbks], (congrArg Authority.state rests.authority).trans aborted.authority⟩

end Sys2Proof.Machine
end

section
/-! Requests answered, and the frames that the receiver takes and drops (R161 to R164). -/

namespace Sys2Proof.Machine

/-! ### A request answered (R164) -/

/-- The replies of a port's transmit queue, in their order. -/
def State.replies (s : State) (i : PortId) : List TxEntry := (s.port i).tx.filter fun e => !e.isNotice

/-- One request has been answered with `e`: nothing is left half decided, and each reply stands where it stood (R164). -/
structure Answers (s t : State) (i : PortId) (e : TxEntry) : Prop where
  answering : t.answering = none
  held : t.held = []
  completing : t.completing = s.completing
  pending : t.pending = s.pending
  reply : e.isNotice = false
  rx : ∀ j, (t.port j).rx = (s.port j).rx
  link : ∀ j, (t.port j).frame = (s.port j).frame ∧ (t.port j).alive = (s.port j).alive ∧ (t.port j).silence = (s.port j).silence
  own : t.replies i = s.replies i ++ [e]
  others : ∀ j, j ≠ i → t.replies j = s.replies j
  tail : (t.port i).tx[(s.port i).tx.length]? = some e
  place : ∀ (k : Nat) (x : TxEntry), (s.port i).tx[k]? = some x → x.isNotice = false → (t.port i).tx[k]? = some x

theorem answered_answers (i : PortId) (r : Request) (s : State) : Answers s (answered i r s) i (replyTo i r s) := by
  obtain ⟨ports, same, noticed, -⟩ := answered_ports i r s
  have decided := decidedOn_decidedState i r s
  have tx := replied_tx i r s
  have reply : (replyTo i r s).isNotice = false := reply_isNotice ..
  have port (j : PortId) : ((repliedState i r s).port j).rx = (s.port j).rx ∧ ((repliedState i r s).port j).frame = (s.port j).frame ∧
      ((repliedState i r s).port j).alive = (s.port j).alive ∧ ((repliedState i r s).port j).silence = (s.port j).silence ∧
      (j ≠ i → (repliedState i r s).port j = (decidedState i r s).port j) := by
    obtain ⟨frame, rx, alive, silence, -⟩ := decided.ports j
    by_cases own : j = i
    · subst own
      have same : (repliedState j r s).port j =
          { (decidedState j r s).port j with tx := ((decidedState j r s).port j).tx ++ [replyTo j r s] } := State.port_withPort_same ..
      rw [same]
      exact ⟨rx, frame, alive, silence, fun h => absurd rfl h⟩
    · have same : (repliedState i r s).port j = (decidedState i r s).port j := State.port_withPort_other _ _ own
      rw [same]
      exact ⟨rx, frame, alive, silence, fun _ => rfl⟩
  rw [same]
  generalize repliedState i r s = u at noticed tx port
  exact
    { answering := decided.answering
      held := rfl
      completing := decided.completing
      pending := decided.pending
      reply := reply
      rx := fun j => (noticed j).rx.trans (port j).1
      link := fun j => by
        obtain ⟨-, frame, alive, silence, -⟩ := port j
        exact ⟨(noticed j).frame.trans frame, (noticed j).alive.trans alive, (noticed j).silence.trans silence⟩
      own := by
        refine (noticed i).replies.trans ?_
        rw [tx]
        simp [reply, State.replies]
      others := fun j other => (noticed j).replies.trans (by
        rw [(port j).2.2.2.2 other]
        exact (decided.ports j).replies)
      tail := (noticed i).place _ _ (by simp [tx]) reply
      place := fun k x h notice => (noticed i).place k x (by
        rw [tx, List.getElem?_append_left (List.getElem?_eq_some_iff.mp h).1]
        exact h) notice }

/-- A port that may take no request leaves its receive queue as it is (R164). -/
theorem takeAll_of_blocked {s : State} {i : PortId} (blocked : (s.port i).mayTake = false) : takeAll i s = s := by
  unfold takeAll
  generalize (s.port i).rx.length = n
  cases n with
  | zero => rfl
  | succ n =>
    unfold takeRequests
    split
    · rfl
    · exact if_neg (by simp [blocked])

theorem offerRequest_waits {s : State} {i : PortId} (r : Request) (short : (s.port i).rx.length < 4) (blocked : (s.port i).mayTake = false) :
    offerRequest i r s = s.withPort i { s.port i with rx := (s.port i).rx ++ [r] } :=
  (if_pos short).trans (takeAll_of_blocked (by rw [State.port_withPort_same]; exact blocked))

theorem offerRequest_overruns {s : State} {i : PortId} (r : Request) (full : 4 ≤ (s.port i).rx.length) :
    offerRequest i r s = (s.withPort i { s.port i with overrun := satInc 255 (s.port i).overrun }).setAttention .rxOverrun :=
  if_neg (Nat.not_lt.mpr full)

/-- Settles O36. -/
theorem requestGetsOneReply : Obligations.RequestGetsOneReply := by
  refine ⟨fun s c i r row taken => ?_, fun s c i r row loaded => ?_⟩
  · have answers := answered_answers i r s
    obtain ⟨answering, held⟩ := idle_of_takesNow taken
    have idle : s.completing = none ∧ (s.port i).rx = [] := by
      simp only [State.takesNow, State.settled, Bool.and_eq_true, beq_iff_eq] at taken
      exact ⟨taken.1.1.2.2, taken.1.2⟩
    refine ⟨_, _, exec_taken row taken, ?_, (answers.rx i).trans idle.2, answers.tail, answers.reply, answers.own, answers.others, answers.pending⟩
    exact (State.settled_iff _).mpr ⟨answers.answering, answers.held, answers.completing.trans idle.1⟩
  · have offered : exec c s = .next (offerRequest i r s) :=
      (exec_of_request row s).trans (congrArg Host.Outcome.next (whileOperating_of_operating _ (operating_of_loaded loaded)))
    exact ⟨fun short blocked => offered.trans (congrArg Host.Outcome.next (offerRequest_waits r short blocked)),
      fun full => offered.trans (congrArg Host.Outcome.next (offerRequest_overruns r full))⟩

/-! ### The receiver (R161, R173) -/

/-- The frame collected so far. -/
def State.collected (s : State) (i : PortId) (frame : List Byte) : State := s.withPort i { s.port i with frame := frame }

theorem collected_collected (s : State) (i : PortId) (f g : List Byte) : (s.collected i f).collected i g = s.collected i g := by
  simp only [State.collected, State.port_withPort_same, withPort_withPort]

/-- A frame whose last byte has not come: its length byte has not, or stands within the limit with bytes missing (R161). -/
def Unfinished (frame : List Byte) : Prop :=
  frame.length < 4 ∨ ∃ x addr kind len rest, frame = x :: addr :: kind :: len :: rest ∧ len.toNat ≤ 24 ∧ frame.length < 6 + len.toNat

theorem takeFrame_unfinished {frame : List Byte} (h : Unfinished frame) (i : PortId) (s : State) :
    takeFrame i frame s = s.collected i frame := by
  unfold takeFrame
  split
  · rename_i x addr kind len rest
    rcases h with short | ⟨_, _, _, _, _, same, within, missing⟩
    · simp at short
      omega
    · cases same
      rw [if_neg (by omega), if_neg (by omega)]
      rfl
  · rfl

theorem Unfinished.front {f g : List Byte} (h : Unfinished (f ++ g)) : Unfinished f := by
  by_cases short : f.length < 4
  · exact .inl short
  · match f, short with
    | x :: addr :: kind :: len :: rest, _ =>
      rcases h with h | ⟨_, _, _, _, _, same, within, missing⟩
      · simp at h
        omega
      · cases same
        refine .inr ⟨x, addr, kind, len, rest, rfl, within, ?_⟩
        simp at missing ⊢
        omega
    | [], h => simp at h
    | [_], h => simp at h
    | [_, _], h => simp at h
    | [_, _, _], h => simp at h

theorem feedByte_collecting {s : State} {i : PortId} {x b : Byte} {rest : List Byte} (frame : (s.port i).frame = x :: rest) :
    feedByte i s b = takeFrame i (x :: rest ++ [b]) s := by
  unfold feedByte
  rw [frame]

/-- Bytes that leave the frame unfinished are collected. -/
theorem foldl_feedByte_unfinished (i : PortId) (bytes : List Byte) {f : List Byte} {s : State} (begun : f ≠ []) (frame : (s.port i).frame = f)
    (unfinished : Unfinished (f ++ bytes)) : bytes.foldl (feedByte i) s = s.collected i (f ++ bytes) := by
  induction bytes generalizing f s with
  | nil =>
    rw [List.append_nil, ← frame]
    exact (withPort_port s i).symm
  | cons b bytes ih =>
    have next : f ++ b :: bytes = f ++ [b] ++ bytes := by simp
    rw [next] at unfinished ⊢
    have taken : feedByte i s b = s.collected i (f ++ [b]) := by
      obtain ⟨x, rest, rfl⟩ := List.exists_cons_of_ne_nil begun
      exact (feedByte_collecting frame).trans (takeFrame_unfinished unfinished.front i s)
    rw [List.foldl_cons, taken, ih (by simp) (by simp [State.collected]) unfinished, collected_collected]

theorem feedByte_sync {s : State} {i : PortId} (hunts : (s.port i).frame = []) : feedByte i s 0x7E = s.collected i [0x7E] := by
  unfold feedByte
  rw [hunts]
  exact if_pos rfl

/-- What becomes of a frame with a good check word, by the verdict on its kind, its address and its length (R161). -/
def State.verdict (s : State) (i : PortId) : Verdict → State
  | .valid r => validTelegram i r s
  | .unknownKind => dropUnknown i s
  | .badLength => dropOversize i s

/-- What the receiver reads out of a whole frame: its body, its payload and its check word (R173, R174). -/
theorem judgeFrame_whole (i : PortId) (addr kind len : Byte) (payload : List Byte) (h l : Byte) (s : State) :
    judgeFrame i addr kind payload.length (0x7E :: addr :: kind :: len :: (payload ++ [h, l])) s =
      if crc16 (addr :: kind :: len :: payload) = h ++ l then s.verdict i (judge i addr kind payload) else dropBadCrc i s := by
  have body : (List.drop 1 (0x7E :: addr :: kind :: len :: (payload ++ [h, l]))).take (3 + payload.length) = addr :: kind :: len :: payload := by
    rw [List.drop_one, List.tail_cons, Nat.add_comm, List.take_succ_cons, List.take_succ_cons, List.take_succ_cons, List.take_left]
  have word : frameWord payload.length (0x7E :: addr :: kind :: len :: (payload ++ [h, l])) = h ++ l := by
    unfold frameWord
    rw [Nat.add_comm]
    simp only [List.drop_succ_cons, List.drop_left]
  have data : (List.drop 4 (0x7E :: addr :: kind :: len :: (payload ++ [h, l]))).take payload.length = payload := by
    simp only [List.drop_succ_cons, List.drop_zero, List.take_left]
  unfold judgeFrame
  rw [body, word, data]
  rfl

/-- The last byte of a frame: the frame is judged (R161). -/
theorem receive_judged {s : State} {i : PortId} (hunts : (s.port i).frame = []) (addr kind : Byte) {payload : List Byte} (short : payload.length ≤ 24)
    (h l : Byte) :
    ∃ f, (0x7E :: (addr :: kind :: BitVec.ofNat 8 payload.length :: payload) ++ [h, l]).foldl (feedByte i) s =
      if crc16 (addr :: kind :: BitVec.ofNat 8 payload.length :: payload) = h ++ l then
        (s.collected i f).verdict i (judge i addr kind payload)
      else dropBadCrc i (s.collected i f) := by
  have len : (BitVec.ofNat 8 payload.length).toNat = payload.length := by
    rw [BitVec.toNat_ofNat]
    omega
  let begun := 0x7E :: addr :: kind :: BitVec.ofNat 8 payload.length :: (payload ++ [h])
  have unfinished : Unfinished ([0x7E] ++ addr :: kind :: BitVec.ofNat 8 payload.length :: (payload ++ [h])) :=
    .inr ⟨_, _, _, _, _, rfl, by rw [len]; exact short, by rw [len]; simp; omega⟩
  have split_ : 0x7E :: (addr :: kind :: BitVec.ofNat 8 payload.length :: payload) ++ [h, l] =
      0x7E :: ((addr :: kind :: BitVec.ofNat 8 payload.length :: (payload ++ [h])) ++ [l]) := by simp
  have collected := foldl_feedByte_unfinished i (addr :: kind :: BitVec.ofNat 8 payload.length :: (payload ++ [h])) (f := [0x7E])
    (s := s.collected i [0x7E]) (by simp) (by simp [State.collected]) unfinished
  rw [collected_collected] at collected
  refine ⟨begun, ?_⟩
  rw [split_, List.foldl_cons, feedByte_sync hunts, List.foldl_append, collected, List.foldl_cons, List.foldl_nil, ← judgeFrame_whole]
  have last : feedByte i (s.collected i begun) l = takeFrame i (begun ++ [l]) (s.collected i begun) :=
    feedByte_collecting (by simp [State.collected, begun])
  have whole : begun ++ [l] = 0x7E :: addr :: kind :: BitVec.ofNat 8 payload.length :: (payload ++ [h, l]) := by simp [begun]
  refine last.trans ?_
  rw [whole]
  unfold takeFrame
  dsimp only
  rw [len, if_neg (by simp), if_pos (by simp; omega)]

/-! ### Frames dropped (R161, R162) -/

section
variable (s : State) (i : PortId) (f : List Byte)

theorem dropOversize_collected : dropOversize i (s.collected i f) = dropOversize i s := by
  unfold dropOversize State.collected
  simp only [State.port_withPort_same, withPort_withPort]

theorem dropUnknown_collected : dropUnknown i (s.collected i f) = dropUnknown i s := by
  unfold dropUnknown State.collected
  simp only [State.port_withPort_same, withPort_withPort]

theorem dropBadCrc_collected : dropBadCrc i (s.collected i f) = dropBadCrc i s := by
  unfold dropBadCrc State.collected
  simp only [State.port_withPort_same, withPort_withPort]

theorem hear_collected : hear i (s.collected i f) = hear i s := by
  unfold hear State.collected
  simp only [State.port_withPort_same, withPort_withPort]
  rfl

theorem dropBadCrc_eq :
    dropBadCrc i s =
      if (s.port i).badCrc = 127 then
        (s.withPort i { s.port i with frame := [], badCrc := 128, degraded := true }).setAttention .portDegraded
      else s.withPort i { s.port i with frame := [], badCrc := satInc 255 (s.port i).badCrc } := by
  unfold dropBadCrc
  by_cases last : (s.port i).badCrc = 127
  · have next : satInc 255 127 = 128 := rfl
    simp only [last, next]
    rfl
  · have other : ¬(satInc 255 (s.port i).badCrc = 128 ∧ (s.port i).badCrc ≠ 128) := by
      unfold satInc
      split <;> omega
    rw [if_neg last]
    exact if_neg other

end

/-- A kind or an address that the port does not hear is unknown to it (R160, R173). -/
theorem judge_deaf {i : PortId} {addr kind : Byte} (payload : List Byte) (deaf : portHears i addr kind = false) :
    judge i addr kind payload = .unknownKind := by
  have gate (b : Byte) (h : ¬b.toNat < 16) : gateOfCode b = none := dif_neg h
  have named (b : Byte) (n : Nat) (h : kind.toNat = n) (same : b.toNat = n) : kind = b := BitVec.eq_of_toNat_eq (h.trans same.symm)
  unfold judge
  split
  · rename_i h
    obtain rfl := named 0x11 _ h rfl
    simp_all [portHears]
  iterate 2
    · rename_i h
      obtain rfl := named 0x21 _ h rfl
      simp_all [portHears]
  · rename_i h
    obtain rfl := named 0x51 _ h rfl
    simp_all [portHears]
  iterate 2
    · rename_i h
      obtain rfl := named 0x31 _ h rfl
      rw [gate addr (by simpa [portHears, portHears.hearsGate] using deaf)]
  iterate 2
    · rename_i h
      obtain rfl := named 0x32 _ h rfl
      rw [gate addr (by simpa [portHears, portHears.hearsGate] using deaf)]
  iterate 2
    · rename_i h
      obtain rfl := named 0x33 _ h rfl
      refine dif_neg ?_
      simpa [portHears, portHears.hearsGate] using deaf
  iterate 2
    · rename_i h
      obtain rfl := named 0x34 _ h rfl
      rw [gate addr (by simpa [portHears, portHears.hearsGate] using deaf)]
  · rfl

/-- The kinds that each port hears (R160). -/
theorem portHears_kind {i : PortId} {addr kind : Byte} (hears : portHears i addr kind = true) :
    (i = .drv ∧ kind = 0x11) ∨ (i = .cra ∧ kind = 0x21) ∨ (i = .crb ∧ kind = 0x21) ∨ (i = .con ∧ kind = 0x51) ∨
      (i = .sta1 ∧ (kind = 0x31 ∨ kind = 0x32 ∨ kind = 0x33 ∨ kind = 0x34)) ∨
      (i = .sta2 ∧ (kind = 0x31 ∨ kind = 0x32 ∨ kind = 0x33 ∨ kind = 0x34)) := by
  have station : portHears.hearsGate addr kind = true → kind = 0x31 ∨ kind = 0x32 ∨ kind = 0x33 ∨ kind = 0x34 := by
    simp only [portHears.hearsGate, Bool.or_eq_true, Bool.and_eq_true, beq_iff_eq]
    grind
  cases i <;> simp_all [portHears]

theorem parseCommand_misfit {payload : List Byte} (misfit : (parseCommand payload).isSome = false) : parseCommand payload = none := by
  simpa using misfit

/-- A kind that the port hears, with a length that is not the kind's (R173, R175). -/
theorem judge_misfit {i : PortId} {addr kind : Byte} {payload : List Byte} (hears : portHears i addr kind = true)
    (misfit : lengthFits kind payload = false) : judge i addr kind payload = .badLength := by
  have gate (b : Byte) (h : b.toNat < 16) : gateOfCode b = some ⟨b.toNat, h⟩ := dif_pos h
  have named (b : Byte) (n : Nat) (h : kind.toNat = n) (same : b.toNat = n) : kind = b := BitVec.eq_of_toNat_eq (h.trans same.symm)
  unfold judge
  split
  · rename_i h
    obtain rfl := named 0x11 _ h rfl
    have own : addr = 0 := by simpa [portHears] using hears
    rw [if_pos own]
    split
    · simp [lengthFits] at misfit
    · rfl
  iterate 2
    · rename_i h
      obtain rfl := named 0x21 _ h rfl
      have own : addr = 0 := by simpa [portHears] using hears
      rw [if_pos own]
      split
      · simp [lengthFits] at misfit
      · rfl
  · rename_i h
    obtain rfl := named 0x51 _ h rfl
    have own : addr = 0 := by simpa [portHears] using hears
    rw [if_pos own, parseCommand_misfit (by simpa [lengthFits] using misfit)]
  iterate 2
    · rename_i h
      obtain rfl := named 0x31 _ h rfl
      rw [gate addr (by simpa [portHears, portHears.hearsGate] using hears)]
      exact if_neg (by simpa [lengthFits] using misfit)
  iterate 2
    · rename_i h
      obtain rfl := named 0x32 _ h rfl
      rw [gate addr (by simpa [portHears, portHears.hearsGate] using hears)]
      exact if_neg (by simpa [lengthFits] using misfit)
  iterate 2
    · rename_i h
      obtain rfl := named 0x33 _ h rfl
      rw [dif_pos (by simpa [portHears, portHears.hearsGate] using hears)]
      exact if_neg (by simpa [lengthFits] using misfit)
  iterate 2
    · rename_i h
      obtain rfl := named 0x34 _ h rfl
      rw [gate addr (by simpa [portHears, portHears.hearsGate] using hears)]
      dsimp only
      split
      · simp [lengthFits] at misfit
      · rfl
  · rcases portHears_kind hears with h | h | h | h | ⟨rfl, h | h | h | h⟩ | ⟨rfl, h | h | h | h⟩ <;> simp_all

/-- A check word goes high byte first (R174). -/
theorem bytes16_append (w : BitVec 16) : ((w >>> 8).setWidth 8 : Byte) ++ (w.setWidth 8 : Byte) = w := by
  refine BitVec.eq_of_getLsbD_eq fun k hk => ?_
  rw [BitVec.getLsbD_append]
  split
  · rename_i low
    simp [low]
  · rename_i high
    have above : k - 8 < 8 := by omega
    simp [above, show 8 + (k - 8) = k by omega]

/-- Settles O38. -/
theorem brokenFramesAreCounted : Obligations.BrokenFramesAreCounted := by
  intro s i loaded dropped oversize unknown
  have operates (f : State → State) : (.next (whileOperating s f) : Host.Outcome State Fault Refusal) = .next (f s) :=
    congrArg Host.Outcome.next (whileOperating_of_operating f (operating_of_loaded loaded))
  have receives (bytes : List Byte) (t : State) (h : bytes.foldl (feedByte i) s = t) : exec (.receiveFrame i bytes) s = .next t :=
    (operates fun s => bytes.foldl (feedByte i) s).trans (congrArg Host.Outcome.next h)
  refine ⟨fun collecting => ?_, fun hunts => ?_, fun hunts bytes noise => receives _ _ ?_, fun hunts addr kind len long => receives _ _ ?_,
    fun hunts addr kind payload short => ?_⟩
  · have drops : dropIncomplete i s = dropped := (if_neg collecting).trans (dropBadCrc_eq s i)
    exact ⟨(operates _).trans (congrArg _ drops), (operates _).trans (congrArg _ drops)⟩
  · have stays : dropIncomplete i s = s := if_pos hunts
    exact ⟨(operates _).trans (congrArg _ stays), (operates _).trans (congrArg _ stays)⟩
  · induction bytes with
    | nil => rfl
    | cons b bytes ih =>
      have discarded : feedByte i s b = s := by
        unfold feedByte
        rw [hunts]
        exact if_neg (noise b (by simp))
      rw [List.foldl_cons, discarded]
      exact ih fun c h => noise c (by simp [h])
  · have collected := foldl_feedByte_unfinished i [addr, kind] (f := [0x7E]) (s := s.collected i [0x7E]) (by simp)
      (by simp [State.collected]) (.inl (by simp))
    rw [collected_collected] at collected
    have bytes : [0x7E, addr, kind, len] = 0x7E :: ([addr, kind] ++ [len]) := rfl
    rw [bytes, List.foldl_cons, feedByte_sync hunts, List.foldl_append, collected, List.foldl_cons, List.foldl_nil]
    refine (feedByte_collecting (x := 0x7E) (rest := [addr, kind]) (by simp [State.collected])).trans ?_
    exact (if_pos ⟨rfl, long⟩).trans (dropOversize_collected ..)
  · have judged := receive_judged hunts addr kind short
    have good (v : Verdict) (h : judge i addr kind payload = v) (f : List Byte) :
        (if crc16 (addr :: kind :: BitVec.ofNat 8 payload.length :: payload) =
            ((crc16 (addr :: kind :: BitVec.ofNat 8 payload.length :: payload) >>> 8).setWidth 8 : Byte) ++
              ((crc16 (addr :: kind :: BitVec.ofNat 8 payload.length :: payload)).setWidth 8 : Byte) then
          (s.collected i f).verdict i (judge i addr kind payload) else dropBadCrc i (s.collected i f)) = (s.collected i f).verdict i v := by
      rw [if_pos (bytes16_append _).symm, h]
    refine ⟨fun h l wrong => ?_, fun deaf => ?_, fun hears misfit => ?_⟩
    · obtain ⟨f, same⟩ := judged h l
      exact receives _ _ (same.trans ((if_neg (Ne.symm wrong)).trans ((dropBadCrc_collected ..).trans (dropBadCrc_eq ..))))
    · obtain ⟨f, same⟩ := judged _ _
      exact receives _ _ (same.trans ((good _ (judge_deaf payload deaf) f).trans (dropUnknown_collected ..)))
    · obtain ⟨f, same⟩ := judged _ _
      exact receives _ _ (same.trans ((good _ (judge_misfit hears misfit) f).trans (dropOversize_collected ..)))

/-! ### A good frame (R161, R167) -/

/-- Requests taken leave the receiver and the link of every port. -/
theorem takeRequests_link (i : PortId) (n : Nat) (s : State) (j : PortId) :
    ((takeRequests i n s).port j).frame = (s.port j).frame ∧ ((takeRequests i n s).port j).alive = (s.port j).alive ∧
      ((takeRequests i n s).port j).silence = (s.port j).silence := by
  induction n generalizing s with
  | zero => exact ⟨rfl, rfl, rfl⟩
  | succ n ih =>
    unfold takeRequests
    split
    · exact ⟨rfl, rfl, rfl⟩
    · rename_i r rest queue
      split
      · obtain ⟨frame, alive, silence⟩ := ih (answerRequest i r rest s)
        obtain ⟨frame', alive', silence'⟩ := (answered_answers i r (s.withPort i { s.port i with rx := rest })).link j
        have same : ((s.withPort i { s.port i with rx := rest }).port j).frame = (s.port j).frame ∧
            ((s.withPort i { s.port i with rx := rest }).port j).alive = (s.port j).alive ∧
            ((s.withPort i { s.port i with rx := rest }).port j).silence = (s.port j).silence := by
          by_cases own : j = i
          · subst own
            simp
          · simp [State.port_withPort_other _ _ own]
        exact ⟨frame.trans (frame'.trans same.1), alive.trans (alive'.trans same.2.1), silence.trans (silence'.trans same.2.2)⟩
      · exact ⟨rfl, rfl, rfl⟩

theorem offerRequest_link (i : PortId) (r : Request) (s : State) :
    ((offerRequest i r s).port i).frame = (s.port i).frame ∧ ((offerRequest i r s).port i).alive = (s.port i).alive ∧
      ((offerRequest i r s).port i).silence = (s.port i).silence := by
  unfold offerRequest
  dsimp only
  split
  · have link := takeRequests_link i ((s.withPort i { s.port i with rx := (s.port i).rx ++ [r] }).port i).rx.length
      (s.withPort i { s.port i with rx := (s.port i).rx ++ [r] }) i
    simpa [takeAll] using link
  · simp [State.setAttention, State.port]

/-- Settles O37. -/
theorem receivedFrameActsAsItsRequest : Obligations.ReceivedFrameActsAsItsRequest := by
  intro s c i r addr kind payload loaded hunts short valid row body frame port heard waits
  have hears (f : List Byte) : validTelegram i r (s.collected i f) = offerRequest i r heard.rested := by
    have same : hear i s = heard.rested := by
      have frame : (s.withPort i { port with frame := [] }) = heard := by
        have : ({ port with frame := [] } : Port) = port := by rw [← hunts]
        rw [this]
      exact (congrArg endEvent frame).trans (endEvent_of_waits waits)
    rw [validTelegram, hear_collected, same]
  have received : exec (.receiveFrame i frame) s = .next (offerRequest i r heard.rested) := by
    obtain ⟨f, judged⟩ := receive_judged hunts addr kind short ((crc16 body >>> 8).setWidth 8) ((crc16 body).setWidth 8)
    refine congrArg Host.Outcome.next ((whileOperating_of_operating _ (operating_of_loaded loaded)).trans (judged.trans ?_))
    rw [if_pos (bytes16_append _).symm, valid]
    exact hears f
  have acts : exec c heard.rested = .next (offerRequest i r heard.rested) :=
    (exec_of_request row _).trans (congrArg Host.Outcome.next (whileOperating_of_operating _ (operating_of_loaded loaded)))
  have own : heard.rested.port i = port := State.port_withPort_same ..
  obtain ⟨frames, alive, silence⟩ := offerRequest_link i r heard.rested
  rw [own] at frames alive silence
  refine ⟨received.trans acts.symm, ⟨_, received, alive, silence, frames.trans hunts, fun taken => ?_⟩, fun few blocked => ?_, fun full => ?_⟩
  · have taken' : heard.rested.takesNow i = true := taken
    obtain ⟨t, e, next, settled, rx, tail, reply, -⟩ := requestGetsOneReply.1 heard.rested c i r row taken'
    have same : t = offerRequest i r heard.rested := Host.Outcome.next.inj (next.symm.trans acts)
    rw [own] at tail
    rw [← same]
    exact ⟨settled, rx, e, tail, reply⟩
  · have waiting := offerRequest_waits (s := heard.rested) (i := i) r (by rw [own]; exact few) (by rw [own]; exact blocked)
    rw [own] at waiting
    exact received.trans (congrArg Host.Outcome.next waiting)
  · have overrun := offerRequest_overruns (s := heard.rested) (i := i) r (by rw [own]; exact full)
    rw [own] at overrun
    exact received.trans (congrArg Host.Outcome.next overrun)

end Sys2Proof.Machine
end

section
/-! The loss of a link, and the completion of a transmission (R154, R165 to R168). -/

namespace Sys2Proof.Machine

/-! ### What the end of an event leaves of the gates -/

@[simp] theorem setRailOrder_adu (o : RailOrder) (s : State) : (setRailOrder o s).adu = s.adu := by simp [setRailOrder, allCars]

theorem startDeparture_thins (k : Fin 6) (dir : Dir) (s : State) : Thins s (startDeparture k dir s) := by
  have tested (u : State) : Thins u (testD1 u) :=
    .ite (fun _ => .ite (fun _ => .after (raiseAs_yields .latch .ebFault .emergency _).thins (.of_adu rfl)) fun _ => .of_adu rfl) fun _ => .refl u
  unfold startDeparture startD1
  exact .after (tested _) (.of_adu (by simp [startStep, setStepTimer, takeSnapshot, setSlot]))

theorem endEvent_thins (s : State) : Thins s (endEvent s) := by
  have stage (n : Nat) (u : State) : Thins u (readinessStage n u) := by
    induction n generalizing u with
    | zero => exact .refl u
    | succ n ih =>
      unfold readinessStage
      split
      · split
        · exact .after (ih _) (.after (startDeparture_thins ..) (.of_adu rfl))
        · exact .of_adu rfl
      · exact .of_adu rfl
  exact stage 2 s

/-! ### The waiting gates of a station (R154) -/

/-- The gate does not wait; grants give it a reservation or leave it. -/
theorem evaluatePolicy_not_waiting {s : State} {g : Fin 16} (idle : (s.gate g).state ≠ .waiting) (p : Fin 8) :
    ((evaluatePolicy s p).gate g).state ≠ .waiting := by
  have granted (n : Nat) (u : State) (idle : (u.gate g).state ≠ .waiting) : ((grantWaiting p n u).gate g).state ≠ .waiting := by
    induction n generalizing u with
    | zero => exact idle
    | succ n ih =>
      unfold grantWaiting
      repeat' split
      · rename_i h _
        obtain ⟨gate, gates⟩ := grant_gates p h u
        refine ih _ ?_
        by_cases same : g = h
        · rw [same, gate]
          exact fun h => by cases h
        · rw [gates g same]
          exact idle
      · exact idle
      · exact idle
  exact granted _ s idle

/-- A gate that is IDLE and stands in no waiting list is left so by the policy. -/
structure Out (s : State) (g : Fin 16) : Prop where
  idle : (s.gate g).state = .idle
  listed : ∀ p, g ∉ (s.session p).waiting

theorem Out.thins {s t : State} {g : Fin 16} (h : Out s g) (thins : Thins s t) : Out t g :=
  ⟨(thins.gates g).elim (fun same => same.trans h.idle) id, fun p mem => h.listed p (thins.lists p g mem)⟩

theorem Out.evaluatePolicy {s : State} {g : Fin 16} (h : Out s g) (p : Fin 8) : Out (evaluatePolicy s p) g := by
  have granted (n : Nat) (u : State) (h : Out u g) : Out (grantWaiting p n u) g := by
    induction n generalizing u with
    | zero => exact h
    | succ n ih =>
      unfold grantWaiting
      repeat' split
      · rename_i e chosen
        have other : g ≠ e := fun same => h.listed p (same ▸ chosen_mem chosen)
        obtain ⟨-, gates⟩ := grant_gates p e u
        obtain ⟨session, sessions⟩ := grant_sessions p e u
        refine ih _ ⟨by rw [gates g other]; exact h.idle, fun q mem => ?_⟩
        by_cases same : q = p
        · rw [same, session] at mem
          exact h.listed p (List.mem_of_mem_erase mem)
        · rw [sessions q same] at mem
          exact h.listed q mem
      · exact h
      · exact h
  exact granted _ s h

/-- The gates of a station that wait leave their lists, each in turn. -/
def leaveWaiting (x : Sta) (s : State) (g : Fin 16) : State := if gateSta g = x ∧ (s.gate g).state = .waiting then leaveList g s else s

theorem stationLost_eq (x : Sta) (s : State) :
    stationLost x s = (s.waitingAt x).foldl evaluatePolicy (allIndices.foldl (leaveWaiting x) s) := rfl

theorem leaveWaiting_thins (x : Sta) (s : State) (g : Fin 16) : Thins s (leaveWaiting x s g) :=
  .ite (fun _ => .leaveList g s) fun _ => .refl s

/-- After its turn a gate of the station does not wait. -/
theorem leaveWaiting_own {x : Sta} {s : State} {g : Fin 16} (station : gateSta g = x) : ((leaveWaiting x s g).gate g).state ≠ .waiting := by
  unfold leaveWaiting
  split
  · rw [(leaveList_gates g s).1]
    exact fun h => by cases h
  · rename_i waits
    exact fun h => waits ⟨station, h⟩

theorem foldl_leaveWaiting_not_waiting {x : Sta} {g : Fin 16} (station : gateSta g = x) (l : List (Fin 16)) (mem : g ∈ l) (s : State) :
    ((l.foldl (leaveWaiting x) s).gate g).state ≠ .waiting := by
  induction l generalizing s with
  | nil => cases mem
  | cons e l ih =>
    by_cases same : g = e
    · subst same
      intro waiting
      refine leaveWaiting_own (s := s) station ?_
      rcases (Thins.foldl (leaveWaiting_thins x) l (leaveWaiting x s g)).gates g with kept | idle
      · exact kept.symm.trans waiting
      · rw [List.foldl_cons, idle] at waiting
        cases waiting
    · exact ih ((List.mem_cons.mp mem).resolve_left same) _

/-- Each waiting list holds its gates once, and those of its platform alone. -/
def State.Lists (s : State) : Prop := ∀ q, (s.session q).waiting.Nodup ∧ ∀ h ∈ (s.session q).waiting, (s.gateEntry h).platform = q

theorem leaveWaiting_entry (x : Sta) (s : State) (g e : Fin 16) : (leaveWaiting x s g).gateEntry e = s.gateEntry e := by
  unfold leaveWaiting
  split <;> rfl

theorem State.Lists.leaveWaiting {s : State} (h : s.Lists) (x : Sta) (g : Fin 16) : (leaveWaiting x s g).Lists := by
  unfold Machine.leaveWaiting
  split
  · obtain ⟨session, sessions⟩ := leaveList_sessions g s
    intro q
    obtain ⟨nodup, own⟩ := h q
    by_cases same : q = (s.gateEntry g).platform
    · rw [same, session]
      rw [same] at nodup own
      exact ⟨nodup.erase g, fun e mem => own e (List.mem_of_mem_erase mem)⟩
    · rw [sessions q same]
      exact ⟨nodup, own⟩
  · exact h

/-- A gate of the station that waits is out of the session after its turn. -/
theorem State.Lists.out {s : State} (h : s.Lists) {x : Sta} {g : Fin 16} (station : gateSta g = x) (waiting : (s.gate g).state = .waiting) :
    Out (Machine.leaveWaiting x s g) g := by
  obtain ⟨session, sessions⟩ := leaveList_sessions g s
  have left : Machine.leaveWaiting x s g = leaveList g s := if_pos ⟨station, waiting⟩
  rw [left]
  refine ⟨by rw [(leaveList_gates g s).1], fun q mem => ?_⟩
  by_cases same : q = (s.gateEntry g).platform
  · rw [same, session] at mem
    exact (List.Nodup.mem_erase_iff (h _).1).mp mem |>.1 rfl
  · rw [sessions q same] at mem
    exact same ((h q).2 g mem).symm

theorem State.Lists.foldl_out {s : State} (h : s.Lists) {x : Sta} {g : Fin 16} (station : gateSta g = x) (waiting : (s.gate g).state = .waiting)
    {l : List (Fin 16)} (mem : g ∈ l) : Out (l.foldl (Machine.leaveWaiting x) s) g := by
  induction l generalizing s with
  | nil => cases mem
  | cons e l ih =>
    by_cases same : g = e
    · subst same
      exact (h.out station waiting).thins (.foldl (leaveWaiting_thins x) l _)
    · refine ih (h.leaveWaiting x e) ?_ ((List.mem_cons.mp mem).resolve_left same)
      unfold Machine.leaveWaiting
      split
      · rw [(leaveList_gates e s).2 g same]
        exact waiting
      · exact waiting

/-! ### The loss of a link (R166 to R168) -/

/-- What the loss of a link leaves of its port (R166, R167). -/
def Port.lost (p : Port) : Port := { p.trim with silence := none, alive := false, losses := satInc 255 p.losses }

theorem takeWeigh_noticed (c : Car) (w : Option Nat) (s : State) (i : PortId) : (s.port i).Noticed ((takeWeigh c w s).port i) := by
  unfold takeWeigh evaluateLoad
  dsimp only
  split
  · refine .trans ?_ ((Calm.handNotice _ (.carOrder c)).ports i)
    split <;> exact .refl _
  · split <;> exact .refl _

/-- A link cause latches nothing of the ports, the tables or the measurement (R168). -/
theorem linkCause_calm (c : Cause) (s : State) : Calm s (linkCause c s) := .ite (fun _ => .raise ..) fun _ => .refl s

/-- The loss of a link leaves the ports but for notices, and the loads but for the weigh of the link's car (R168). -/
theorem lossEffects_noticed (i j : PortId) (s : State) : (s.port j).Noticed ((lossEffects i s).port j) := by
  cases i with
  | drv => exact (linkCause_calm .linkDrv s).ports j
  | cra => exact ((linkCause_calm .linkCra s).ports j).trans (takeWeigh_noticed ..)
  | crb => exact ((linkCause_calm .linkCrb s).ports j).trans (takeWeigh_noticed ..)
  | sta1 => exact (Calm.stationLost .sta1 s).ports j
  | sta2 => exact (Calm.stationLost .sta2 s).ports j
  | con => exact .refl _

theorem lossEffects_contained (i : PortId) (s : State) : Contained s (lossEffects i s) := by
  cases i with
  | drv => exact (linkCause_calm .linkDrv s).contained
  | cra => exact .after (.takeWeigh ..) (linkCause_calm .linkCra s).contained
  | crb => exact .after (.takeWeigh ..) (linkCause_calm .linkCrb s).contained
  | sta1 => exact (Calm.stationLost .sta1 s).contained
  | sta2 => exact (Calm.stationLost .sta2 s).contained
  | con => exact .refl s

theorem lossEffects_attention (i : PortId) (s : State) (a : Attention) (h : s.attention a = true) : (lossEffects i s).attention a = true := by
  cases i with
  | drv => exact (linkCause_calm .linkDrv s).attention a h
  | cra => exact takeWeigh_attention _ _ _ a ((linkCause_calm .linkCra s).attention a h)
  | crb => exact takeWeigh_attention _ _ _ a ((linkCause_calm .linkCrb s).attention a h)
  | sta1 => exact (Calm.stationLost .sta1 s).attention a h
  | sta2 => exact (Calm.stationLost .sta2 s).attention a h
  | con => exact h

/-- The car's weigh becomes absent, its tally stays (R156, R168). -/
theorem lossEffects_load (c : Car) (s : State) :
    ((lossEffects c.port s).load c).weigh = none ∧ ((lossEffects c.port s).load c).tally = (s.load c).tally := by
  have taken (cause : Cause) : ((takeWeigh c none (linkCause cause s)).load c).weigh = none ∧
      ((takeWeigh c none (linkCause cause s)).load c).tally = (s.load c).tally := by
    have load : (linkCause cause s).load c = s.load c := congrArg (PerCar.get · c) (linkCause_calm cause s).load
    unfold takeWeigh
    rw [evaluateLoad_load, if_pos rfl, ← load]
    simp [State.load, State.withLoad, State.withAdu]
  cases c with
  | a => exact taken .linkCra
  | b => exact taken .linkCrb

/-- A live line latches the link's cause (R168). -/
theorem lossEffects_cause {i : PortId} {cause : Cause} {s : State} (live : s.live = true)
    (row : (i, cause) = (.drv, .linkDrv) ∨ (i, cause) = (.cra, .linkCra) ∨ (i, cause) = (.crb, .linkCrb)) :
    ∃ e ∈ (lossEffects i s).bks.demand.causes, e.cause = cause ∧ 3 ≤ e.level.rank := by
  have latched (c : Cause) : linkCause c s = raiseAs .latch c .emergency s := if_pos live
  rcases row with row | row | row
  · cases row
    change ∃ e ∈ (linkCause .linkDrv s).bks.demand.causes, _
    rw [latched]
    exact raiseAs_entry ..
  · cases row
    change ∃ e ∈ (takeWeigh .a none (linkCause .linkCra s)).bks.demand.causes, _
    rw [takeWeigh_bks, latched]
    exact raiseAs_entry ..
  · cases row
    change ∃ e ∈ (takeWeigh .b none (linkCause .linkCrb s)).bks.demand.causes, _
    rw [takeWeigh_bks, latched]
    exact raiseAs_entry ..

theorem loseLink_port (i : PortId) (s : State) : (loseLink i s).port i = (s.port i).lost := State.port_withPort_same ..

/-- The console's link is none of those that readiness asks for (R70). -/
theorem loseLink_con_readiness (s : State) : (loseLink .con s).readiness = s.readiness := by
  have same (c : ReadyCond) : (loseLink .con s).readyHolds c = s.readyHolds c := by cases c <;> rfl
  simp only [State.readiness, same]

theorem loseLink_con_waits (s : State) : (loseLink .con s).waits = s.waits := by
  unfold State.waits
  rw [loseLink_con_readiness]
  rfl

theorem loseLink_con_rested (s : State) : (loseLink .con s).rested.rco = s.rested.rco := by
  unfold State.rested
  rw [loseLink_con_readiness]
  rfl

theorem silenceExpiry_eq {s : State} {i : PortId} (timed : (s.port i).silence.isSome = true) (empty : (s.port i).rx = []) :
    silenceExpiry i s = endEvent (lossEffects i (loseLink i s)) := by
  have rx : ((endEvent (lossEffects i (loseLink i s))).port i).rx = [] := by
    rw [((Calm.endEvent _).ports i).rx, (lossEffects_noticed i i _).rx, loseLink_port]
    exact empty
  refine (if_pos timed).trans ?_
  unfold takeAll
  rw [rx]
  rfl

/-- Settles O40. -/
theorem silenceLosesTheLink : Obligations.SilenceLosesTheLink := by
  intro s i loaded timed empty
  have expired := silenceExpiry_eq timed empty
  have done : exec (.silenceTimerExpiry i) s = .next (silenceExpiry i s) :=
    congrArg Host.Outcome.next (whileOperating_of_operating _ (operating_of_loaded loaded))
  rw [expired] at done
  have ends := Calm.endEvent (lossEffects i (loseLink i s))
  have contained := lossEffects_contained i (loseLink i s)
  refine ⟨_, done, ?_, ?_, ends.msu.trans contained.msu, ends.cfs.trans contained.cfs, fun c own => ?_, fun cause live row => ?_,
    fun con waits => ?_, fun x g own station waiting => ?_⟩
  · exact ends.attention _ (lossEffects_attention i _ _ (State.attention_setAttention_same ..))
  · have noticed := (lossEffects_noticed i i (loseLink i s)).trans (ends.ports i)
    rw [noticed.lost (by rw [loseLink_port]; rfl), loseLink_port]
    rfl
  · subst own
    have load : (endEvent (lossEffects c.port (loseLink c.port s))).load c = (lossEffects c.port (loseLink c.port s)).load c :=
      congrArg (PerCar.get · c) ends.load
    rw [load]
    exact lossEffects_load c (loseLink c.port s)
  · exact (Mounts.endEvent _).entry (lossEffects_cause (s := loseLink i s) live row)
  · subst con
    have waits' : (loseLink .con s).waits = true := (loseLink_con_waits s).trans waits
    have ended : endEvent (lossEffects .con (loseLink .con s)) = (loseLink .con s).rested := endEvent_of_waits waits'
    rw [ended]
    exact ⟨loseLink_con_rested s, rfl, rfl, rfl⟩
  · have lost : lossEffects i (loseLink i s) = stationLost x (loseLink i s) := by
      subst own
      cases x <;> rfl
    have member : g ∈ allIndices := mem_allIndices g
    have thins := endEvent_thins (stationLost x (loseLink i s))
    rw [lost]
    refine ⟨fun waits => ?_, fun lists => ?_⟩
    · have left := foldl_leaveWaiting_not_waiting station allIndices member (loseLink i s)
      have policies (l : List (Fin 8)) (u : State) (h : (u.gate g).state ≠ .waiting) : ((l.foldl evaluatePolicy u).gate g).state ≠ .waiting := by
        induction l generalizing u with
        | nil => exact h
        | cons p l ih => exact ih _ (evaluatePolicy_not_waiting h p)
      rcases thins.gates g with same | idle
      · exact policies _ _ left (same.symm.trans waits)
      · rw [idle] at waits
        cases waits
    · have out := State.Lists.foldl_out (s := loseLink i s) lists station waiting member
      have policies (l : List (Fin 8)) (u : State) (h : Out u g) : Out (l.foldl evaluatePolicy u) g := by
        induction l generalizing u with
        | nil => exact h
        | cons p l ih => exact ih _ (h.evaluatePolicy p)
      have gone := (policies ((loseLink i s).waitingAt x) _ out).thins thins
      exact ⟨gone.idle, gone.listed _⟩

end Sys2Proof.Machine
end

section
/-! The completion of a transmission (R164 to R166). -/

namespace Sys2Proof.Machine

/-! ### Pending notices -/

/-- The flags of the gates keep their order by gate number, a key once each (R166). -/
theorem mem_insertPending (n x : PendingGate) {l : List PendingGate} (sorted : (l.map PendingGate.gate).Pairwise (· < ·)) :
    x ∈ insertPending n l ↔ x = n ∨ (x ∈ l ∧ x.gate ≠ n.gate) := by
  induction l with
  | nil => simp [insertPending]
  | cons y rest ih =>
    simp only [List.map_cons, List.pairwise_cons, List.mem_map, forall_exists_index, and_imp, forall_apply_eq_imp_iff₂] at sorted
    obtain ⟨above, sorted⟩ := sorted
    unfold insertPending
    split
    · rename_i before
      have later (h : x ∈ y :: rest) : x.gate ≠ n.gate := by
        rcases List.mem_cons.mp h with rfl | h
        · exact Ne.symm (Fin.ne_of_lt before)
        · exact Ne.symm (Fin.ne_of_lt (Fin.lt_trans before (above x h)))
      rw [List.mem_cons]
      exact or_congr_right ⟨fun h => ⟨h, later h⟩, And.left⟩
    · split
      · rename_i same
        have later (h : x ∈ rest) : x.gate ≠ n.gate := fun eq => absurd (above x h) (by rw [eq, same]; exact Fin.lt_irrefl _)
        have own (h : x = y) : ¬x.gate ≠ n.gate := fun ne => ne (by rw [h, same])
        rw [List.mem_cons, List.mem_cons]
        refine or_congr_right ⟨fun h => ⟨.inr h, later h⟩, fun ⟨h, ne⟩ => h.resolve_left fun eq => own eq ne⟩
      · rename_i different
        rw [List.mem_cons, ih sorted, List.mem_cons]
        constructor
        · rintro (rfl | rfl | ⟨h, ne⟩)
          · exact .inr ⟨.inl rfl, Ne.symm different⟩
          · exact .inl rfl
          · exact .inr ⟨.inr h, ne⟩
        · rintro (rfl | ⟨rfl | h, ne⟩)
          · exact .inr (.inl rfl)
          · exact .inl rfl
          · exact .inr (.inr ⟨h, ne⟩)

theorem insertPending_sorted (n : PendingGate) {l : List PendingGate} (sorted : (l.map PendingGate.gate).Pairwise (· < ·)) :
    ((insertPending n l).map PendingGate.gate).Pairwise (· < ·) := by
  induction l with
  | nil => simp [insertPending]
  | cons y rest ih =>
    have whole := sorted
    simp only [List.map_cons, List.pairwise_cons, List.mem_map, forall_exists_index, and_imp, forall_apply_eq_imp_iff₂] at sorted
    obtain ⟨above, sorted⟩ := sorted
    unfold insertPending
    split
    · rename_i before
      simp only [List.map_cons, List.pairwise_cons, List.mem_cons, List.mem_map, forall_eq_or_imp, forall_exists_index, and_imp,
        forall_apply_eq_imp_iff₂]
      exact ⟨⟨before, fun x h => Fin.lt_trans before (above x h)⟩, above, sorted⟩
    · split
      · rename_i same
        simp only [List.map_cons, List.pairwise_cons, List.mem_map, forall_exists_index, and_imp, forall_apply_eq_imp_iff₂]
        exact ⟨fun x h => same ▸ above x h, sorted⟩
      · rename_i after different
        simp only [List.map_cons, List.pairwise_cons, List.mem_map, forall_exists_index, and_imp, forall_apply_eq_imp_iff₂]
        refine ⟨fun x h => ?_, ih sorted⟩
        rcases (mem_insertPending n x sorted).mp h with rfl | ⟨h, -⟩
        · exact (Fin.eq_or_lt_of_le (Fin.not_lt.mp after)).resolve_left (Ne.symm different)
        · exact above x h

/-- Pending gate notices are placed in their order while places remain (R166). -/
theorem placeGates_eq (l : List PendingGate) (p : Port) (within : p.tx.length ≤ 6) :
    p.placeGates l = { p with pendingGates := l.drop (6 - p.tx.length), tx := p.tx ++ (l.take (6 - p.tx.length)).map gateNotice } := by
  induction l generalizing p with
  | nil => simp [Port.placeGates]
  | cons n rest ih =>
    unfold Port.placeGates
    split
    · rename_i free
      have room : p.tx.length < 6 := of_decide_eq_true free
      rw [ih _ (by simp; omega)]
      have one : 6 - p.tx.length = (6 - (p.tx.length + 1)) + 1 := by omega
      rw [one]
      simp
    · rename_i full
      have full : 6 ≤ p.tx.length := Nat.not_lt.mp fun room => full (decide_eq_true room)
      rw [Nat.sub_eq_zero_of_le full]
      simp

/-! ### Requests taken after a completion (R164) -/

/-- Requests have been taken one after another: each is answered in its turn, and no more than the queues allow. -/
structure Taken (s t : State) (i : PortId) : Prop where
  answering : t.answering = none
  held : t.held = []
  completing : t.completing = s.completing
  shorter : (t.port i).rx.length ≤ (s.port i).rx.length
  account : (t.replies i).length + (t.port i).rx.length = (s.replies i).length + (s.port i).rx.length
  place : ∀ (k : Nat) (x : TxEntry), (s.port i).tx[k]? = some x → x.isNotice = false → (t.port i).tx[k]? = some x

theorem Taken.refl {s : State} {i : PortId} (answering : s.answering = none) (held : s.held = []) : Taken s s i :=
  ⟨answering, held, rfl, Nat.le_refl _, rfl, fun _ _ h _ => h⟩

/-- One request taken. -/
theorem answerRequest_answers (i : PortId) (r : Request) (rest : List Request) (s : State) :
    ∃ e, Answers (s.withPort i { s.port i with rx := rest }) (answerRequest i r rest s) i e := ⟨_, answered_answers ..⟩

theorem Answers.taken {s t : State} {i : PortId} {r : Request} {rest : List Request} {e : TxEntry} (queue : (s.port i).rx = r :: rest)
    (h : Answers (s.withPort i { s.port i with rx := rest }) t i e) : Taken s t i where
  answering := h.answering
  held := h.held
  completing := h.completing
  shorter := by
    rw [h.rx, State.port_withPort_same, queue, List.length_cons]
    exact Nat.le_succ _
  account := by
    have replies : (s.withPort i { s.port i with rx := rest }).replies i = s.replies i := by simp [State.replies]
    rw [h.own, h.rx, State.port_withPort_same, replies, queue]
    simp
    omega
  place k x := by
    have := h.place k x
    rw [State.port_withPort_same] at this
    exact this

theorem Taken.trans {s t u : State} {i : PortId} (a : Taken s t i) (b : Taken t u i) : Taken s u i :=
  ⟨b.answering, b.held, b.completing.trans a.completing, Nat.le_trans b.shorter a.shorter, b.account.trans a.account,
    fun k x h n => b.place k x (a.place k x h n) n⟩

theorem takeRequests_taken (i : PortId) (n : Nat) (s : State) (answering : s.answering = none) (held : s.held = []) :
    Taken s (takeRequests i n s) i ∧
      ((s.port i).rx.length ≤ n → ((takeRequests i n s).port i).rx = [] ∨ ((takeRequests i n s).port i).mayTake = false) := by
  induction n generalizing s with
  | zero => exact ⟨.refl answering held, fun short => .inl (List.length_eq_zero_iff.mp (Nat.le_zero.mp short))⟩
  | succ n ih =>
    unfold takeRequests
    split
    · rename_i empty
      exact ⟨.refl answering held, fun _ => .inl empty⟩
    · rename_i r rest queue
      split
      · obtain ⟨e, answers⟩ := answerRequest_answers i r rest s
        obtain ⟨taken, ends⟩ := ih (answerRequest i r rest s) answers.answering answers.held
        refine ⟨(answers.taken queue).trans taken, fun short => ends ?_⟩
        rw [answers.rx, State.port_withPort_same]
        rw [queue, List.length_cons] at short
        exact Nat.le_of_succ_le_succ short
      · rename_i blocked
        exact ⟨.refl answering held, fun _ => .inr (Bool.eq_false_iff.mpr blocked)⟩

/-! ### The completion (R165) -/

/-- The oldest telegram has left. -/
def State.left (s : State) (i : PortId) (rest : List TxEntry) : State :=
  (s.withPort i { s.port i with tx := rest }).withCompleting (some i)

theorem left_port (s : State) (i : PortId) (rest : List TxEntry) : (s.left i rest).port i = { s.port i with tx := rest } :=
  State.port_withPort_same ..

theorem transmissionEnd_eq {s : State} {i : PortId} {e : TxEntry} {rest : List TxEntry} (queue : (s.port i).tx = e :: rest) :
    transmissionEnd i s = (takeAll i (placePending i (s.left i rest))).withCompleting none := by
  unfold transmissionEnd
  rw [queue]
  rfl

theorem takeAll_of_empty {s : State} {i : PortId} (empty : (s.port i).rx = []) : takeAll i s = s := by
  unfold takeAll
  rw [empty]
  rfl

theorem placePending_of_ordered {s u : State} {i : PortId} (ordered : placeOrder i s = u) :
    placePending i s = u.withPort i ((u.port i).placeGates (u.port i).pendingGates) := by
  subst ordered
  rfl

theorem placePending_none {s : State} {i : PortId} (clear : (s.port i).somePending = false) : placePending i s = s := by
  simp only [Port.somePending, Bool.or_eq_false_iff, Bool.not_eq_false', List.isEmpty_iff] at clear
  obtain ⟨order, gates⟩ := clear
  have ordered : placeOrder i s = s := by
    unfold placeOrder
    dsimp only
    split
    · exact if_neg (by simp [order])
    · rfl
  have same : (s.port i).placeGates [] = s.port i := by
    change { s.port i with pendingGates := [] } = s.port i
    rw [← gates]
  rw [placePending_of_ordered ordered, gates, same]
  exact withPort_port s i

/-- A pending order alone takes the place that is free (R166). -/
theorem placePending_order {s : State} {i : PortId} {n : Notice} (order : orderNotice i = some n) (pending : (s.port i).pendingOrder = true)
    (place : (s.port i).tx.length < 6) (gates : (s.port i).pendingGates = []) :
    placePending i s = s.withPort i { s.port i with pendingOrder := false, tx := (s.port i).tx ++ [n.entry s] } := by
  have ordered : placeOrder i s = s.withPort i { s.port i with pendingOrder := false, tx := (s.port i).tx ++ [n.entry s] } := by
    unfold placeOrder
    rw [order]
    exact if_pos ((Bool.and_eq_true ..).mpr ⟨pending, decide_eq_true place⟩)
  rw [placePending_of_ordered ordered, State.port_withPort_same, withPort_withPort]
  congr 1
  simp [Port.placeGates, gates]

/-- At a station the pending gate notices follow (R166). -/
theorem placePending_gates {s : State} {i : PortId} (station : i = .sta1 ∨ i = .sta2) (within : (s.port i).tx.length ≤ 6) :
    placePending i s =
      s.withPort i { s.port i with
        pendingGates := (s.port i).pendingGates.drop (6 - (s.port i).tx.length)
        tx := (s.port i).tx ++ ((s.port i).pendingGates.take (6 - (s.port i).tx.length)).map gateNotice } := by
  have ordered : placeOrder i s = s := by rcases station with rfl | rfl <;> rfl
  rw [placePending_of_ordered ordered, placeGates_eq _ _ within]

/-- Settles O39. -/
theorem completionFreesPlace : Obligations.CompletionFreesPlace := by
  refine ⟨fun s i loaded settled => ⟨fun empty => ?_, fun e rest queue capacity => ⟨fun idle => ⟨fun clear => ?_, fun order row pending gates => ?_,
    fun station pending => ?_⟩, fun r more waiting clear => ?_⟩⟩, fun n l sorted => ⟨insertPending_sorted n sorted,
    (mem_insertPending n n sorted).mpr (.inl rfl), fun x => mem_insertPending n x sorted⟩⟩
  all_goals
    have done : exec (.transmissionCompletion i) s = .next (transmissionEnd i s) :=
      congrArg Host.Outcome.next (whileOperating_of_operating _ (operating_of_loaded loaded))
    obtain ⟨answering, held, completing⟩ := (State.settled_iff s).mp settled
  · have same : transmissionEnd i s = s := by
      unfold transmissionEnd
      rw [empty]
    rw [done, same]
  all_goals
    have back (p : Port) : ((s.left i rest).withPort i p).withCompleting none = s.withPort i p := by
      have clear : (s.withPort i p).withCompleting none = s.withPort i p := by
        rw [← completing]
        rfl
      rw [← clear, ← withPort_withPort s i { s.port i with tx := rest } p]
      rfl
    have shorter : rest.length < 6 := by
      rw [queue, List.length_cons] at capacity
      exact capacity
    have port := left_port s i rest
    rw [done, transmissionEnd_eq queue]
  · have same : (s.left i rest).withCompleting none = s.withPort i { s.port i with tx := rest } := by
      rw [← back, ← port, withPort_port]
    rw [placePending_none (by rw [port]; exact clear), takeAll_of_empty (by rw [port]; exact idle), same]
  · obtain ⟨n, notice, entry⟩ : ∃ n, orderNotice i = some n ∧ n.entry (s.left i rest) = order := by
      rcases row with row | row | row
      · cases row
        exact ⟨.driveOrder, rfl, rfl⟩
      · cases row
        exact ⟨.carOrder .a, rfl, rfl⟩
      · cases row
        exact ⟨.carOrder .b, rfl, rfl⟩
    have placed := placePending_order (s := s.left i rest) notice (by rw [port]; exact pending) (by rw [port]; exact shorter) (by rw [port]; exact gates)
    rw [port, entry] at placed
    rw [placed, takeAll_of_empty (by rw [State.port_withPort_same]; exact idle), back]
  · have placed := placePending_gates (s := s.left i rest) station (by rw [port]; exact Nat.le_of_lt shorter)
    rw [port] at placed
    rw [placed, takeAll_of_empty (by rw [State.port_withPort_same]; exact idle), back]
  · have queued : ((s.left i rest).port i).rx = r :: more := by rw [port]; exact waiting
    have may : ((s.left i rest).port i).mayTake = true := by
      rw [port]
      exact (Bool.and_eq_true ..).mpr ⟨by simpa [Port.somePending] using clear, decide_eq_true shorter⟩
    obtain ⟨e', answers⟩ := answerRequest_answers i r more (s.left i rest)
    have first : takeAll i (s.left i rest) = takeRequests i more.length (answerRequest i r more (s.left i rest)) := by
      unfold takeAll
      rw [queued, List.length_cons, takeRequests, queued]
      exact if_pos may
    obtain ⟨taken, ends⟩ := takeRequests_taken i more.length _ answers.answering answers.held
    have one := answers.taken queued
    have tail := answers.tail
    have rx := answers.rx i
    have grows : rest.length < ((answerRequest i r more (s.left i rest)).port i).tx.length := by
      rw [State.port_withPort_same, port] at tail
      exact (List.getElem?_eq_some_iff.mp tail).1
    rw [State.port_withPort_same, port] at tail rx
    rw [placePending_none (by rw [port]; exact clear), first]
    have all := one.trans taken
    have account := all.account
    refine ⟨_, rfl, (State.settled_iff _).mpr ⟨all.answering, all.held, rfl⟩, ⟨e', taken.place _ _ tail answers.reply, answers.reply⟩, ?_,
      fun full => ?_, ?_, ends (Nat.le_of_eq (congrArg List.length rx))⟩
    · exact Nat.le_trans taken.shorter (Nat.le_of_eq (congrArg List.length rx))
    · have blocked : ((answerRequest i r more (s.left i rest)).port i).mayTake = false := by
        rw [queue, List.length_cons] at full
        have crowded : 6 ≤ ((answerRequest i r more (s.left i rest)).port i).tx.length := by omega
        exact (Bool.and_eq_false_iff ..).mpr (.inr (decide_eq_false (Nat.not_lt.mpr crowded)))
      have stays : takeRequests i more.length (answerRequest i r more (s.left i rest)) = answerRequest i r more (s.left i rest) := by
        have all := takeAll_of_blocked blocked
        unfold takeAll at all
        rwa [rx] at all
      rw [stays]
      exact rx
    · simp only [State.replies, port, ← List.countP_eq_length_filter] at account
      exact account

end Sys2Proof.Machine
end

section
/-! The reports of the drive and of the cars (R56, R103, R125, R156). -/

namespace Sys2Proof.Machine

/-! ### A DRIVE REPORT (R56, R102, R103) -/

theorem DriveState.ofByte_eq (b : Byte) :
    DriveState.ofByte b =
      if b = 0 then .idle else if b = 1 then .proving else if b = 2 then .torqueProved else if b = 3 then .running else .fault := by
  have zero : b = 0 ↔ b.toNat = 0 := BitVec.toNat_inj.symm
  have one : b = 1 ↔ b.toNat = 1 := BitVec.toNat_inj.symm
  have two : b = 2 ↔ b.toNat = 2 := BitVec.toNat_inj.symm
  have three : b = 3 ↔ b.toNat = 3 := BitVec.toNat_inj.symm
  simp only [zero, one, two, three, DriveState.ofByte]
  split
  · rename_i h
    rw [if_pos h]
  · rename_i h
    rw [if_neg (by omega), if_pos h]
  · rename_i h
    rw [if_neg (by omega), if_neg (by omega), if_pos h]
  · rename_i h
    rw [if_neg (by omega), if_neg (by omega), if_neg (by omega), if_pos h]
  · rename_i h0 h1 h2 h3
    rw [if_neg h0, if_neg h1, if_neg h2, if_neg h3]

theorem SbCondition.ofByte_eq (b : Byte) : SbCondition.ofByte b = if b = 0 then .applied else .lifted := by
  have zero : b.toNat = 0 ↔ b = 0 := ⟨fun h => BitVec.eq_of_toNat_eq h, fun h => by rw [h]; rfl⟩
  simp only [SbCondition.ofByte, zero]

/-- With an idle slot the report is for no step (R103). -/
theorem driveStep_idle {r : DriveReport} {s : State} (slot : s.bks.slot = .idle) : driveStep r s = s := by
  unfold driveStep
  rw [slot]

theorem takeDriveReport_kept (r : DriveReport) (s : State) :
    Contained s (takeDriveReport r s) ∧ (takeDriveReport r s).adu.load = s.adu.load ∧ (takeDriveReport r s).rco.driveReport = some r := by
  have stepped := Calm.driveStep r (s.driveReported r)
  obtain ⟨-, -, -, adu, -, -⟩ := driveReported_same s r
  have report : (s.driveReported r).rco.driveReport = some r := by rw [driveReported_rco]
  have load : (s.driveReported r).adu.load = s.adu.load := congrArg Adu.load adu
  refine ⟨Contained.takeDriveReport r s, ?_, ?_⟩
  · rw [takeDriveReport_eq]
    split
    · exact (Calm.raise ..).load.trans (stepped.load.trans load)
    · exact stepped.load.trans load
  · rw [takeDriveReport_eq]
    split
    · exact (Calm.raise ..).driveReport.trans (stepped.driveReport.trans report)
    · exact stepped.driveReport.trans report

/-- A cause that raises an unlatched line to SERVICE or above asks for the service brake (R100). -/
theorem raiseAs_demands {a : AbortCause} {c : Cause} {l : Level} {s : State} (hl : 2 ≤ l.rank) (free : s.bks.demand.latched = .none) :
    (raiseAs a c l s).bks.sbDmd = true := by
  have brakes : s.bks.demand.latched.brakes = false := by rw [free]; rfl
  have law : Restrained s.bks :=
    ⟨fun _ => brakes, fun _ => by rw [free]; decide, fun h => by rw [brakes] at h; cases h⟩
  have latched := raiseAs_latched a c l s
  exact (raiseAs_restrained a c ((Level.brakes_iff l).mpr hl) law).demanded ((Level.brakes_iff _).mpr (by omega))

/-- A FAULT that a live line reports with an idle slot is a DRIVE at SERVICE (R102). -/
theorem takeDriveReport_faults {r : DriveReport} {s : State} (fault : r.state = .fault) (live : s.live = true) (slot : s.bks.slot = .idle) :
    (∃ e ∈ (takeDriveReport r s).bks.demand.causes, e.cause = .drive ∧ 2 ≤ e.level.rank) ∧
      (s.bks.demand.latched = .none → (takeDriveReport r s).bks.sbDmd = true ∧
        (takeDriveReport r s).attention .brakeLatched = true ∧ (takeDriveReport r s).bks.demand.latched ≠ .none) := by
  have bks := driveReported_bks s r
  have idle : driveStep r (s.driveReported r) = s.driveReported r := driveStep_idle (by rw [bks]; exact slot)
  have took : takeDriveReport r s = raise .drive .service (s.driveReported r) := by
    rw [takeDriveReport_eq, if_pos ⟨fault, live⟩, idle]
  rw [took]
  refine ⟨raiseAs_entry _ .drive .service _, fun free => ?_⟩
  have free' : (s.driveReported r).bks.demand.latched = .none := by rw [bks]; exact free
  have latched := raiseAs_latched .latch .drive .service (s.driveReported r)
  refine ⟨raiseAs_demands (by decide) free', (raiseAs_latches (by decide) free').1, fun h => ?_⟩
  change _ ≤ (raise .drive .service (s.driveReported r)).bks.demand.latched.rank at latched
  rw [h] at latched
  exact absurd latched (by decide)

/-- Any other state reported with an idle slot is taken and does nothing more (R56, R103). -/
theorem takeDriveReport_idle {r : DriveReport} {s : State} (sound : r.state ≠ .fault) (slot : s.bks.slot = .idle) :
    takeDriveReport r s = s.driveReported r := by
  rw [takeDriveReport_sound s r sound]
  exact driveStep_idle (by rw [driveReported_bks]; exact slot)

/-! ### What a request taken now leaves, said of the end of its event -/

/-- Where a request taken now leads when its event ends in `w`: to the blocks of `w` and to its items. -/
structure Ends (w u : State) : Prop where
  blocks : SameBlocks w u
  pc5 : u.pc5 = w.pc5
  att : u.att = w.att

theorem Ends.cfs {w u : State} (e : Ends w u) : u.cfs = w.cfs := e.blocks.cfs
theorem Ends.msu {w u : State} (e : Ends w u) : u.msu = w.msu := e.blocks.msu
theorem Ends.rco {w u : State} (e : Ends w u) : u.rco = w.rco := e.blocks.rco
theorem Ends.ssv {w u : State} (e : Ends w u) : u.ssv = w.ssv := e.blocks.ssv
theorem Ends.bks {w u : State} (e : Ends w u) : u.bks = w.bks := e.blocks.bks
theorem Ends.dou {w u : State} (e : Ends w u) : u.dou = w.dou := e.blocks.dou
theorem Ends.adu {w u : State} (e : Ends w u) : u.adu = w.adu := e.blocks.adu
theorem Ends.door {w u : State} (e : Ends w u) (c : Car) : u.door c = w.door c := congrArg (fun d => d.get c) e.dou
theorem Ends.load {w u : State} (e : Ends w u) (c : Car) : u.load c = w.load c := congrArg (fun a => a.load.get c) e.adu
theorem Ends.line {w u : State} (e : Ends w u) : u.line = w.line := congrArg (fun k => k.tables.line) e.cfs
theorem Ends.attention {w u : State} (e : Ends w u) (i : Attention) : u.attention i = w.attention i :=
  congrArg (fun a => a.get i.index) e.att

theorem Ends.answered (w : State) (ports : Ports) : Ends w (((w.withAnswering none).withPorts ports).withHeld []) :=
  ⟨⟨rfl, rfl, rfl, rfl, rfl, rfl, rfl⟩, rfl, rfl⟩

/-- A row whose request is decided so: its event ends, and the reply stands at the end of what the transmit queue held, formed of the
state that the event leaves. -/
theorem exec_ends {s t : State} {c : Instr} {i : PortId} {r : Request} {reply : Reply} (row : c.request = some (i, r))
    (taken : s.takesNow i = true) (decided : decideRequest i r (s.withAnswering (some i)) = (t, reply)) :
    ∃ u, exec c s = .next u ∧ Ends (endEvent t) u ∧ (u.port i).tx[(s.port i).tx.length]? = some (reply.form u) ∧
      (i = .con → u.ports.con.tx = s.ports.con.tx ++ [reply.form u]) := by
  obtain ⟨ports, next, place, con⟩ := exec_request row taken
  have state : decidedState i r s = (endEvent t).withAnswering none := by
    unfold decidedState
    rw [decided]
  have formed : replyTo i r s = reply.form ((((endEvent t).withAnswering none).withPorts ports).withHeld []) := by
    rw [replyTo_of_decided decided, state]
    cases reply <;> rfl
  rw [state] at next
  exact ⟨_, next, .answered _ ports, formed ▸ place, formed ▸ con⟩


/-- Settles O41: the report is taken before anything acts on it; with an idle slot only a FAULT does. -/
theorem driveReportIsTaken : Obligations.DriveReportIsTaken := by
  intro s state sb taken
  have decided : decideRequest .drv (.driveReport state sb) (s.withAnswering (some .drv)) =
      (takeDriveReport { state := .ofByte state, sb := .ofByte sb } (s.withAnswering (some .drv)), .driveOrder) := rfl
  obtain ⟨contained, load, reported⟩ := takeDriveReport_kept { state := .ofByte state, sb := .ofByte sb } (s.withAnswering (some .drv))
  have faults := takeDriveReport_faults (r := { state := .ofByte state, sb := .ofByte sb }) (s := s.withAnswering (some .drv))
  have idle := takeDriveReport_idle (r := { state := .ofByte state, sb := .ofByte sb }) (s := s.withAnswering (some .drv))
  generalize takeDriveReport { state := .ofByte state, sb := .ofByte sb } (s.withAnswering (some .drv)) = w at decided contained load reported faults idle
  have ends := Calm.endEvent w
  have mounts := Mounts.endEvent w
  have latches := endEvent_of_latched (s := w)
  have rests := endEvent_of_run (s := w)
  obtain ⟨u, next, done, place, -⟩ := exec_ends (c := .driveReport state sb) rfl taken decided
  generalize endEvent w = e at ends mounts latches rests done
  refine ⟨u, next, ?_, place, done.msu.trans (ends.msu.trans contained.msu), done.cfs.trans (ends.cfs.trans contained.cfs),
    done.pc5.trans (ends.pc5.trans contained.pc5), (congrArg Adu.load done.adu).trans (ends.load.trans load),
    fun fault live slot => ?_, fun slot sound run => ?_⟩
  · refine (congrArg Rco.driveReport done.rco).trans ((ends.driveReport.trans reported).trans ?_)
    rw [← DriveState.ofByte_eq, ← SbCondition.ofByte_eq]
  · have faulted : DriveState.ofByte state = .fault := by
      unfold DriveState.ofByte
      split
      case h_5 => rfl
      all_goals omega
    obtain ⟨⟨entry, mem, cause, level⟩, rise⟩ := faults faulted live slot
    obtain ⟨later, mem', cause', level'⟩ := mounts.causes entry mem
    refine ⟨⟨later, by rw [done.bks]; exact mem', cause'.trans cause, Nat.le_trans level level'⟩, fun free => ?_⟩
    obtain ⟨demanded, item, latched⟩ := rise free
    rw [done.bks, done.attention, latches latched]
    exact ⟨demanded, item⟩
  · have sound' : DriveState.ofByte state ≠ .fault := DriveState.ofByte_sound (by omega)
    have same := idle sound' slot
    have bks := driveReported_bks (s.withAnswering (some .drv)) { state := .ofByte state, sb := .ofByte sb }
    have rco := driveReported_rco (s.withAnswering (some .drv)) { state := .ofByte state, sb := .ofByte sb }
    obtain ⟨-, -, dou, adu, att, -⟩ := driveReported_same (s.withAnswering (some .drv)) { state := .ofByte state, sb := .ofByte sb }
    rw [← same] at bks rco dou adu att
    have ended := rests (by rw [rco]; exact run)
    have confirmed : (SbCondition.ofByte sb == .applied) = decide (sb = 0) := by
      rw [SbCondition.ofByte_eq]
      by_cases zero : sb = 0
      · rw [if_pos zero, decide_eq_true zero]
        rfl
      · rw [if_neg zero, decide_eq_false zero]
        rfl
    refine ⟨?_, ?_, ?_, ?_, ?_, ?_⟩
    · rw [done.bks, ended, ← confirmed]
      exact bks
    · rw [done.rco, ended]
      exact (congrArg Rco.authority rco : _)
    · rw [done.rco, ended]
      exact (congrArg Rco.runState rco : _)
    · exact done.dou.trans ((congrArg State.dou ended).trans dou)
    · exact done.adu.trans ((congrArg State.adu ended).trans adu)
    · exact done.att.trans ((congrArg State.att ended).trans att)

end Sys2Proof.Machine
end

section
/-! A CAR REPORT: its fields, its weigh and the load flags (R124, R125, R156). -/

namespace Sys2Proof.Machine

/-! ### What the steps of a CAR REPORT leave of it -/

/-- The load records, the drive report and the reported fields of the cars stay, and no attention item is cleared. -/
structure LeavesReports (s t : State) : Prop where
  load : t.adu.load = s.adu.load
  driveReport : t.rco.driveReport = s.rco.driveReport
  attention : ∀ a, s.attention a = true → t.attention a = true
  doors : ∀ c, (t.door c).door = (s.door c).door ∧ (t.door c).rail = (s.door c).rail ∧
    (t.door c).carFault = (s.door c).carFault ∧ (t.door c).heldToken = (s.door c).heldToken

theorem Calm.leavesReports {s t : State} (calm : Calm s t) : LeavesReports s t where
  load := calm.load
  driveReport := calm.driveReport
  attention := calm.attention
  doors c := by
    obtain ⟨door, rail, fault, token, -⟩ := calm.doors c
    exact ⟨door, rail, fault, token⟩

namespace LeavesReports

theorem refl (s : State) : LeavesReports s s := (Calm.refl s).leavesReports

theorem after {s t u : State} (b : LeavesReports t u) (a : LeavesReports s t) : LeavesReports s u where
  load := b.load.trans a.load
  driveReport := b.driveReport.trans a.driveReport
  attention i h := b.attention i (a.attention i h)
  doors c := by
    obtain ⟨door, rail, fault, token⟩ := a.doors c
    obtain ⟨door', rail', fault', token'⟩ := b.doors c
    exact ⟨door'.trans door, rail'.trans rail, fault'.trans fault, token'.trans token⟩

theorem ite {s a b : State} {p : Prop} [Decidable p] (ha : p → LeavesReports s a) (hb : ¬p → LeavesReports s b) :
    LeavesReports s (if p then a else b) := by
  split
  · rename_i h
    exact ha h
  · rename_i h
    exact hb h

/-- A door record whose reported fields are those that stand. -/
theorem withDoor (s : State) (c : Car) (d : DoorRecord) (door : d.door = (s.door c).door) (rail : d.rail = (s.door c).rail)
    (fault : d.carFault = (s.door c).carFault) (token : d.heldToken = (s.door c).heldToken) : LeavesReports s (s.withDoor c d) where
  load := rfl
  driveReport := rfl
  attention _ h := h
  doors e := by
    rw [withDoor_door]
    split
    · rename_i same
      rw [same]
      exact ⟨door, rail, fault, token⟩
    · exact ⟨rfl, rfl, rfl, rfl⟩

theorem countStale (c : Car) (s : State) : LeavesReports s (countStale c s) :=
  .after (Calm.setAttention ..).leavesReports (.withDoor s c _ rfl rfl rfl rfl)

theorem completeWithdrawal (c : Car) (s : State) : LeavesReports s (completeWithdrawal c s) :=
  .ite (fun _ => .withDoor s c _ rfl rfl rfl rfl) fun _ => .refl s

theorem takeUp (c : Car) (s : State) : LeavesReports s (takeUp c s) := by
  unfold Machine.takeUp
  dsimp only
  split
  · exact .after (Calm.releaseHeld ..).leavesReports (.withDoor s c _ rfl rfl rfl rfl)
  · exact .withDoor s c _ rfl rfl rfl rfl

theorem judgeToken (c : Car) (token : Option (Fin 16)) (s : State) : LeavesReports s (judgeToken c token s) := by
  have withdrawn (w : WithdrawalCause) (t : State) : LeavesReports t (withdraw c w t) := (Calm.withdraw ..).leavesReports
  unfold Machine.judgeToken
  dsimp only
  split
  · exact .ite (fun _ => .refl s) fun _ => .after (withdrawn ..) (.countStale c s)
  · exact .ite (fun _ => .takeUp c s) fun _ => .ite (fun _ => .refl s) fun _ => .countStale c s
  · exact .ite (fun _ => .refl s) fun _ => .ite (fun _ => .after (.completeWithdrawal ..) (withdrawn ..)) fun _ => .countStale c s
  · exact .ite (fun _ => .completeWithdrawal c s) fun _ => .ite (fun _ => .refl s) fun _ => .countStale c s

theorem dealOpening (opening live departing : Bool) (s : State) : LeavesReports s (dealOpening opening live departing s) :=
  .ite (fun _ => .ite (fun _ => (Calm.after (.raise ..) (.setAttention ..)).leavesReports) fun _ => (Calm.setAttention ..).leavesReports)
    fun _ => .refl s

end LeavesReports

/-- The steps after the first leave what the first has taken (R125). -/
theorem takeCarReport_leavesReports (c : Car) (door : DoorCond) (token : Option (Fin 16)) (rail : RailCond) (fault : Bool) (s : State) :
    LeavesReports (takeFields c door token rail fault s) (takeCarReport c door token rail fault s) := by
  have granted (t : State) : LeavesReports t (doorsWhileGranted c t) :=
    .ite (fun _ => (Calm.after (.raise ..) (.withdrawAuthority t)).leavesReports) fun _ => .refl t
  have departing (t : State) : LeavesReports t (doorsInDeparture c t) :=
    .ite (fun _ => .refl t) fun _ => (Calm.abortDeparture ..).leavesReports
  have faulted (b : Bool) (t : State) : LeavesReports t (if b then raise .car .service t else t) :=
    .ite (fun _ => (Calm.raise ..).leavesReports) fun _ => .refl t
  have marked (p : Prop) [Decidable p] (t : State) : LeavesReports t (if p then t.setAttention .railFault else t) :=
    .ite (fun _ => (Calm.setAttention ..).leavesReports) fun _ => .refl t
  exact .after (Calm.testD1 _).leavesReports (.after (marked ..) (.after (faulted ..) (.after (.dealOpening ..)
    (.after (departing _) (.after (granted _) (.judgeToken ..))))))

theorem takeFields_door (c : Car) (door : DoorCond) (token : Option (Fin 16)) (rail : RailCond) (fault : Bool) (s : State) (e : Car) :
    (takeFields c door token rail fault s).door e =
      if e = c then
        { s.door c with door := door, heldToken := token.getD (s.door c).heldToken, rail := rail, carFault := fault }
      else s.door e := withDoor_door ..

/-! ### The weigh and the load flags (R156) -/

/-- A load record with its flags evaluated (R156). -/
def LoadRecord.evaluated (l : LoadRecord) (k : LineConsts) : LoadRecord :=
  { l with overload := l.overloaded k, tallyOver := l.tallyCondition k }

theorem takeWeigh_load (c : Car) (w : Option Nat) (s : State) (e : Car) :
    (takeWeigh c w s).load e = if e = c then { s.load c with weigh := w.map (min 40000) }.evaluated s.line else s.load e := by
  have line : (s.withLoad c { s.load c with weigh := w.map (min 40000) }).line = s.line := rfl
  unfold takeWeigh
  rw [evaluateLoad_load, line]
  split
  · rw [State.load_withLoad_same]
    rfl
  · rename_i other
    exact State.load_withLoad_other _ _ other

/-- The onset of the TALLY_OVER condition sets its item (R156). -/
theorem evaluateLoad_tallyOver {s : State} {c : Car} (holds : (s.load c).tallyCondition s.line = true)
    (onset : (s.load c).tallyOver = false) : (evaluateLoad s c).attention .tallyOver = true := by
  have risen : ((s.load c).tallyCondition s.line && !(s.load c).tallyOver) = true := by rw [holds, onset]; rfl
  unfold evaluateLoad
  dsimp only
  rw [if_pos risen]
  have set : ((s.withLoad c ((s.load c).evaluated s.line)).setAttention .tallyOver).attention .tallyOver = true :=
    State.attention_setAttention_same ..
  exact (Calm.ite (fun _ => .handNotice ..) fun _ => .refl _).attention _ set

theorem takeWeigh_tallyOver {c : Car} {w : Option Nat} {s : State} (holds : ((takeWeigh c w s).load c).tallyOver = true)
    (onset : (s.load c).tallyOver = false) : (takeWeigh c w s).attention .tallyOver = true := by
  rw [takeWeigh_load, if_pos rfl] at holds
  refine evaluateLoad_tallyOver ?_ ?_
  · rw [State.load_withLoad_same]
    exact holds
  · rw [State.load_withLoad_same]
    exact onset

/-! ### The codings of a report's fields (R124) -/

theorem DoorCond.ofByte_eq (b : Byte) :
    DoorCond.ofByte b = if b = 1 then .closedLocked else if b = 2 then .closedUnlocked else .opened := by
  have one : b = 1 ↔ b.toNat = 1 := BitVec.toNat_inj.symm
  have two : b = 2 ↔ b.toNat = 2 := BitVec.toNat_inj.symm
  simp only [one, two, DoorCond.ofByte]
  split
  · rename_i h
    rw [if_pos h]
  · rename_i h
    rw [if_neg (by omega), if_pos h]
  · rename_i h1 h2
    rw [if_neg h1, if_neg h2]

theorem RailCond.ofByte_eq (b : Byte) : RailCond.ofByte b = if b = 0 then .applied else if b = 1 then .lifted else .fault := by
  have zero : b = 0 ↔ b.toNat = 0 := BitVec.toNat_inj.symm
  have one : b = 1 ↔ b.toNat = 1 := BitVec.toNat_inj.symm
  simp only [zero, one, RailCond.ofByte]
  split
  · rename_i h
    rw [if_pos h]
  · rename_i h
    rw [if_neg (by omega), if_pos h]
  · rename_i h0 h1
    rw [if_neg h0, if_neg h1]

/-! ### The report as a row -/

/-- A CAR REPORT taken now leads to the end of the event that its steps and its weigh leave, and is answered by the order (R124). -/
theorem exec_carReport {s : State} {c : Car} {door token rail weighPresent fault : Byte} {weigh : BitVec 16}
    (taken : s.takesNow c.port = true) :
    ∃ u, exec (.carReport c door token rail weighPresent weigh fault) s = .next u ∧
      Ends (endEvent (takeWeigh c (if weighPresent = 0 then none else some weigh.toNat)
        (takeCarReport c (.ofByte door) (tokenOfByte token) (.ofByte rail) (fault != 0) (s.withAnswering (some c.port))))) u ∧
      (u.port c.port).tx[(s.port c.port).tx.length]? = some (carOrderTelegram u c false) := by
  have present : (if flagOfByte weighPresent then some weigh.toNat else none) = if weighPresent = 0 then none else some weigh.toNat := by
    simp [flagOfByte]
  have decided : decideRequest c.port (.carReport door token rail weighPresent weigh fault) (s.withAnswering (some c.port)) =
      (takeWeigh c (if weighPresent = 0 then none else some weigh.toNat)
        (takeCarReport c (.ofByte door) (tokenOfByte token) (.ofByte rail) (fault != 0) (s.withAnswering (some c.port))), .carOrder c) := by
    rw [← present]
    simp only [decideRequest, portCar_port]
    rfl
  obtain ⟨u, next, ends, place, -⟩ :=
    exec_ends (c := .carReport c door token rail weighPresent weigh fault) (r := .carReport door token rail weighPresent weigh fault)
      rfl taken decided
  exact ⟨u, next, ends, place⟩

theorem tokenOfByte_of_lt {b : Byte} (h : b.toNat < 16) : tokenOfByte b = some ⟨b.toNat, h⟩ := dif_pos h

theorem tokenOfByte_of_le {b : Byte} (h : 16 ≤ b.toNat) : tokenOfByte b = none := dif_neg (by omega)

/-- Settles O42: the first step takes the fields, the later ones leave them, and the weigh settles the load record. -/
theorem carReportIsTaken : Obligations.CarReportIsTaken := by
  intro s c door token rail weighPresent weigh fault taken
  obtain ⟨u, next, done, place⟩ := exec_carReport (s := s) (c := c) (door := door) (token := token) (rail := rail)
    (weighPresent := weighPresent) (fault := fault) (weigh := weigh) taken
  have contained := Contained.takeCarReport c (.ofByte door) (tokenOfByte token) (.ofByte rail) (fault != 0) (s.withAnswering (some c.port))
  have reports := takeCarReport_leavesReports c (.ofByte door) (tokenOfByte token) (.ofByte rail) (fault != 0) (s.withAnswering (some c.port))
  have fields := takeFields_door c (.ofByte door) (tokenOfByte token) (.ofByte rail) (fault != 0) (s.withAnswering (some c.port))
  have kept : ∀ e, (takeFields c (.ofByte door) (tokenOfByte token) (.ofByte rail) (fault != 0) (s.withAnswering (some c.port))).load e =
      s.load e := fun _ => rfl
  have heard : (takeFields c (.ofByte door) (tokenOfByte token) (.ofByte rail) (fault != 0) (s.withAnswering (some c.port))).rco.driveReport =
      s.rco.driveReport := rfl
  generalize takeFields c (.ofByte door) (tokenOfByte token) (.ofByte rail) (fault != 0) (s.withAnswering (some c.port)) = f at *
  generalize takeCarReport c (.ofByte door) (tokenOfByte token) (.ofByte rail) (fault != 0) (s.withAnswering (some c.port)) = w at *
  have weighed := Contained.takeWeigh c (if weighPresent = 0 then none else some weigh.toNat) w
  have load := takeWeigh_load c (if weighPresent = 0 then none else some weigh.toNat) w
  have onset := takeWeigh_tallyOver (c := c) (w := if weighPresent = 0 then none else some weigh.toNat) (s := w)
  have dou := takeWeigh_dou c (if weighPresent = 0 then none else some weigh.toNat) w
  have rco := takeWeigh_rco c (if weighPresent = 0 then none else some weigh.toNat) w
  generalize takeWeigh c (if weighPresent = 0 then none else some weigh.toNat) w = v at *
  have ends := Calm.endEvent v
  generalize endEvent v = e at *
  have doors (x : Car) : (u.door x).door = (f.door x).door ∧ (u.door x).rail = (f.door x).rail ∧
      (u.door x).carFault = (f.door x).carFault ∧ (u.door x).heldToken = (f.door x).heldToken := by
    have same : v.door x = w.door x := congrArg (fun d => d.get x) dou
    have ended := ends.leavesReports.doors x
    rw [same] at ended
    rw [done.door x]
    obtain ⟨door, rail, fault, token⟩ := reports.doors x
    obtain ⟨door', rail', fault', token'⟩ := ended
    exact ⟨door'.trans door, rail'.trans rail, fault'.trans fault, token'.trans token⟩
  have given (x : Car) : w.load x = s.load x := (congrArg (PerCar.get · x) reports.load).trans (kept x)
  have line : w.line = s.line := congrArg (fun k => k.tables.line) contained.cfs
  have loads (x : Car) : u.load x = if x = c then
      { s.load c with weigh := if weighPresent = 0 then none else some (min 40000 weigh.toNat) }.evaluated s.line else s.load x := by
    have weight : (if weighPresent = 0 then none else some weigh.toNat : Option Nat).map (min 40000) =
        if weighPresent = 0 then none else some (min 40000 weigh.toNat) := by split <;> rfl
    have ended : e.load x = v.load x := congrArg (PerCar.get · x) ends.load
    rw [done.load x, ended, load x, line, given, given, weight]
  have own := loads c
  rw [if_pos rfl] at own
  obtain ⟨doorOf, railOf, faultOf, tokenOf⟩ := doors c
  rw [fields c, if_pos rfl] at doorOf railOf faultOf tokenOf
  refine ⟨u, next, doorOf.trans (DoorCond.ofByte_eq door), railOf.trans (RailCond.ofByte_eq rail), faultOf,
    fun h => ?_, fun h => ?_,
    by rw [own]; rfl, by rw [own]; rfl, ?_, ?_, fun holds free => ?_, place, fun x other => ?_, ?_, ?_, ?_, ?_⟩
  · refine tokenOf.trans ?_
    dsimp only
    rw [tokenOfByte_of_lt h]
    rfl
  · refine tokenOf.trans ?_
    dsimp only
    rw [tokenOfByte_of_le h]
    rfl
  · rw [own]
    unfold LoadRecord.evaluated LoadRecord.overloaded
    split <;> rfl
  · rw [own]
    unfold LoadRecord.evaluated LoadRecord.tallyCondition
    split <;> simp_all
  · rw [done.attention]
    refine ends.attention _ (onset ?_ ?_)
    · have ended : e.load c = v.load c := congrArg (PerCar.get · c) ends.load
      rw [done.load, ended] at holds
      exact holds
    · rw [given]
      exact free
  · obtain ⟨doorOf, -, -, tokenOf⟩ := doors x
    rw [fields x, if_neg other] at doorOf tokenOf
    exact ⟨doorOf, tokenOf, (loads x).trans (if_neg other)⟩
  · exact done.msu.trans (ends.msu.trans (weighed.msu.trans contained.msu))
  · exact done.cfs.trans (ends.cfs.trans (weighed.cfs.trans contained.cfs))
  · exact done.pc5.trans (ends.pc5.trans (weighed.pc5.trans contained.pc5))
  · exact (congrArg Rco.driveReport done.rco).trans (ends.driveReport.trans ((congrArg Rco.driveReport rco).trans (reports.driveReport.trans heard)))

end Sys2Proof.Machine
end

section
/-! The token of a CAR REPORT: what is made of it under a latch, and the session that a HELD release opens (R127, R128, R130, R137,
R145). -/

namespace Sys2Proof.Machine

/-! ### A cause handed to a line that a latch keeps at rest -/

/-- Under a latch the line stays where it is: the mode, the run state and the idle slot stay, and of the doors only a rail order may
change. -/
structure StaysPut (s t : State) : Prop where
  latched : 2 ≤ t.bks.demand.latched.rank
  slot : t.bks.slot = .idle
  mode : t.rco.mode = s.rco.mode
  runState : t.rco.runState = s.rco.runState
  doors : ∀ c, ∃ o, t.door c = { s.door c with railOrder := o }
  attention : ∀ i, s.attention i = true → t.attention i = true

namespace StaysPut

theorem refl {s : State} (latched : 2 ≤ s.bks.demand.latched.rank) (slot : s.bks.slot = .idle) : StaysPut s s :=
  ⟨latched, slot, rfl, rfl, fun _ => ⟨_, rfl⟩, fun _ h => h⟩

theorem after {s t u : State} (b : StaysPut t u) (a : StaysPut s t) : StaysPut s u where
  latched := b.latched
  slot := b.slot
  mode := b.mode.trans a.mode
  runState := b.runState.trans a.runState
  doors c := by
    obtain ⟨o, first⟩ := a.doors c
    obtain ⟨o', second⟩ := b.doors c
    exact ⟨o', by rw [second, first]⟩
  attention i h := b.attention i (a.attention i h)

/-- What leaves the outputs, the mode, the run state and the doors. -/
theorem of_same {s t : State} (latched : 2 ≤ s.bks.demand.latched.rank) (slot : s.bks.slot = .idle) (bks : t.bks = s.bks)
    (mode : t.rco.mode = s.rco.mode) (run : t.rco.runState = s.rco.runState) (dou : t.dou = s.dou)
    (attention : ∀ i, s.attention i = true → t.attention i = true) : StaysPut s t :=
  ⟨by rw [bks]; exact latched, by rw [bks]; exact slot, mode, run, fun c => ⟨_, congrArg (fun d => d.get c) dou⟩, attention⟩

end StaysPut

/-- A cause handed under a latch raises at most the rail brakes' order and the escalation (R100). -/
theorem raise_staysPut (c : Cause) {l : Level} {s : State} (hl : 2 ≤ l.rank) (latched : 2 ≤ s.bks.demand.latched.rank)
    (slot : s.bks.slot = .idle) : StaysPut s (raise c l s) := by
  have bks := handed_bks c l s
  have rco : (s.handed c l).rco = s.rco := setDemand_rco ..
  have dou : (s.handed c l).dou = s.dou := setDemand_dou ..
  have idle : (s.handed c l).bks.slot = .idle := by rw [bks]; exact slot
  have handed (e : Car) : (s.handed c l).door e = s.door e := congrArg (fun d => d.get e) dou
  have serviced : (s.handed c l).atService s.bks.demand.latched .latch = s.handed c l := if_neg fun h => by omega
  have atEmergency : (s.handed c l).atEmergency s.bks.demand.latched .latch = s.handed c l ∨
      (s.handed c l).atEmergency s.bks.demand.latched .latch = dropEbHold (s.handed c l) := by
    unfold State.atEmergency
    rw [serviced]
    split
    · exact .inr (deenergizeEb_of_idle idle)
    · exact .inl rfl
  have emergency : ((s.handed c l).atEmergency s.bks.demand.latched .latch).rco = s.rco ∧
      ((s.handed c l).atEmergency s.bks.demand.latched .latch).bks.slot = .idle ∧
      ∀ e, ((s.handed c l).atEmergency s.bks.demand.latched .latch).door e = s.door e := by
    rcases atEmergency with same | same
    · rw [same]
      exact ⟨rco, idle, handed⟩
    · rw [same]
      exact ⟨rco, idle, handed⟩
  have rail : ((s.handed c l).atRail s.bks.demand.latched .latch).rco = s.rco ∧
      ((s.handed c l).atRail s.bks.demand.latched .latch).bks.slot = .idle ∧
      ∀ e, ∃ o, ((s.handed c l).atRail s.bks.demand.latched .latch).door e = { s.door e with railOrder := o } := by
    obtain ⟨rco, idle, doors⟩ := emergency
    unfold State.atRail
    split
    · rw [setRailOrder_rco, setRailOrder_bks]
      exact ⟨rco, idle, fun e => ⟨.apply, by rw [setRailOrder_door, doors]⟩⟩
    · exact ⟨rco, idle, fun e => ⟨_, doors e⟩⟩
  have attention := (Calm.raise c l s).attention
  have level := Nat.le_trans hl (raiseAs_latched .latch c l s)
  have raised : raise c l s = _ := raiseAs_eq .latch c l s
  change 2 ≤ (raise c l s).bks.demand.latched.rank at level
  by_cases falls : (s.bks.demand.add c l).latched.rank ≤ s.bks.demand.latched.rank
  · rw [if_pos falls] at raised
    refine ⟨level, ?_, ?_, ?_, fun e => ⟨(s.door e).railOrder, ?_⟩, attention⟩
    · rw [raised]
      exact idle
    · rw [raised, rco]
    · rw [raised, rco]
    · rw [raised, handed]
  · rw [if_neg falls] at raised
    obtain ⟨esc, escalated⟩ := escalateTo_eq (s.bks.demand.add c l).latched ((s.handed c l).atRail s.bks.demand.latched .latch)
    rw [escalated] at raised
    obtain ⟨rco, idle, doors⟩ := rail
    refine ⟨level, ?_, ?_, ?_, fun e => ?_, attention⟩
    · rw [raised]
      exact idle
    · rw [raised, State.withBks_rco, rco]
    · rw [raised, State.withBks_rco, rco]
    · obtain ⟨o, same⟩ := doors e
      exact ⟨o, by rw [raised]; exact same⟩

/-! ### What judging a token leaves (R128) -/

section
variable (c : Car) (token : Option (Fin 16)) (s : State)

theorem judgeToken_none (free : (s.door c).release = .none) :
    judgeToken c token s = if token = some 0 then s else withdraw c .stale (countStale c s) := by
  unfold judgeToken
  dsimp only
  rw [free]

theorem judgeToken_ordered (ordered : (s.door c).release = .ordered) :
    judgeToken c token s =
      if token = some (s.door c).token then takeUp c s else if token = some 0 then s else countStale c s := by
  unfold judgeToken
  dsimp only
  rw [ordered]

theorem judgeToken_held (held : (s.door c).release = .held) :
    judgeToken c token s =
      if token = some (s.door c).token then s
      else if token = some 0 then completeWithdrawal c (withdraw c .carDropped s) else countStale c s := by
  unfold judgeToken
  dsimp only
  rw [held]

theorem judgeToken_withdrawing (withdrawing : (s.door c).release = .withdrawing) :
    judgeToken c token s =
      if token = some 0 then completeWithdrawal c s else if token = some (s.door c).counter then s else countStale c s := by
  unfold judgeToken
  dsimp only
  rw [withdrawing]

end

/-- A door record with one more stale token (R128). -/
def DoorRecord.counted (d : DoorRecord) : DoorRecord := { d with stale := satInc 255 d.stale }

/-- A door record whose release has been taken up (R127). -/
def DoorRecord.takenUp (d : DoorRecord) : DoorRecord := { d with release := .held, ackTimer := none }

/-- A door record whose withdrawal the car completes where its doors are locked (R130). -/
def DoorRecord.completed (d : DoorRecord) : DoorRecord := if d.door = .closedLocked then d.free else d

/-- The door record of the car whose token is judged (R128). -/
def DoorRecord.judged (d : DoorRecord) (timeout : Nat) (token : Option (Fin 16)) : DoorRecord :=
  match d.release with
  | .none => if token = some 0 then d else d.counted.withdrawn timeout .stale
  | .ordered => if token = some d.token then d.takenUp else if token = some 0 then d else d.counted
  | .held =>
    if token = some d.token then d else if token = some 0 then (d.withdrawn timeout .carDropped).completed else d.counted
  | .withdrawing => if token = some 0 then d.completed else if token = some d.counter then d else d.counted

theorem countStale_door (c : Car) (s : State) : (countStale c s).door c = (s.door c).counted :=
  (door_of_dou_set (countStale_dou c s)).1

theorem takeUp_door (c : Car) (s : State) : (takeUp c s).door c = (s.door c).takenUp := (door_of_dou_set (takeUp_dou c s)).1

theorem completeWithdrawal_door (c : Car) (s : State) : (completeWithdrawal c s).door c = (s.door c).completed := by
  have dou := completeWithdrawal_dou c s
  unfold DoorRecord.completed
  split
  · rename_i locked
    rw [if_pos locked] at dou
    exact (door_of_dou_set dou).1
  · rename_i ajar
    rw [if_neg ajar] at dou
    rw [State.door, dou]
    rfl

theorem judgeToken_door (c : Car) (token : Option (Fin 16)) (s : State) :
    (judgeToken c token s).door c = (s.door c).judged s.line.closeTimeout token := by
  have withdrawn (w : WithdrawalCause) (t : State) : (withdraw c w t).door c = (t.door c).withdrawn t.line.closeTimeout w :=
    (door_of_dou_set (withdraw_dou c w t)).1
  unfold DoorRecord.judged
  cases release : (s.door c).release with
  | none =>
    rw [judgeToken_none c token s release]
    dsimp only
    split
    · rfl
    · rw [withdrawn, countStale_door]
      rfl
  | ordered =>
    rw [judgeToken_ordered c token s release]
    dsimp only
    split
    · exact takeUp_door c s
    split
    · rfl
    · exact countStale_door c s
  | held =>
    rw [judgeToken_held c token s release]
    dsimp only
    split
    · rfl
    split
    · rw [completeWithdrawal_door, withdrawn]
    · exact countStale_door c s
  | withdrawing =>
    rw [judgeToken_withdrawing c token s release]
    dsimp only
    split
    · exact completeWithdrawal_door c s
    split
    · rfl
    · exact countStale_door c s

/-- The token does not fit the release (R128). -/
def DoorRecord.rejects (d : DoorRecord) (token : Option (Fin 16)) : Prop :=
  token ≠ some 0 ∧
    match d.release with
    | .none => True
    | .ordered => token ≠ some d.token
    | .held => token ≠ some d.token
    | .withdrawing => token ≠ some d.counter

theorem judgeToken_rejects {c : Car} {token : Option (Fin 16)} {s : State} (rejects : (s.door c).rejects token) :
    (judgeToken c token s).attention .doorStaleToken = true := by
  have counted : (countStale c s).attention .doorStaleToken = true := State.attention_setAttention_same ..
  obtain ⟨nonzero, other⟩ := rejects
  cases release : (s.door c).release with
  | none =>
    rw [judgeToken_none c token s release, if_neg nonzero]
    exact (Calm.withdraw ..).attention _ counted
  | ordered =>
    rw [release] at other
    rw [judgeToken_ordered c token s release, if_neg other, if_neg nonzero]
    exact counted
  | held =>
    rw [release] at other
    rw [judgeToken_held c token s release, if_neg other, if_neg nonzero]
    exact counted
  | withdrawing =>
    rw [release] at other
    rw [judgeToken_withdrawing c token s release, if_neg nonzero, if_neg other]
    exact counted

/-! ### The later steps of a report (R125) -/

/-- With an idle slot no departure is aborted and D1 does not wait (R113, R117). -/
theorem doorsInDeparture_of_idle {c : Car} {s : State} (slot : s.bks.slot = .idle) : doorsInDeparture c s = s := by
  unfold doorsInDeparture abortDeparture
  rw [slot]
  exact ite_self s

theorem testD1_of_idle {s : State} (slot : s.bks.slot = .idle) : testD1 s = s := if_neg fun h => by cases slot.symm.trans h.1

/-- Under a latch the steps after the token leave the line where it is (R125, R132). -/
theorem takeCarReport_staysPut {c : Car} {door : DoorCond} {token : Option (Fin 16)} {rail : RailCond} {s : State}
    (latched : 2 ≤ s.bks.demand.latched.rank) (slot : s.bks.slot = .idle) :
    StaysPut (judgeToken c token (takeFields c door token rail false s)) (takeCarReport c door token rail false s) := by
  have granted {t : State} (latched : 2 ≤ t.bks.demand.latched.rank) (slot : t.bks.slot = .idle) : StaysPut t (doorsWhileGranted c t) := by
    unfold doorsWhileGranted
    split
    · have withdrawn : StaysPut t (withdrawAuthority t) :=
        .of_same latched slot (by simp) (by rw [withdrawAuthority_rco]) (by rw [withdrawAuthority_rco]) (by simp)
          (Calm.withdrawAuthority t).attention
      exact .after (raise_staysPut .door (by decide) withdrawn.latched withdrawn.slot) withdrawn
    · exact .refl latched slot
  have dealt (live departing opening : Bool) {t : State} (latched : 2 ≤ t.bks.demand.latched.rank) (slot : t.bks.slot = .idle) :
      StaysPut t (dealOpening opening live departing t) := by
    have marked : StaysPut t (t.setAttention .doorUnreleased) :=
      .of_same latched slot rfl rfl rfl rfl (Calm.setAttention ..).attention
    unfold dealOpening
    dsimp only
    split
    · split
      · exact .after (raise_staysPut .door (by decide) marked.latched marked.slot) marked
      · exact marked
    · exact .refl latched slot
  have marked (p : Prop) [Decidable p] {t : State} (latched : 2 ≤ t.bks.demand.latched.rank) (slot : t.bks.slot = .idle) :
      StaysPut t (if p then t.setAttention .railFault else t) := by
    split
    · exact .of_same latched slot rfl rfl rfl rfl (Calm.setAttention ..).attention
    · exact .refl latched slot
  have judged : (judgeToken c token (takeFields c door token rail false s)).bks = s.bks := judgeToken_bks ..
  unfold takeCarReport
  dsimp only
  generalize judgeToken c token (takeFields c door token rail false s) = j at judged
  have first := granted (t := j) (by rw [judged]; exact latched) (by rw [judged]; exact slot)
  rw [doorsInDeparture_of_idle first.slot]
  generalize doorsWhileGranted c j = k at first
  have second := (dealt s.live s.bks.slot.isDeparture (k.door c).unreleased first.latched first.slot).after first
  generalize dealOpening (k.door c).unreleased s.live s.bks.slot.isDeparture k = m at second
  have third := (marked (rail = .fault ∧ (s.door c).rail ≠ .fault) second.latched second.slot).after second
  rw [Bool.false_and, if_neg Bool.false_ne_true]
  rw [testD1_of_idle third.slot]
  exact third

/-- A report without a weigh and without a car fault. -/
theorem exec_plainReport {s : State} {c : Car} {door token rail : Byte} (taken : s.takesNow c.port = true) :
    ∃ u, exec (.carReport c door token rail 0 0 0) s = .next u ∧
      Ends (endEvent (takeWeigh c none
        (takeCarReport c (.ofByte door) (tokenOfByte token) (.ofByte rail) false (s.withAnswering (some c.port))))) u := by
  obtain ⟨u, next, ends, -⟩ := exec_carReport (s := s) (c := c) (door := door) (token := token) (rail := rail) (weighPresent := 0)
    (fault := 0) (weigh := 0) taken
  exact ⟨u, next, ends⟩

theorem DoorCond.ofByte_locked {b : Byte} : DoorCond.ofByte b = .closedLocked ↔ b = 1 := by
  rw [DoorCond.ofByte_eq]
  split
  · rename_i one
    exact iff_of_true rfl one
  · rename_i other
    split
    · exact iff_of_false (by decide) other
    · exact iff_of_false (by decide) other

/-- Under a latch at a stop the report's token is judged, and nothing more happens to the line or to the release (R128). -/
theorem exec_latchedReport {s : State} {c : Car} {door token rail : Byte} (taken : s.takesNow c.port = true) (coded : token.toNat < 16)
    (latched : s.bks.demand.latched = .emergency) (slot : s.bks.slot = .idle) :
    ∃ t d, exec (.carReport c door token rail 0 0 0) s = .next t ∧
      d = { s.door c with
        door := DoorCond.ofByte door, heldToken := ⟨token.toNat, coded⟩, rail := RailCond.ofByte rail, carFault := false } ∧
      (∃ o, t.door c = { d.judged s.line.closeTimeout (some ⟨token.toNat, coded⟩) with railOrder := o }) ∧
      (d.rejects (some ⟨token.toNat, coded⟩) → t.attention .doorStaleToken = true) ∧
      t.rco.mode = s.rco.mode ∧ t.rco.runState = s.rco.runState ∧ t.bks.slot = s.bks.slot := by
  obtain ⟨u, next, done⟩ := exec_plainReport (s := s) (c := c) (door := door) (token := token) (rail := rail) taken
  have high : 2 ≤ (s.withAnswering (some c.port)).bks.demand.latched.rank := by
    change 2 ≤ s.bks.demand.latched.rank
    rw [latched]
    decide
  have stays := takeCarReport_staysPut (c := c) (door := .ofByte door) (token := tokenOfByte token) (rail := .ofByte rail) high slot
  have fields := takeFields_door c (.ofByte door) (tokenOfByte token) (.ofByte rail) false (s.withAnswering (some c.port)) c
  have line : (takeFields c (.ofByte door) (tokenOfByte token) (.ofByte rail) false (s.withAnswering (some c.port))).line = s.line := rfl
  have rco : (takeFields c (.ofByte door) (tokenOfByte token) (.ofByte rail) false (s.withAnswering (some c.port))).rco = s.rco := rfl
  rw [if_pos rfl, tokenOfByte_of_lt coded] at fields
  rw [tokenOfByte_of_lt coded] at stays done line rco
  generalize takeFields c (.ofByte door) (some ⟨token.toNat, coded⟩) (.ofByte rail) false (s.withAnswering (some c.port)) = f at *
  have judged := judgeToken_door c (some ⟨token.toNat, coded⟩) f
  have rejected := judgeToken_rejects (c := c) (token := some ⟨token.toNat, coded⟩) (s := f)
  have same := judgeToken_rco c (some ⟨token.toNat, coded⟩) f
  generalize judgeToken c (some ⟨token.toNat, coded⟩) f = j at *
  generalize takeCarReport c (.ofByte door) (some ⟨token.toNat, coded⟩) (.ofByte rail) false (s.withAnswering (some c.port)) = w at *
  have wbks := takeWeigh_bks c none w
  have wrco := takeWeigh_rco c none w
  have wdou := takeWeigh_dou c none w
  have watt := takeWeigh_attention c none w
  generalize takeWeigh c none w = v at *
  have still : v.bks.demand.latched ≠ .none := fun none => by
    have rank := stays.latched
    rw [← wbks, none] at rank
    exact absurd rank (by decide)
  rw [endEvent_of_latched still] at done
  have rests := Rests.rested v
  generalize v.rested = e at *
  obtain ⟨o, final⟩ := stays.doors c
  have record : u.door c = { (f.door c).judged s.line.closeTimeout (some ⟨token.toNat, coded⟩) with railOrder := o } := by
    rw [done.door, rests.door, State.door, wdou]
    refine final.trans ?_
    rw [judged, line]
  refine ⟨u, f.door c, next, fields, ⟨o, record⟩, fun h => ?_, ?_, ?_, ?_⟩
  · rw [done.attention, rests.attention]
    exact watt _ (stays.attention _ (rejected h))
  · rw [done.rco, rests.mode, wrco, stays.mode, same, rco]
  · rw [done.rco, rests.runState, wrco, stays.runState, same, rco]
  · rw [done.bks, rests.bks, wbks, stays.slot, slot]

/-! ### A platform release that becomes HELD (R137, R145) -/

theorem clearAdmissions_gate (p : Fin 8) (s : State) (h g : Fin 16) :
    (clearAdmissions p s h).gate g =
      if g = h ∧ (s.gateEntry h).present = true ∧ (s.gateEntry h).platform = p then { s.gate g with admissions := 0 } else s.gate g := by
  unfold clearAdmissions
  by_cases ofPlatform : (s.gateEntry h).present = true ∧ (s.gateEntry h).platform = p
  · rw [if_pos (by simpa using ofPlatform)]
    by_cases same : g = h
    · rw [if_pos ⟨same, ofPlatform⟩, same, State.gate_withGate_same]
    · rw [if_neg fun both => same both.1, State.gate_withGate_other _ _ same]
  · rw [if_neg (by simpa using ofPlatform), if_neg fun both => ofPlatform both.2]

theorem clearAdmissions_same (p : Fin 8) (s : State) (h : Fin 16) :
    (clearAdmissions p s h).cfs = s.cfs ∧ (clearAdmissions p s h).adu.sessions = s.adu.sessions := by
  unfold clearAdmissions
  split <;> exact ⟨rfl, rfl⟩

/-- The gates of the platform that stand in the list begin with no admission (R145). -/
theorem foldl_clearAdmissions_gate (p : Fin 8) (l : List (Fin 16)) (s : State) (g : Fin 16) :
    (l.foldl (clearAdmissions p) s).gate g =
      if g ∈ l ∧ (s.gateEntry g).present = true ∧ (s.gateEntry g).platform = p then { s.gate g with admissions := 0 } else s.gate g := by
  induction l generalizing s with
  | nil => simp
  | cons h l ih =>
    have entry : (clearAdmissions p s h).gateEntry g = s.gateEntry g :=
      congrArg (fun k : Cfs => k.tables.gates.get g) (clearAdmissions_same p s h).1
    rw [List.foldl_cons, ih, entry, clearAdmissions_gate]
    by_cases ofPlatform : (s.gateEntry g).present = true ∧ (s.gateEntry g).platform = p
    · by_cases same : g = h
      · subst same
        simp [ofPlatform]
      · simp [ofPlatform, same]
    · have untouched : ¬(g = h ∧ (s.gateEntry h).present = true ∧ (s.gateEntry h).platform = p) := by
        rintro ⟨same, all⟩
        rw [← same] at all
        exact ofPlatform all
      rw [if_neg untouched, if_neg fun all => ofPlatform all.2, if_neg fun all => ofPlatform all.2]

theorem foldl_clearAdmissions_sessions (p : Fin 8) (l : List (Fin 16)) (s : State) :
    (l.foldl (clearAdmissions p) s).adu.sessions = s.adu.sessions := by
  induction l generalizing s with
  | nil => rfl
  | cons h l ih => exact (ih _).trans (clearAdmissions_same p s h).2

/-- A closed session as it opens for a car (R145). -/
def State.opened (s : State) (c : Car) (k : Fin 6) (p : Fin 8) : Session :=
  { s.session p with
    isOpen := true, served := some c, stop := some k, shared := false, lastClose := .none, quietTimer := s.quietStart }

theorem releaseHeld_opens {c : Car} {k : Fin 6} {p : Fin 8} {s : State} (free : s.bks.demand.latched = .none)
    (closed : (s.session p).isOpen = false) (alone : (s.session p).waiting = []) :
    (∀ q, (releaseHeld c k p s).session q = if q = p then s.opened c k p else s.session q) ∧
      ∀ g, (releaseHeld c k p s).gate g =
        if (s.gateEntry g).present = true ∧ (s.gateEntry g).platform = p then { s.gate g with admissions := 0 } else s.gate g := by
  have sessions : ∀ q, (allIndices.foldl (clearAdmissions p) (s.withSession p (s.opened c k p))).session q =
      if q = p then s.opened c k p else s.session q := by
    intro q
    refine (congrArg (fun x => x.get q) (foldl_clearAdmissions_sessions ..)).trans ?_
    split
    · rename_i same
      rw [same]
      exact State.session_withSession_same ..
    · rename_i other
      exact State.session_withSession_other _ _ other
  have gates := foldl_clearAdmissions_gate p allIndices (s.withSession p (s.opened c k p))
  have opens : releaseHeld c k p s = evaluatePolicy (allIndices.foldl (clearAdmissions p) (s.withSession p (s.opened c k p))) p := by
    unfold releaseHeld
    rw [if_neg (by simp [free]), if_pos (by simp [closed])]
    rfl
  rw [opens, evaluatePolicy_of_empty (by rw [sessions, if_pos rfl]; exact alone)]
  refine ⟨sessions, fun g => ?_⟩
  rw [gates g]
  have entry : (s.withSession p (s.opened c k p)).gateEntry g = s.gateEntry g := rfl
  simp only [entry, mem_allIndices, true_and, State.gate_withSession]

theorem releaseHeld_shares {c : Car} {k : Fin 6} {p : Fin 8} {s : State} (free : s.bks.demand.latched = .none)
    (opened : (s.session p).isOpen = true) :
    releaseHeld c k p s =
      if (s.session p).served ≠ some c then (s.withSession p { s.session p with shared := true }).setAttention .platformShared else s := by
  unfold releaseHeld
  rw [if_neg (by simp [free]), if_neg (by simp [opened])]
  simp only [bne_iff_ne]

/-- With no authority and no departure a report whose token leaves a release standing does nothing after it but mark the rail brakes
(R125). -/
theorem takeCarReport_calm {c : Car} {door : DoorCond} {token : Option (Fin 16)} {rail : RailCond} {s : State}
    (slot : s.bks.slot = .idle) (auth : s.rco.authority.state = .none)
    (stands : ((judgeToken c token (takeFields c door token rail false s)).door c).release ≠ .none) :
    takeCarReport c door token rail false s =
      if rail = .fault ∧ (s.door c).rail ≠ .fault then
        (judgeToken c token (takeFields c door token rail false s)).setAttention .railFault
      else judgeToken c token (takeFields c door token rail false s) := by
  have bks : (judgeToken c token (takeFields c door token rail false s)).bks = s.bks := judgeToken_bks ..
  have rco : (judgeToken c token (takeFields c door token rail false s)).rco = s.rco := judgeToken_rco ..
  unfold takeCarReport
  dsimp only
  generalize judgeToken c token (takeFields c door token rail false s) = j at bks rco stands
  have granted : doorsWhileGranted c j = j := if_neg fun h => by
    rw [rco, auth] at h
    cases h.1
  have released : (j.door c).unreleased = false := by simp [DoorRecord.unreleased, stands]
  have idle : j.bks.slot = .idle := by rw [bks]; exact slot
  rw [granted, doorsInDeparture_of_idle idle, released, Bool.false_and, if_neg Bool.false_ne_true]
  have dealt : dealOpening false s.live s.bks.slot.isDeparture j = j := rfl
  rw [dealt]
  refine testD1_of_idle ?_
  split <;> exact idle

/-- The load flags are those of their car, and nothing else of the Admission Unit follows them (R156). -/
theorem evaluateLoad_adu (s : State) (c : Car) : ∃ load, (evaluateLoad s c).adu = { s.adu with load := load } := by
  have marked (b : Bool) (t : State) : (if b then t.setAttention .tallyOver else t).adu = t.adu := by
    split <;> rfl
  have handed (b : Bool) (t : State) : (if b then handNotice t (.carOrder c) else t).adu = t.adu := by
    split
    · exact handNotice_adu ..
    · rfl
  unfold evaluateLoad
  dsimp only
  rw [handed, marked]
  exact ⟨_, rfl⟩

/-- A weigh settles the load record of its car and nothing else of the Admission Unit (R156). -/
theorem takeWeigh_adu (c : Car) (w : Option Nat) (s : State) : ∃ load, (takeWeigh c w s).adu = { s.adu with load := load } :=
  evaluateLoad_adu (s.withLoad c { s.load c with weigh := w.map (min 40000) }) c

theorem takeUp_platform {c : Car} {k : Fin 6} {p : Fin 8} {s : State} (kind : (s.door c).kind = some (.platform k p)) :
    takeUp c s = releaseHeld c k p (s.withDoor c (s.door c).takenUp) := by
  simp only [takeUp, kind, DoorRecord.takenUp]

/-- At rest and with no authority a report that takes up an ORDERED platform release opens what that release opens, and marks a rail
brake fault (R127, R136, R137). -/
theorem takeCarReport_takesUp {c : Car} {door : DoorCond} {rail : RailCond} {k : Fin 6} {p : Fin 8} {s : State}
    (slot : s.bks.slot = .idle) (auth : s.rco.authority.state = .none) (ordered : (s.door c).release = .ordered)
    (kind : (s.door c).kind = some (.platform k p)) :
    ∃ v, v.bks = s.bks ∧ v.rco = s.rco ∧ v.cfs = s.cfs ∧ v.adu = s.adu ∧ (v.door c).release = .held ∧ (v.door c).ackTimer = none ∧
      (takeCarReport c door (some (s.door c).token) rail false s = releaseHeld c k p v ∨
        takeCarReport c door (some (s.door c).token) rail false s = (releaseHeld c k p v).setAttention .railFault) := by
  have fields := takeFields_door c door (some (s.door c).token) rail false s c
  rw [if_pos rfl] at fields
  have calm := takeCarReport_calm (c := c) (door := door) (token := some (s.door c).token) (rail := rail) slot auth
  have bks : (takeFields c door (some (s.door c).token) rail false s).bks = s.bks := rfl
  have rco : (takeFields c door (some (s.door c).token) rail false s).rco = s.rco := rfl
  have cfs : (takeFields c door (some (s.door c).token) rail false s).cfs = s.cfs := rfl
  have adu : (takeFields c door (some (s.door c).token) rail false s).adu = s.adu := rfl
  generalize takeFields c door (some (s.door c).token) rail false s = f at fields calm bks rco cfs adu
  have judged : judgeToken c (some (s.door c).token) f = takeUp c f := by
    rw [judgeToken_ordered c _ f (by rw [fields]; exact ordered), if_pos (by rw [fields])]
  rw [judged, takeUp_door] at calm
  have took := calm nofun
  rw [takeUp_platform (by rw [fields]; exact kind)] at took
  have record : (f.withDoor c (f.door c).takenUp).door c = (f.door c).takenUp := (withDoor_door ..).trans (if_pos rfl)
  refine ⟨f.withDoor c (f.door c).takenUp, bks, rco, cfs, adu, by rw [record]; rfl, by rw [record]; rfl, ?_⟩
  rw [took]
  split
  · exact .inr rfl
  · exact .inl rfl

/-- A line at rest with no authority hears that an ORDERED platform release is taken up (R127, R137). -/
theorem exec_takenUp {s : State} {c : Car} {door rail : Byte} {k : Fin 6} {p : Fin 8} (taken : s.takesNow c.port = true)
    (run : s.rco.runState = .atStop) (slot : s.bks.slot = .idle) (auth : s.rco.authority.state = .none)
    (ordered : (s.door c).release = .ordered) (kind : (s.door c).kind = some (.platform k p)) :
    ∃ t v, exec (.carReport c door (BitVec.ofNat 8 (s.door c).token.val) rail 0 0 0) s = .next t ∧
      (t.door c).release = .held ∧ (t.door c).ackTimer = none ∧ t.bks = s.bks ∧ t.msu = s.msu ∧ t.cfs = s.cfs ∧
      v.bks = s.bks ∧ v.cfs = s.cfs ∧ v.adu = s.adu ∧
      t.adu.gates = (releaseHeld c k p v).adu.gates ∧ t.adu.sessions = (releaseHeld c k p v).adu.sessions ∧
      ∀ i, (releaseHeld c k p v).attention i = true → t.attention i = true := by
  have small : (BitVec.ofNat 8 (s.door c).token.val).toNat = (s.door c).token.val := by
    rw [BitVec.toNat_ofNat, Nat.mod_eq_of_lt (by omega)]
  have token : tokenOfByte (BitVec.ofNat 8 (s.door c).token.val) = some (s.door c).token := by
    rw [tokenOfByte_of_lt (by omega)]
    exact congrArg some (Fin.ext small)
  obtain ⟨u, next, done⟩ := exec_plainReport (s := s) (c := c) (door := door) (token := BitVec.ofNat 8 (s.door c).token.val)
    (rail := rail) taken
  rw [token] at done
  obtain ⟨v, bks, rco, cfs, adu, held, ack, took⟩ := takeCarReport_takesUp (c := c) (door := .ofByte door) (rail := .ofByte rail)
    (s := s.withAnswering (some c.port)) slot auth ordered kind
  have contained := Contained.takeCarReport c (.ofByte door) (some (s.door c).token) (.ofByte rail) false (s.withAnswering (some c.port))
  have hbks := releaseHeld_bks c k p v
  have hrco := releaseHeld_rco c k p v
  have hdou := releaseHeld_dou c k p v
  change takeCarReport c (.ofByte door) (some (s.door c).token) (.ofByte rail) false (s.withAnswering (some c.port)) = _ ∨
    takeCarReport c (.ofByte door) (some (s.door c).token) (.ofByte rail) false (s.withAnswering (some c.port)) = _ at took
  generalize takeCarReport c (.ofByte door) (some (s.door c).token) (.ofByte rail) false (s.withAnswering (some c.port)) = w at done took contained
  have weighed := Contained.takeWeigh c none w
  have wbks := takeWeigh_bks c none w
  have wrco := takeWeigh_rco c none w
  have wdou := takeWeigh_dou c none w
  have watt := takeWeigh_attention c none w
  obtain ⟨load, wadu⟩ := takeWeigh_adu c none w
  generalize takeWeigh c none w = x at done weighed wbks wrco wdou watt wadu
  have calmW : w.bks = s.bks ∧ w.rco = s.rco ∧ w.dou = v.dou ∧ w.adu = (releaseHeld c k p v).adu ∧
      ∀ i, (releaseHeld c k p v).attention i = true → w.attention i = true := by
    generalize releaseHeld c k p v = h at took hbks hrco hdou
    rcases took with same | same
    · rw [same]
      exact ⟨hbks.trans bks, hrco.trans rco, hdou, rfl, fun _ set => set⟩
    · rw [same]
      exact ⟨hbks.trans bks, hrco.trans rco, hdou, rfl, (Calm.setAttention h .railFault).attention⟩
  obtain ⟨bksW, rcoW, douW, aduW, attW⟩ := calmW
  rw [endEvent_of_waits (waits_of_run (by rw [wrco, rcoW, run]; decide))] at done
  have rests := Rests.rested x
  generalize x.rested = e at done rests
  have door : u.door c = v.door c := by rw [done.door, rests.door, State.door, wdou, douW]; rfl
  have cfsW := weighed.cfs.trans contained.cfs
  have msuW := weighed.msu.trans contained.msu
  refine ⟨u, v, next, by rw [door, held], by rw [door, ack], ?_, ?_, ?_, bks, cfs, adu, ?_, ?_, fun i set => ?_⟩
  · rw [done.bks, rests.bks, wbks, bksW]
  · exact done.msu.trans (rests.msu.trans msuW)
  · exact done.cfs.trans (rests.cfs.trans cfsW)
  · rw [done.adu, rests.adu, wadu, aduW]
  · rw [done.adu, rests.adu, wadu, aduW]
  · rw [done.attention, rests.attention]
    exact watt _ (attW _ set)

theorem completed_release (d : DoorRecord) :
    d.completed.release = if d.door = .closedLocked then .none else d.release := by
  unfold DoorRecord.completed
  split <;> rfl

theorem completed_keeps (d : DoorRecord) : d.completed.lastWithdrawal = d.lastWithdrawal ∧ d.completed.token = d.token := by
  unfold DoorRecord.completed
  split <;> exact ⟨rfl, rfl⟩

/-- Settles O43: the record of the car is that of its judged token, and of a release taken up the session follows. -/
theorem reportedTokenIsJudged : Obligations.ReportedTokenIsJudged := by
  refine ⟨fun s c door token rail taken _ coded latched run slot => ?_, ?_⟩
  · obtain ⟨t, d, next, fields, ⟨o, record⟩, rejected, mode, runState, slotAfter⟩ :=
      exec_latchedReport (door := door) (rail := rail) taken coded latched slot
    refine ⟨t, next, ?_, mode, runState, slotAfter⟩
    have release : d.release = (s.door c).release := by rw [fields]
    have own : d.token = (s.door c).token := by rw [fields]
    have counter : d.counter = (s.door c).counter := by rw [fields]
    have stale : d.stale = (s.door c).stale := by rw [fields]
    have locked : d.door = .closedLocked ↔ door = 1 := by
      rw [fields]
      exact DoorCond.ofByte_locked
    have equals (x : Fin 16) : some (⟨token.toNat, coded⟩ : Fin 16) = some x ↔ token.toNat = x.val := by
      rw [Option.some.injEq, Fin.ext_iff]
    have zero : some (⟨token.toNat, coded⟩ : Fin 16) = some 0 ↔ token.toNat = 0 := equals 0
    have completes (e : DoorRecord) (same : e.door = d.door) (withdrawing : e.release = .withdrawing) :
        e.completed.release = if door = 1 then .none else .withdrawing := by
      rw [completed_release, same, withdrawing]
      simp only [locked]
    unfold DoorRecord.judged at record
    unfold DoorRecord.rejects at rejected
    rw [release] at record rejected
    simp only [own, counter, zero, ne_eq, equals] at record rejected
    cases state : (s.door c).release with
    | none =>
      rw [state] at record rejected release
      dsimp only at record ⊢
      by_cases free : token.toNat = 0
      · rw [if_pos free, record, if_pos free]
        exact release
      · rw [if_neg free, record, if_neg free]
        exact ⟨rfl, rfl, congrArg (satInc 255) stale, rejected ⟨free, trivial⟩⟩
    | ordered =>
      rw [state] at record rejected release
      dsimp only at record ⊢
      by_cases mine : token.toNat = (s.door c).token.val
      · rw [if_pos mine, record, if_pos mine]
        exact ⟨rfl, rfl⟩
      · rw [if_neg mine, record, if_neg mine]
        by_cases free : token.toNat = 0
        · rw [if_pos free, if_pos free]
          exact ⟨release, stale⟩
        · rw [if_neg free, if_neg free]
          exact ⟨release, congrArg (satInc 255) stale, rejected ⟨free, mine⟩⟩
    | held =>
      rw [state] at record rejected release
      dsimp only at record ⊢
      by_cases mine : token.toNat = (s.door c).token.val
      · rw [if_pos mine, record, if_pos mine]
        exact ⟨release, stale⟩
      · rw [if_neg mine, record, if_neg mine]
        by_cases free : token.toNat = 0
        · rw [if_pos free, if_pos free]
          obtain ⟨last, zeroed⟩ := completed_keeps (d.withdrawn s.line.closeTimeout .carDropped)
          exact ⟨last, zeroed, completes _ rfl rfl⟩
        · rw [if_neg free, if_neg free]
          exact ⟨release, congrArg (satInc 255) stale, rejected ⟨free, mine⟩⟩
    | withdrawing =>
      rw [state] at record rejected release
      dsimp only at record ⊢
      by_cases free : token.toNat = 0
      · rw [if_pos free, record, if_pos free]
        exact completes d rfl release
      · rw [if_neg free, record, if_neg free]
        by_cases mine : token.toNat = (s.door c).counter.val
        · rw [if_pos mine, if_pos mine]
          exact ⟨release, stale⟩
        · rw [if_neg mine, if_neg mine]
          exact ⟨release, congrArg (satInc 255) stale, rejected ⟨free, mine⟩⟩
  · intro s c door rail k p taken free run slot auth ordered kind alone
    obtain ⟨t, v, next, held, ack, bks, msu, cfs, vbks, vcfs, vadu, gates, sessions, items⟩ :=
      exec_takenUp (door := door) (rail := rail) taken run slot auth ordered kind
    have free' : v.bks.demand.latched = .none := by rw [vbks]; exact free
    have session (q : Fin 8) : v.session q = s.session q := congrArg (fun a => a.sessions.get q) vadu
    have gate (g : Fin 16) : v.gate g = s.gate g := congrArg (fun a => a.gates.get g) vadu
    have entry (g : Fin 16) : v.gateEntry g = s.gateEntry g := congrArg (fun k : Cfs => k.tables.gates.get g) vcfs
    have line : v.line = s.line := congrArg (fun k => k.tables.line) vcfs
    have sessionOf (q : Fin 8) : t.session q = (releaseHeld c k p v).session q := congrArg (fun x => x.get q) sessions
    have gateOf (g : Fin 16) : t.gate g = (releaseHeld c k p v).gate g := congrArg (fun x => x.get g) gates
    have opens (closed : (s.session p).isOpen = false) :=
      releaseHeld_opens (c := c) (k := k) free' (by rw [session]; exact closed) (by rw [session]; exact alone)
    have shares (opened : (s.session p).isOpen = true) := releaseHeld_shares (c := c) (k := k) free' (by rw [session]; exact opened)
    refine ⟨t, next, held, ack, bks, msu, cfs, fun q other => ?_, fun closed => ?_, fun opened => ?_⟩
    · rw [sessionOf]
      cases state : (s.session p).isOpen with
      | false => rw [(opens state).1, if_neg other, session]
      | true =>
        rw [shares state]
        split
        · exact (State.session_withSession_other _ _ other).trans (session q)
        · exact session q
    · obtain ⟨sessions, gates⟩ := opens closed
      refine ⟨?_, fun g => ?_⟩
      · rw [sessionOf, sessions, if_pos rfl, State.opened, State.quietStart, session, line]
        rfl
      · rw [gateOf, gates, entry, gate]
    · have shared := shares opened
      rw [session] at shared
      by_cases same : (s.session p).served = some c
      · rw [if_neg (not_not_intro same)] at shared
        rw [shared] at gates sessionOf
        exact ⟨gates.trans (congrArg Adu.gates vadu), fun _ => (sessionOf p).trans (session p), fun other => absurd same other⟩
      · rw [if_pos same] at shared
        rw [shared] at gates sessionOf items
        refine ⟨gates.trans (congrArg Adu.gates vadu : _), fun equal => absurd equal same, fun _ => ⟨?_, ?_⟩⟩
        · rw [sessionOf p]
          exact State.session_withSession_same ..
        · exact items _ (State.attention_setAttention_same ..)

end Sys2Proof.Machine
end

section
/-! The requests of the station ports: VALIDATE, PASSAGE and GATE REPORT (R141, R142, R148 to R153). -/

namespace Sys2Proof.Machine

/-! ### A station request as a row -/

theorem Sta.portStation_port (x : Sta) : portStation x.port = x := by cases x <;> rfl

/-- A request whose decision hands over no notice, answered by a telegram with nothing departing after it (R164). -/
theorem exec_sent {s t : State} {c : Instr} {i : PortId} {r : Request} {e : TxEntry} (row : c.request = some (i, r))
    (taken : s.takesNow i = true) (decided : decideRequest i r (s.withAnswering (some i)) = (t.withAnswering (some i), .telegram e))
    (answering : t.answering = none) (held : t.held = []) (waits : t.waits = true) : exec c s = .next (t.rested.sent i e) := by
  have rested : (endEvent (t.withAnswering (some i))).withAnswering none = t.rested := by
    rw [endEvent_of_waits (s := t.withAnswering (some i)) waits, ← answering]
    rfl
  have none_held : t.rested.held = [] := held
  rw [exec_taken row taken]
  simp only [answered, decided, rested, Reply.form]
  simp only [releaseNotices, placeReply, State.withPort, State.withPorts_held, none_held, List.foldl_nil]
  rw [← none_held]
  rfl

/-- The same with one notice for the port itself, which follows the answer (R164). -/
theorem exec_sent_noticed {s t : State} {c : Instr} {i : PortId} {r : Request} {e : TxEntry} {n : Notice} (row : c.request = some (i, r))
    (taken : s.takesNow i = true)
    (decided : decideRequest i r (s.withAnswering (some i)) = ((t.withAnswering (some i)).withHeld [n], .telegram e))
    (answering : t.answering = none) (held : t.held = []) (waits : t.waits = true) :
    exec c s = .next (handNotice (t.rested.sent i e) n) := by
  have rested : (endEvent ((t.withAnswering (some i)).withHeld [n])).withAnswering none = t.rested.withHeld [n] := by
    rw [endEvent_of_waits (s := (t.withAnswering (some i)).withHeld [n]) waits, ← answering]
    rfl
  have offered : handNotice (t.rested.sent i e) n = offerNotice (t.rested.sent i e) n := if_neg fun h => by
    cases answering.symm.trans h
  have none_held : t.rested.held = [] := held
  rw [exec_taken row taken, offered]
  simp only [answered, decided, rested, Reply.form]
  change Host.Outcome.next (offerNotice (((t.rested.withHeld [n]).sent i e).withHeld []) n) = _
  rw [← none_held]
  rfl

/-! ### VALIDATE (R149) -/

/-- The policy of an open session is looked up at 4, plus 2 for a place left, plus 1 for a quiet exit timer (R148). -/
theorem policyAllows_open {s : State} {p : Fin 8} (opened : (s.session p).isOpen = true) :
    s.policyAllows p =
      (s.platformEntry p).policy.getLsbD
        (4 + ((s.session p).served.elim 0 fun c =>
            if (s.load c).tally + (s.session p).reservations < s.line.carCapacity then 2 else 0) +
          if (s.session p).quietTimer = none then 1 else 0) := by
  have places : 2 * (s.placesLeft p).toNat = (s.session p).served.elim 0 fun c =>
      if (s.load c).tally + (s.session p).reservations < s.line.carCapacity then 2 else 0 := by
    unfold State.placesLeft
    cases (s.session p).served with
    | none => rfl
    | some c =>
      dsimp only [Option.elim]
      split
      · rename_i room
        rw [decide_eq_true room]
        rfl
      · rename_i full
        rw [decide_eq_false full]
        rfl
  have quiet : (s.session p).quietTimer.isNone.toNat = if (s.session p).quietTimer = none then 1 else 0 := by
    cases (s.session p).quietTimer <;> rfl
  unfold State.policyAllows policyAnswer State.policyIndex
  rw [opened, places, quiet]
  rfl

/-- The gate belongs to the station (R141). -/
theorem State.belongs_iff (s : State) (x : Sta) (g : Fin 16) :
    s.belongs x g = true ↔ (s.gateEntry g).present = true ∧ x = (if g.val < 8 then .sta1 else .sta2) := by
  unfold State.belongs
  rw [Bool.and_eq_true, beq_iff_eq]
  exact and_congr_right' eq_comm

theorem exec_validate {s t : State} {x : Sta} {g : Fin 16} {e : TxEntry} (taken : s.takesNow x.port = true)
    (decided : decideValidate x g (s.withAnswering (some x.port)) = (t.withAnswering (some x.port), e)) (waits : t.waits = true)
    (same : t.answering = s.answering ∧ t.held = s.held) : exec (.validate x g) s = .next (t.rested.sent x.port e) := by
  obtain ⟨answering, held⟩ := idle_of_takesNow taken
  refine exec_sent (c := .validate x g) (r := .validate g) rfl taken ?_ (same.1.trans answering) (same.2.trans held) waits
  simp only [decideRequest, Sta.portStation_port, decided, asTelegram]

/-- A reservation made with nobody waiting is the whole of it (R148, R150). -/
theorem evaluatePolicy_reserve {s : State} {p : Fin 8} {g : Fin 16} (alone : (s.session p).waiting = []) :
    evaluatePolicy (reserve p g s) p = reserve p g s :=
  evaluatePolicy_of_empty (by simpa [reserve] using alone)

/-- Settles O44, row by row. -/
theorem validateFollowsItsTable : Obligations.ValidateFollowsItsTable := by
  intro s x g taken waits
  dsimp only
  have belongs := s.belongs_iff x g
  have row {t : State} {e : TxEntry} := exec_validate (s := s) (t := t) (x := x) (g := g) (e := e) taken
  have table : decideValidate x g (s.withAnswering (some x.port)) = _ := rfl
  unfold decideValidate at table
  by_cases own : s.belongs x g = true
  case neg =>
    rw [if_pos fun h => own (belongs.mpr h)]
    have foreign : (!s.belongs x g) = true := by simp [own]
    exact row (table.trans (if_pos foreign)) waits ⟨rfl, rfl⟩
  have ours : ¬(!s.belongs x g) = true := by simp [own]
  rw [if_neg (not_not_intro (belongs.mp own))]
  replace table := table.trans (if_neg ours)
  by_cases exit : (s.gateEntry g).dir = .exit
  case pos =>
    rw [if_pos exit]
    exact row (table.trans (if_pos exit)) waits ⟨rfl, rfl⟩
  rw [if_neg exit]
  replace table := table.trans (if_neg exit)
  by_cases masked : (s.gate g).masked = true
  case pos =>
    rw [if_pos masked]
    exact row (table.trans (if_pos masked)) waits ⟨rfl, rfl⟩
  rw [if_neg masked]
  replace table := table.trans (if_neg masked)
  by_cases fault : (s.gate g).fault = true
  case pos =>
    rw [if_pos fault]
    exact row (table.trans (if_pos fault)) waits ⟨rfl, rfl⟩
  rw [if_neg fault]
  replace table := table.trans (if_neg fault)
  by_cases reserved : (s.gate g).state = .reserved
  case pos =>
    rw [if_pos reserved]
    exact row (table.trans (if_pos reserved)) waits ⟨rfl, rfl⟩
  rw [if_neg reserved]
  replace table := table.trans (if_neg reserved)
  by_cases waiting : (s.gate g).state = .waiting
  case pos =>
    rw [if_pos waiting]
    exact row (table.trans (if_pos waiting)) waits ⟨rfl, rfl⟩
  rw [if_neg waiting]
  replace table := table.trans (if_neg waiting)
  by_cases closed : (s.session (s.gateEntry g).platform).isOpen = false
  case pos =>
    rw [if_pos closed]
    have shut : (!(s.session (s.gateEntry g).platform).isOpen) = true := by simp [closed]
    exact row (table.trans (if_pos shut)) waits ⟨rfl, rfl⟩
  have opened : ¬(!(s.session (s.gateEntry g).platform).isOpen) = true := by simpa using closed
  rw [if_neg closed]
  replace table := table.trans (if_neg opened)
  have allowed := policyAllows_open (s := s) (by simpa using closed)
  split
  all_goals
    rename_i served
    rw [served] at allowed
    dsimp only [Option.elim] at allowed
    rw [← allowed]
    by_cases allows : s.policyAllows (s.gateEntry g).platform = true
    · rw [if_pos allows]
      intro alone
      have granted : evaluatePolicy (reserve (s.gateEntry g).platform g (s.withAnswering (some x.port))) (s.gateEntry g).platform =
          reserve (s.gateEntry g).platform g (s.withAnswering (some x.port)) := evaluatePolicy_reserve alone
      exact row ((table.trans (if_pos allows)).trans (congrArg (·, gateAnswer g .admitted .none) granted)) waits ⟨rfl, rfl⟩
    · rw [if_neg allows]
      exact row (table.trans (if_neg allows)) waits ⟨rfl, rfl⟩

end Sys2Proof.Machine
end

section
/-! A GATE REPORT and a PASSAGE (R141, R142, R152, R153). -/

namespace Sys2Proof.Machine

/-! ### A gate that is taken out of the session (R142, R143) -/

/-- The waiting lists hold each gate once, and those of the platform that wait. -/
structure ListsWait (s : State) : Prop where
  once : ∀ q, (s.session q).waiting.Nodup
  own : ∀ q, ∀ h ∈ (s.session q).waiting, (s.gateEntry h).platform = q
  waits : ∀ q, ∀ h ∈ (s.session q).waiting, (s.gate h).state = .waiting

theorem ListsWait.lists {s : State} (h : ListsWait s) : s.Lists := fun q => ⟨h.once q, h.own q⟩

/-- Another record for a gate, with its state. -/
theorem ListsWait.withGate {s : State} (h : ListsWait s) {g : Fin 16} {x : GateChannel} (state : x.state = (s.gate g).state) :
    ListsWait (s.withGate g x) where
  once q := h.once q
  own q e mem := h.own q e mem
  waits q e mem := by
    by_cases same : e = g
    · rw [same, State.gate_withGate_same, state]
      exact h.waits q g (same ▸ mem)
    · rw [State.gate_withGate_other _ _ same]
      exact h.waits q e mem

/-- A gate that does not wait is in no list. -/
theorem ListsWait.unlisted {s : State} (h : ListsWait s) {g : Fin 16} (state : (s.gate g).state ≠ .waiting) (p : Fin 8) :
    g ∉ (s.session p).waiting := fun mem => state (h.waits p g mem)

theorem ListsWait.leaveList {s : State} (h : ListsWait s) {g : Fin 16} (waiting : (s.gate g).state = .waiting) :
    Out (leaveList g s) g := by
  have left : Machine.leaveWaiting (gateSta g) s g = Machine.leaveList g s := if_pos ⟨rfl, waiting⟩
  rw [← left]
  exact h.lists.out rfl waiting

theorem ListsWait.giveUp {s : State} (h : ListsWait s) {g : Fin 16} (state : (s.gate g).state ≠ .waiting) : Out (giveUp g s) g := by
  refine ⟨by rw [(giveUp_gates g s).1], fun p mem => ?_⟩
  exact h.unlisted state p ((Thins.giveUp g s).lists p g mem)

/-- A gate taken out of the session is IDLE and in no list (R142, R143). -/
theorem ListsWait.takeOut {s : State} (h : ListsWait s) (g : Fin 16) (r : Reason) : Out (takeOut g r s) g := by
  unfold Machine.takeOut
  split
  · rename_i waiting
    exact ((h.leaveList waiting).thins (.noticeGate ..)).evaluatePolicy _
  · rename_i reserved
    exact ((h.giveUp (by rw [reserved]; decide)).thins (.noticeGate ..)).evaluatePolicy _
  · rename_i idle
    exact ⟨idle, h.unlisted (by rw [idle]; decide)⟩

/-! ### GATE REPORT (R142) -/

/-- The answer by a gate's flags and state (R142). -/
def standingAnswer (g : Fin 16) (x : GateChannel) : TxEntry :=
  if x.masked then gateAnswer g .refused .masked
  else if x.fault then gateAnswer g .refused .fault
  else if x.state = .reserved then gateAnswer g .admitted .none
  else if x.state = .waiting then gateAnswer g .wait .none
  else gateAnswer g .refused .idle

theorem gateStanding_eq (g : Fin 16) (s : State) : gateStanding g s = standingAnswer g (s.gate g) := by
  unfold gateStanding standingAnswer
  cases (s.gate g).state <;> rfl

/-- The gate's record with the reported flag (R142). -/
def State.faulted (s : State) (g : Fin 16) (fault : Byte) : GateChannel := { s.gate g with fault := fault != 0 }

theorem decideGateReport_foreign {x : Sta} {g : Fin 16} {fault : Byte} {s : State} (foreign : ¬s.belongs x g = true) :
    decideGateReport x g fault s = (s, gateAnswer g .refused .noGate) := if_pos (by simp [foreign])

theorem decideGateReport_steady {x : Sta} {g : Fin 16} {fault : Byte} {s : State} (own : s.belongs x g = true)
    (steady : ¬(fault ≠ 0 ∧ (s.gate g).fault = false)) :
    decideGateReport x g fault s = (s.withGate g (s.faulted g fault), standingAnswer g (s.faulted g fault)) := by
  have stays : (flagOfByte fault && !(s.gate g).fault) = false := by
    simpa [flagOfByte] using steady
  unfold decideGateReport
  dsimp only
  rw [if_neg (by simp [own]), stays, if_neg Bool.false_ne_true, gateStanding_eq, State.gate_withGate_same]
  rfl

theorem decideGateReport_onset {x : Sta} {g : Fin 16} {fault : Byte} {s : State} (own : s.belongs x g = true)
    (onset : fault ≠ 0 ∧ (s.gate g).fault = false) :
    decideGateReport x g fault s =
      ((takeOut g .fault (s.withGate g (s.faulted g fault))).setAttention .gateFault,
        standingAnswer g ((takeOut g .fault (s.withGate g (s.faulted g fault))).gate g)) := by
  have rises : (flagOfByte fault && !(s.gate g).fault) = true := by
    simpa [flagOfByte] using onset
  unfold decideGateReport
  dsimp only
  rw [if_neg (by simp [own]), rises, if_pos rfl, gateStanding_eq]
  rfl

theorem exec_gateReport {s t : State} {x : Sta} {g : Fin 16} {fault : Byte} {e : TxEntry} (taken : s.takesNow x.port = true)
    (decided : decideGateReport x g fault (s.withAnswering (some x.port)) = (t.withAnswering (some x.port), e)) (waits : t.waits = true)
    (same : t.answering = s.answering ∧ t.held = s.held) : exec (.gateReport x g fault) s = .next (t.rested.sent x.port e) := by
  obtain ⟨answering, held⟩ := idle_of_takesNow taken
  refine exec_sent (c := .gateReport x g fault) (r := .gateReport g fault) rfl taken ?_ (same.1.trans answering) (same.2.trans held) waits
  simp only [decideRequest, Sta.portStation_port, decided, asTelegram]

theorem exec_gateReport_noticed {s t : State} {x : Sta} {g : Fin 16} {fault : Byte} {e : TxEntry} {n : Notice}
    (taken : s.takesNow x.port = true)
    (decided : decideGateReport x g fault (s.withAnswering (some x.port)) = ((t.withAnswering (some x.port)).withHeld [n], e))
    (waits : t.waits = true) (same : t.answering = s.answering ∧ t.held = s.held) :
    exec (.gateReport x g fault) s = .next (handNotice (t.rested.sent x.port e) n) := by
  obtain ⟨answering, held⟩ := idle_of_takesNow taken
  refine exec_sent_noticed (c := .gateReport x g fault) (r := .gateReport g fault) rfl taken ?_ (same.1.trans answering)
    (same.2.trans held) waits
  simp only [decideRequest, Sta.portStation_port, decided, asTelegram]

/-- A gate's notice to its own station is held for the reply (R164). -/
theorem noticeGate_held {g : Fin 16} {x : Sta} {a : NoticeAnswer} {r : Reason} {s : State} (own : gateSta g = x) (held : s.held = []) :
    noticeGate g a r (s.withAnswering (some x.port)) =
      (s.withAnswering (some x.port)).withHeld [.gate { gate := g, answer := a, reason := r }] := by
  have station : some x.port = some (gateSta g).port := by rw [own]
  have empty : (s.withAnswering (some x.port)).held = [] := held
  unfold noticeGate handNotice
  exact (if_pos station).trans (by rw [empty]; rfl)

theorem exec_gateReport_ends {s w : State} {x : Sta} {g : Fin 16} {fault : Byte} {e : TxEntry} (taken : s.takesNow x.port = true)
    (decided : decideGateReport x g fault (s.withAnswering (some x.port)) = (w, e)) :
    ∃ u, exec (.gateReport x g fault) s = .next u ∧ Ends (endEvent w) u ∧ (u.port x.port).tx[(s.port x.port).tx.length]? = some e := by
  have row : decideRequest x.port (.gateReport g fault) (s.withAnswering (some x.port)) = (w, .telegram e) := by
    simp only [decideRequest, Sta.portStation_port, decided, asTelegram]
  obtain ⟨u, next, ends, place, -⟩ := exec_ends (c := .gateReport x g fault) rfl taken row
  exact ⟨u, next, ends, place⟩

theorem standingAnswer_congr {g : Fin 16} {a b : GateChannel} (masked : a.masked = b.masked) (fault : a.fault = b.fault)
    (state : a.state = b.state) : standingAnswer g a = standingAnswer g b := by
  unfold standingAnswer
  rw [masked, fault, state]

/-- Settles O46: the flag is taken, and at its onset the gate is taken out of the session before it is answered. -/
theorem gateReportSetsFault : Obligations.GateReportSetsFault := by
  intro s x g fault taken
  obtain ⟨answering, held⟩ := idle_of_takesNow taken
  intro p belongs onset standing reported
  have owned : s.belongs x g = true ↔ belongs := s.belongs_iff x g
  have answer (state : GateState) (t : Timer) : standing state = standingAnswer g { reported with state := state, timer := t } := by
    have present : (reported.fault = true) = (fault ≠ 0) := by
      simp [reported]
    unfold standingAnswer
    simp only [present]
    cases state <;> rfl
  have steadyAnswer : standing (s.gate g).state = standingAnswer g (s.faulted g fault) := answer _ _
  have alike : ((s.withAnswering (some x.port)).belongs x g = true) = (s.belongs x g = true) := rfl
  have station (own : belongs) : gateSta g = x := own.2.symm
  have onsets (own : belongs) (rises : onset) := decideGateReport_onset (fault := fault) (s := s.withAnswering (some x.port))
    (by rw [alike]; exact owned.mpr own) rises
  refine ⟨fun waits => ⟨fun foreign => ?_, fun own steady => ?_, fun own rises idle => ?_, fun own rises waiting alone => ?_,
    fun own rises reserved alone => ?_⟩, fun lists own rises => ?_⟩
  · have decided := decideGateReport_foreign (fault := fault) (s := s.withAnswering (some x.port))
      (by rw [alike]; exact fun h => foreign (owned.mp h))
    exact exec_gateReport taken decided waits ⟨rfl, rfl⟩
  · have decided := decideGateReport_steady (fault := fault) (s := s.withAnswering (some x.port))
      (by rw [alike]; exact owned.mpr own) steady
    rw [steadyAnswer]
    exact exec_gateReport (t := s.withGate g reported) taken decided waits ⟨rfl, rfl⟩
  · have decided := onsets own rises
    rw [takeOut_idle (x := (s.withAnswering (some x.port)).faulted g fault) .fault idle, State.gate_withGate_same] at decided
    rw [idle] at steadyAnswer
    rw [steadyAnswer]
    exact exec_gateReport (t := (s.withGate g reported).setAttention .gateFault) taken decided waits ⟨rfl, rfl⟩
  · have decided := onsets own rises
    have out := (takeOut_waiting (x := (s.withAnswering (some x.port)).faulted g fault) (s := s.withAnswering (some x.port)) .fault
      waiting alone).trans (noticeGate_held (s := (s.withSession p { s.session p with waiting := [] }).withGate g
        { reported with state := .idle, timer := none }) (station own) held)
    rw [out] at decided
    rw [answer .idle none]
    refine exec_gateReport_noticed (t := ((s.withSession p { s.session p with waiting := [] }).withGate g
        { reported with state := .idle, timer := none }).setAttention .gateFault) taken (decided.trans (Prod.ext rfl ?_)) waits ⟨rfl, rfl⟩
    exact congrArg (standingAnswer g) (State.gate_withGate_same ..)
  · have decided := onsets own rises
    have out := (takeOut_reserved (x := (s.withAnswering (some x.port)).faulted g fault) (s := s.withAnswering (some x.port)) .fault
      reserved alone).trans (noticeGate_held (s := (s.withSession p { s.session p with reservations := (s.session p).reservations - 1 }
        ).withGate g { reported with state := .idle, timer := none }) (station own) held)
    rw [out] at decided
    rw [answer .idle none]
    refine exec_gateReport_noticed (t := ((s.withSession p { s.session p with reservations := (s.session p).reservations - 1 }).withGate g
        { reported with state := .idle, timer := none }).setAttention .gateFault) taken (decided.trans (Prod.ext rfl ?_)) waits ⟨rfl, rfl⟩
    exact congrArg (standingAnswer g) (State.gate_withGate_same ..)
  · have decided := onsets own rises
    have wait : ListsWait (s.withAnswering (some x.port)) := ⟨fun q => (lists q).1, fun q h mem => ((lists q).2 h mem).1,
      fun q h mem => ((lists q).2 h mem).2⟩
    have out := (wait.withGate (g := g) (x := (s.withAnswering (some x.port)).faulted g fault) rfl).takeOut g .fault
    have calm := Calm.takeOut g .fault ((s.withAnswering (some x.port)).withGate g ((s.withAnswering (some x.port)).faulted g fault))
    obtain ⟨masked, faulted, -⟩ := calm.gates g
    rw [State.gate_withGate_same] at masked faulted
    have msu := calm.msu
    have cfs := calm.cfs
    have load := calm.load
    obtain ⟨u, next, done, place⟩ := exec_gateReport_ends taken decided
    generalize takeOut g .fault ((s.withAnswering (some x.port)).withGate g ((s.withAnswering (some x.port)).faulted g fault)) = w at *
    have ends := Calm.endEvent (w.setAttention .gateFault)
    have thins := endEvent_thins (w.setAttention .gateFault)
    generalize endEvent (w.setAttention .gateFault) = e at *
    have gate : u.gate g = e.gate g := congrArg (fun a => a.gates.get g) done.adu
    obtain ⟨maskedAfter, faultAfter, -⟩ := ends.gates g
    have idle : (e.gate g).state = .idle := (thins.gates g).elim (fun same => same.trans out.idle) id
    have same : standingAnswer g (w.gate g) = standing .idle := by
      rw [answer .idle none]
      exact standingAnswer_congr masked faulted out.idle
    rw [same] at place
    refine ⟨u, next, place, ?_, ?_, ?_, ?_, done.msu.trans (ends.msu.trans msu), done.cfs.trans (ends.cfs.trans cfs),
      (congrArg Adu.load done.adu).trans (ends.load.trans load)⟩
    · rw [done.attention]
      exact ends.attention _ (State.attention_setAttention_same ..)
    · rw [gate, idle]
    · rw [gate]
      refine faultAfter.trans (faulted.trans ?_)
      exact bne_iff_ne.mpr rises.1
    · rw [gate]
      exact maskedAfter.trans masked

end Sys2Proof.Machine
end

section
/-! A PASSAGE (R152, R153). -/

namespace Sys2Proof.Machine

/-! ### What follows a tally's change -/

theorem evaluateLoad_sessions (s : State) (c : Car) :
    (evaluateLoad s c).adu.sessions = s.adu.sessions ∧ (evaluateLoad s c).adu.gates = s.adu.gates ∧
      (evaluateLoad s c).adu.unattributed = s.adu.unattributed := by
  obtain ⟨load, adu⟩ := evaluateLoad_adu s c
  rw [adu]
  exact ⟨rfl, rfl, rfl⟩

theorem Out.of_adu {s t : State} {g : Fin 16} (h : Out s g) (sessions : t.adu.sessions = s.adu.sessions) (gates : t.adu.gates = s.adu.gates) :
    Out t g := by
  refine ⟨by rw [State.gate, gates]; exact h.idle, fun p => ?_⟩
  rw [State.session, sessions]
  exact h.listed p

theorem Out.afterTally {s : State} {g : Fin 16} (h : Out s g) (c : Car) : Out (afterTally c s) g := by
  obtain ⟨sessions, gates, -⟩ := evaluateLoad_sessions s c
  have each (l : List (Fin 8)) (t : State) (h : Out t g) :
      Out (l.foldl (fun s p => if (s.session p).served = some c then Machine.evaluatePolicy s p else s) t) g := by
    induction l generalizing t with
    | nil => exact h
    | cons p l ih =>
      refine ih _ ?_
      dsimp only
      split
      · exact h.evaluatePolicy p
      · exact h
  exact each _ _ (h.of_adu sessions gates)

/-- A grant leaves the exit quiet timers (R150). -/
theorem evaluatePolicy_quietTimer (s : State) (p q : Fin 8) : ((evaluatePolicy s p).session q).quietTimer = (s.session q).quietTimer := by
  have granted (n : Nat) (u : State) : ((grantWaiting p n u).session q).quietTimer = (u.session q).quietTimer := by
    induction n generalizing u with
    | zero => rfl
    | succ n ih =>
      unfold grantWaiting
      repeat' split
      · rename_i g _
        obtain ⟨session, sessions⟩ := grant_sessions p g u
        rw [ih]
        by_cases same : q = p
        · rw [same, session]
        · rw [sessions q same]
      · rfl
      · rfl
  exact granted _ s

theorem afterTally_quietTimer (c : Car) (s : State) (q : Fin 8) :
    ((afterTally c s).session q).quietTimer = (s.session q).quietTimer := by
  have each (l : List (Fin 8)) (t : State) :
      ((l.foldl (fun s p => if (s.session p).served = some c then evaluatePolicy s p else s) t).session q).quietTimer =
        (t.session q).quietTimer := by
    induction l generalizing t with
    | nil => rfl
    | cons p l ih =>
      rw [List.foldl_cons, ih]
      split
      · exact evaluatePolicy_quietTimer ..
      · rfl
  refine (each allPlatforms (evaluateLoad s c)).trans ?_
  rw [State.session, (evaluateLoad_sessions s c).1]
  rfl

/-- A tally's change leaves the tally itself, the other car and the unattributed count (R155). -/
theorem afterTally_counts (c : Car) (s : State) :
    ((afterTally c s).load c).tally = (s.load c).tally ∧ (∀ e, e ≠ c → (afterTally c s).load e = s.load e) ∧
      (afterTally c s).adu.unattributed = s.adu.unattributed := by
  refine ⟨?_, fun e other => ?_, ?_⟩
  · rw [afterTally_load, evaluateLoad_load, if_pos rfl]
  · rw [afterTally_load, evaluateLoad_load, if_neg other]
  · exact (Calm.afterTally c s).unattributed.trans (evaluateLoad_sessions s c).2.2

/-! ### What a passage does to its gate (R152) -/

theorem Calm.countUnreserved (p : Fin 8) (s : State) : Calm s (countUnreserved p s) := .after (.setAttention ..) (.withSession ..)

theorem Calm.passGate (g : Fin 16) (s : State) : Calm s (passGate g s).1 := by
  unfold Machine.passGate
  split
  · exact .giveUp g s
  · exact .after (.countUnreserved ..) (.leaveList g s)
  · exact .countUnreserved ..

/-- An entry passage leaves its gate IDLE and in no list. -/
theorem ListsWait.passGate {s : State} (h : ListsWait s) (g : Fin 16) : Out (passGate g s).1 g := by
  have counted {p : Fin 8} {t : State} (h : Out t g) : Out (countUnreserved p t) g := by
    refine ⟨h.idle, fun q mem => h.listed q ?_⟩
    change g ∈ ((t.withSession p { t.session p with unreserved := satInc 255 (t.session p).unreserved }).session q).waiting at mem
    by_cases same : q = p
    · rw [same, State.session_withSession_same] at mem
      rw [same]
      exact mem
    · rw [State.session_withSession_other _ _ same] at mem
      exact mem
  unfold Machine.passGate
  split
  · rename_i reserved
    exact h.giveUp (by rw [reserved]; decide)
  · rename_i waiting
    exact counted (h.leaveList waiting)
  · rename_i idle
    exact counted ⟨idle, h.unlisted (by rw [idle]; decide)⟩

/-- The passage is counted where it consumes a reservation, and is UNRESERVED elsewhere (R152). -/
theorem passGate_result (g : Fin 16) (s : State) :
    ((passGate g s).2 = .counted ↔ (s.gate g).state = .reserved) ∧ ((passGate g s).2 = .counted ∨ (passGate g s).2 = .unreserved) ∧
      ((passGate g s).2 = .unreserved → (passGate g s).1.attention .gateUnreserved = true) := by
  have marked (p : Fin 8) (t : State) : (countUnreserved p t).attention .gateUnreserved = true := State.attention_setAttention_same ..
  unfold passGate
  cases (s.gate g).state with
  | reserved => exact ⟨iff_of_true rfl rfl, .inl rfl, nofun⟩
  | waiting => exact ⟨iff_of_false nofun nofun, .inr rfl, fun _ => marked ..⟩
  | idle => exact ⟨iff_of_false nofun nofun, .inr rfl, fun _ => marked ..⟩

/-! ### PASSAGE as a row -/

theorem exec_passage_ends {s w : State} {x : Sta} {g : Fin 16} {r : PassageResult} (taken : s.takesNow x.port = true)
    (decided : decidePassage x g (s.withAnswering (some x.port)) = (w, passageAnswer g r)) :
    ∃ u, exec (.passage x g) s = .next u ∧ Ends (endEvent w) u ∧
      (u.port x.port).tx[(s.port x.port).tx.length]? = some (passageAnswer g r) := by
  have row : decideRequest x.port (.passage g) (s.withAnswering (some x.port)) = (w, .telegram (passageAnswer g r)) := by
    simp only [decideRequest, Sta.portStation_port, decided, asTelegram]
  obtain ⟨u, next, ends, place, -⟩ := exec_ends (c := .passage x g) rfl taken row
  exact ⟨u, next, ends, place⟩

/-- The passage counted in the served car, at an entry gate (R152). -/
def State.wentIn (s : State) (c : Car) (g : Fin 16) : State :=
  afterTally c (passGate g (setTally c (satInc 255 (s.load c).tally) s)).1

/-- One person less in the car, and the exit quiet timer of an open session as started (R153). -/
def State.oneLess (s : State) (c : Car) (p : Fin 8) : State :=
  if (s.session p).isOpen then (setTally c ((s.load c).tally - 1) s).withSession p { s.session p with quietTimer := s.quietStart }
  else setTally c ((s.load c).tally - 1) s

/-- The passage counted in the served car, at an exit gate (R153). -/
def State.wentOut (s : State) (c : Car) (p : Fin 8) : State := afterTally c (s.oneLess c p)

section
variable {x : Sta} {g : Fin 16} {s : State}

theorem decidePassage_foreign (foreign : ¬s.belongs x g = true) : decidePassage x g s = (s, passageAnswer g .noGate) :=
  if_pos (by simp [foreign])

theorem decidePassage_unserved (own : s.belongs x g = true) (unserved : (s.session (s.gateEntry g).platform).served = none) :
    decidePassage x g s =
      (evaluatePolicy (countUnattributed s) (s.gateEntry g).platform, passageAnswer g .unattributed) := by
  unfold decidePassage
  simp only [own, unserved, Bool.not_true, Bool.false_eq_true, if_false]

theorem decidePassage_entry {c : Car} (own : s.belongs x g = true) (served : (s.session (s.gateEntry g).platform).served = some c)
    (entry : (s.gateEntry g).dir = .entry) :
    decidePassage x g s =
      (s.wentIn c g, passageAnswer g (passGate g (setTally c (satInc 255 (s.load c).tally) s)).2) := by
  unfold decidePassage State.wentIn
  simp only [own, served, entry, Bool.not_true, Bool.false_eq_true, if_false]

theorem decidePassage_exit {c : Car} (own : s.belongs x g = true) (served : (s.session (s.gateEntry g).platform).served = some c)
    (exit : (s.gateEntry g).dir = .exit) :
    decidePassage x g s = (s.wentOut c (s.gateEntry g).platform, passageAnswer g .counted) := by
  have session (c : Car) (n : Nat) (p : Fin 8) : (setTally c n s).session p = s.session p := rfl
  unfold decidePassage State.wentOut State.oneLess
  simp only [own, served, exit, session, Bool.not_true, Bool.false_eq_true, if_false]

end

theorem wentIn_effects {s : State} (c : Car) (g : Fin 16) (lists : ListsWait s) :
    ((s.wentIn c g).load c).tally = satInc 255 (s.load c).tally ∧ (∀ e, e ≠ c → (s.wentIn c g).load e = s.load e) ∧
      (s.wentIn c g).adu.unattributed = s.adu.unattributed ∧ Out (s.wentIn c g) g := by
  have entering : ListsWait (setTally c (satInc 255 (s.load c).tally) s) := ⟨lists.once, lists.own, lists.waits⟩
  have calm := Calm.passGate g (setTally c (satInc 255 (s.load c).tally) s)
  have out := entering.passGate g
  have tally := setTally_load c (satInc 255 (s.load c).tally) s
  have others : (setTally c (satInc 255 (s.load c).tally) s).adu.unattributed = s.adu.unattributed := rfl
  unfold State.wentIn
  generalize setTally c (satInc 255 (s.load c).tally) s = t at *
  generalize (passGate g t).1 = u at *
  have load (e : Car) : u.load e = t.load e := congrArg (PerCar.get · e) calm.load
  obtain ⟨own, other, unattributed⟩ := afterTally_counts c u
  refine ⟨?_, fun e different => ?_, unattributed.trans (calm.unattributed.trans others), out.afterTally c⟩
  · rw [own, load, tally, if_pos rfl]
  · rw [other e different, load, tally, if_neg different]

theorem wentOut_effects (s : State) (c : Car) (p : Fin 8) :
    ((s.wentOut c p).load c).tally = (s.load c).tally - 1 ∧ (∀ e, e ≠ c → (s.wentOut c p).load e = s.load e) ∧
      (s.wentOut c p).adu.unattributed = s.adu.unattributed ∧
      ((s.wentOut c p).session p).quietTimer = if (s.session p).isOpen then s.quietStart else (s.session p).quietTimer := by
  have tally := setTally_load c ((s.load c).tally - 1) s
  obtain ⟨own, other, unattributed⟩ := afterTally_counts c (s.oneLess c p)
  have quiet := afterTally_quietTimer c (s.oneLess c p) p
  have load (e : Car) : (s.oneLess c p).load e = (setTally c ((s.load c).tally - 1) s).load e := by
    unfold State.oneLess
    split <;> rfl
  unfold State.wentOut
  refine ⟨?_, fun e different => ?_, ?_, ?_⟩
  · rw [own, load, tally, if_pos rfl]
  · rw [other e different, load, tally, if_neg different]
  · rw [unattributed, State.oneLess]
    split <;> rfl
  · rw [quiet, State.oneLess]
    split
    · rw [State.session_withSession_same]
    · rfl

/-- What a passage leaves of the loads, once its event has ended. -/
theorem exec_passage_counts {s w : State} {x : Sta} {g : Fin 16} {r : PassageResult} (taken : s.takesNow x.port = true)
    (decided : decidePassage x g (s.withAnswering (some x.port)) = (w, passageAnswer g r)) :
    ∃ u, exec (.passage x g) s = .next u ∧ (u.port x.port).tx[(s.port x.port).tx.length]? = some (passageAnswer g r) ∧
      u.adu.load = w.adu.load ∧ u.adu.unattributed = w.adu.unattributed ∧ Thins w u ∧
      (∀ i, w.attention i = true → u.attention i = true) ∧
      (w.rco.runState ≠ .closing → u.adu = w.adu) ∧ u.msu = s.msu ∧ u.cfs = s.cfs ∧ u.pc5 = s.pc5 := by
  obtain ⟨u, next, done, place⟩ := exec_passage_ends taken decided
  have contained := Contained.decidePassage x g (s.withAnswering (some x.port))
  rw [decided] at contained
  have ends := Calm.endEvent w
  have thins := endEvent_thins w
  have rests := endEvent_of_run (s := w)
  generalize endEvent w = e at done ends thins rests
  refine ⟨u, next, place, (congrArg Adu.load done.adu).trans ends.load, (congrArg Adu.unattributed done.adu).trans ends.unattributed,
    .after (.of_adu done.adu) thins, fun i h => ?_, fun run => ?_, done.msu.trans (ends.msu.trans contained.msu),
    done.cfs.trans (ends.cfs.trans contained.cfs), done.pc5.trans (ends.pc5.trans contained.pc5)⟩
  · rw [done.attention]
    exact ends.attention i h
  · rw [done.adu, rests run]
    rfl

/-- Settles O45, gate by gate of the table. -/
theorem passageCountsOnePerson : Obligations.PassageCountsOnePerson := by
  intro s x g taken lists
  have wait : ListsWait (s.withAnswering (some x.port)) := ⟨fun q => (lists q).1, fun q h mem => ((lists q).2 h mem).1,
    fun q h mem => ((lists q).2 h mem).2⟩
  have belongs := s.belongs_iff x g
  have alike : ((s.withAnswering (some x.port)).belongs x g = true) = (s.belongs x g = true) := rfl
  by_cases own : s.belongs x g = true
  case neg =>
    obtain ⟨u, next, place, load, count, -, -, -, kept⟩ := exec_passage_counts taken
      (decidePassage_foreign (s := s.withAnswering (some x.port)) (by rw [alike]; exact own))
    refine ⟨u, _, next, place, ?_, kept⟩
    rw [if_pos fun h => own (belongs.mpr h)]
    exact ⟨rfl, load, count⟩
  cases served : (s.session (s.gateEntry g).platform).served with
  | none =>
    obtain ⟨u, next, place, load, count, -, -, -, kept⟩ := exec_passage_counts taken
      (decidePassage_unserved (s := s.withAnswering (some x.port)) own served)
    have calm := Calm.evaluatePolicy (countUnattributed (s.withAnswering (some x.port))) (s.gateEntry g).platform
    refine ⟨u, _, next, place, ?_, kept⟩
    rw [if_neg (not_not_intro (belongs.mp own))]
    exact ⟨rfl, load.trans calm.load, count.trans calm.unattributed⟩
  | some c =>
    cases dir : (s.gateEntry g).dir with
    | entry =>
      obtain ⟨u, next, place, load, count, thins, items, -, kept⟩ := exec_passage_counts taken
        (decidePassage_entry (s := s.withAnswering (some x.port)) own served dir)
      refine ⟨u, _, next, place, ?_, kept⟩
      rw [if_neg (not_not_intro (belongs.mp own))]
      obtain ⟨tally, others, unattributed, out⟩ := wentIn_effects c g wait
      obtain ⟨counted, either, unreserved⟩ :=
        passGate_result g (setTally c (satInc 255 ((s.withAnswering (some x.port)).load c).tally) (s.withAnswering (some x.port)))
      have loads (e : Car) : u.load e = ((s.withAnswering (some x.port)).wentIn c g).load e := congrArg (PerCar.get · e) load
      have item := fun h => items .gateUnreserved ((Calm.afterTally c _).attention _ (evaluateLoad_attention _ c _ (unreserved h)))
      exact ⟨(congrArg LoadRecord.tally (loads c)).trans tally, fun e other => (loads e).trans (others e other), count.trans unattributed,
        (thins.gates g).elim (fun same => same.trans out.idle) id, counted, either, item⟩
    | exit =>
      have decided : decidePassage x g (s.withAnswering (some x.port)) =
          ((s.withAnswering (some x.port)).wentOut c (s.gateEntry g).platform, passageAnswer g .counted) :=
        decidePassage_exit (s := s.withAnswering (some x.port)) own served dir
      obtain ⟨u, next, place, load, count, -, -, calm, kept⟩ := exec_passage_counts taken decided
      obtain ⟨tally, others, unattributed, quiet⟩ := wentOut_effects (s.withAnswering (some x.port)) c (s.gateEntry g).platform
      have rco : ((s.withAnswering (some x.port)).wentOut c (s.gateEntry g).platform).rco = s.rco := by
        refine (afterTally_rco ..).trans ?_
        unfold State.oneLess
        split <;> rfl
      have loads (e : Car) : u.load e = ((s.withAnswering (some x.port)).wentOut c (s.gateEntry g).platform).load e :=
        congrArg (PerCar.get · e) load
      refine ⟨u, _, next, place, ?_, kept⟩
      rw [if_neg (not_not_intro (belongs.mp own))]
      refine ⟨rfl, (congrArg LoadRecord.tally (loads c)).trans tally, fun e other => (loads e).trans (others e other),
        count.trans unattributed, fun run => ?_⟩
      have session : u.session (s.gateEntry g).platform =
          ((s.withAnswering (some x.port)).wentOut c (s.gateEntry g).platform).session (s.gateEntry g).platform := by
        rw [State.session, calm (by rw [rco]; exact run)]
        rfl
      have alike : (s.withAnswering (some x.port)).session (s.gateEntry g).platform = s.session (s.gateEntry g).platform := rfl
      refine ((congrArg Session.quietTimer session).trans quiet).trans ?_
      rw [alike]
      cases (s.session (s.gateEntry g).platform).isOpen <;> rfl

end Sys2Proof.Machine
end

section
/-! A request for a stop: its outcomes, said once for CALL, TRIP and HOLD (R63, R64, R68, R69, R75). -/

namespace Sys2Proof.Machine

/-! ### The run is retargeted (R75) -/

/-- The run record of a run retargeted to a request, its own trip back at the head of the queue (R75). -/
def State.retargeted (s : State) (t h : Trip) : Rco :=
  { s.rco with
    tripInHand := some t, queue := h :: withoutTarget t.target s.rco.queue
    authority := { s.rco.authority with targetStop := some t.target, targetPosition := some (s.stopEntry t.target).position } }

theorem withoutTarget_length (k : Fin 6) (q : List Trip) : (withoutTarget k q).length ≤ q.length := List.length_filter_le ..

theorem withoutTarget_of_none {k : Fin 6} {q : List Trip} (other : ∀ t ∈ q, t.target ≠ k) : withoutTarget k q = q :=
  List.filter_eq_self.mpr fun t mem => by simpa using other t mem

theorem returned_of_room {r : Rco} {h : Trip} (hand : r.tripInHand = some h) (room : r.queue.length < 4) :
    r.returned = { r with tripInHand := none, queue := h :: r.queue } := by
  unfold Rco.returned
  rw [hand]
  exact if_pos room

/-- What a retargeting leaves where the queue has room for the trip in hand. -/
structure Retargets (t h : Trip) (s u : State) : Prop where
  rco : u.rco = s.retargeted t h
  bks : u.bks = s.bks
  ssv : u.ssv = s.ssv
  dou : u.dou = s.dou
  adu : u.adu = s.adu
  att : u.att = s.att
  held : s.answering ≠ some .drv → u.held = s.held
  calm : Calm s u

/-- Between requests, and in those of another port, an order for the drive is offered at once (R164). -/
theorem setAuthority_held {a : Authority} {s : State} (other : s.answering ≠ some .drv) : (setAuthority a s).held = s.held := by
  have offered : (handNotice (s.withRco { s.rco with authority := a }) .driveOrder).held = s.held := by
    unfold handNotice
    exact (congrArg State.held (if_neg other)).trans rfl
  unfold setAuthority
  dsimp only
  split
  · rfl
  · exact offered

theorem retarget_retargets {t h : Trip} {s : State} (hand : s.rco.tripInHand = some h)
    (room : (withoutTarget t.target s.rco.queue).length < 4) : Retargets t h s (retarget t s) := by
  have returned : returnTrip (s.withRco { s.rco with queue := withoutTarget t.target s.rco.queue }) =
      s.withRco { s.rco with tripInHand := none, queue := h :: withoutTarget t.target s.rco.queue } := by
    unfold returnTrip
    rw [State.withRco_rco]
    dsimp only
    rw [hand]
    exact if_pos room
  have calm := Calm.retarget t s
  have eq : retarget t s = setAuthority
      { s.rco.authority with targetStop := some t.target, targetPosition := some (s.stopEntry t.target).position }
      (s.withRco { s.rco with tripInHand := some t, queue := h :: withoutTarget t.target s.rco.queue }) := by
    unfold retarget
    rw [returned]
    rfl
  rw [eq] at calm ⊢
  exact ⟨setAuthority_rco .., setAuthority_bks .., setAuthority_ssv .., setAuthority_dou .., setAuthority_adu .., setAuthority_att ..,
    fun other => setAuthority_held other, calm⟩

/-- The run record of a retargeted run at the end of its event. -/
theorem Retargets.rested {t h : Trip} {s u : State} {q : List Trip} (r : Retargets t h s u) (run : s.rco.runState = .running)
    (queue : u.rco.queue = q) :
    u.rested.rco = { s.rco with
      tripInHand := some t, queue := q, firstFailing := none
      authority := { s.rco.authority with targetStop := some t.target, targetPosition := some (s.stopEntry t.target).position } } := by
  have full := r.rco
  unfold State.retargeted at full
  have runs : u.rco.runState = .running := by rw [full]; exact run
  unfold State.rested
  rw [if_neg (by rw [runs]; decide), State.withRco_rco, ← queue, full]

/-- Nothing is taken while the line runs. -/
theorem mayTake_of_running {s : State} (run : s.rco.runState = .running) : s.mayTake = false := by
  unfold State.mayTake
  rw [run]
  cases s.rco.mode <;> rfl

theorem takeHead_of_rests {s : State} (rests : s.mayTake = false) : takeHead s = s := if_neg (by simp [rests])

/-! ### The outcomes of a request for a stop (R63) -/

section
variable {k : Fin 6} {o : Origin} {s : State}

theorem requestStop_refusedMode (mode : s.rco.mode.isPublic = false) : requestStop k o s = (s, .refusedMode) := if_pos (by simp [mode])

theorem requestStop_refusedRange (mode : s.rco.mode.isPublic = true) (absent : (s.stopEntry k).present = false) :
    requestStop k o s = (s, .refusedRange) := (if_neg (by simp [mode])).trans (if_pos (by simp [absent]))

theorem requestStop_joins (mode : s.rco.mode.isPublic = true) (present : (s.stopEntry k).present = true) :
    requestStop k o s = joinTrip k o s := (if_neg (by simp [mode])).trans (if_neg (by simp [present]))

theorem joinTrip_hand {h : Trip} (hand : s.rco.tripInHand = some h) (target : h.target = k) :
    joinTrip k o s = (s.withRco { s.rco with tripInHand := some { h with merged := satInc 255 h.merged } }, .merged) := by
  unfold joinTrip
  rw [hand, if_pos (by simp [target])]
  rfl

theorem joinTrip_other (other : ∀ h, s.rco.tripInHand = some h → h.target ≠ k) :
    joinTrip k o s =
      if (queuedFor k s.rco.queue).isSome then (s.withRco { s.rco with queue := mergeQueue k s.rco.queue }, .merged)
      else if queueCapacity ≤ s.rco.queue.length then (s, .queueFull)
      else insertTrip k o s := by
  have none_ : s.rco.tripInHand.any (fun t => t.target == k) = false := by
    cases hand : s.rco.tripInHand with
    | none => rfl
    | some h => simpa using other h hand
  unfold joinTrip
  rw [none_, if_neg Bool.false_ne_true]

theorem joinTrip_queued (other : ∀ h, s.rco.tripInHand = some h → h.target ≠ k) (queued : ∃ q ∈ s.rco.queue, q.target = k) :
    joinTrip k o s =
      (s.withRco { s.rco with
        queue := s.rco.queue.map (fun q => if q.target = k then { q with merged := satInc 255 q.merged } else q) }, .merged) := by
  have some_ : (queuedFor k s.rco.queue).isSome = true := by
    simpa [queuedFor] using queued
  rw [joinTrip_other other, if_pos some_]
  rfl

theorem joinTrip_full (other : ∀ h, s.rco.tripInHand = some h → h.target ≠ k) (fresh : ∀ q ∈ s.rco.queue, q.target ≠ k)
    (full : 4 ≤ s.rco.queue.length) : joinTrip k o s = (s, .queueFull) := by
  have none_ : ¬(queuedFor k s.rco.queue).isSome = true := by
    simpa using (queuedFor_isNone_iff k s.rco.queue).mpr fresh
  rw [joinTrip_other other, if_neg none_]
  exact if_pos full

theorem joinTrip_inserts (other : ∀ h, s.rco.tripInHand = some h → h.target ≠ k) (fresh : ∀ q ∈ s.rco.queue, q.target ≠ k)
    (room : s.rco.queue.length < 4) : joinTrip k o s = insertTrip k o s := by
  have none_ : ¬(queuedFor k s.rco.queue).isSome = true := by
    simpa using (queuedFor_isNone_iff k s.rco.queue).mpr fresh
  rw [joinTrip_other other, if_neg none_]
  exact if_neg (Nat.not_le.mpr room)

/-- The queue with the request at its tail. -/
def State.joined (s : State) (k : Fin 6) (o : Origin) : State :=
  s.withRco { s.rco with queue := s.rco.queue ++ [{ target := k, origin := o, merged := 1 }] }

theorem insertTrip_waits (stays : ¬s.headGoes) (keeps : ¬s.shortensTo k) : insertTrip k o s = (s.joined k o, .accepted) := by
  have long : ¬(s.mayRetarget && s.liesAhead k && s.reachable k) = true := fun h => keeps ((shortensTo_iff s k).mpr h)
  have rests : (s.joined k o).mayTake = false := Bool.eq_false_iff.mpr fun h => stays ((headGoes_iff s).mpr h)
  exact (if_neg long).trans (congrArg (·, ResultCode.accepted) (takeHead_of_rests rests))

theorem insertTrip_head (goes : s.headGoes) :
    insertTrip k o s = (takeFrom (s.rco.queue ++ [{ target := k, origin := o, merged := 1 }]) (s.joined k o), .accepted) := by
  have long : ¬(s.mayRetarget && s.liesAhead k && s.reachable k) = true := fun h => by
    have run := ((shortensTo_iff s k).mpr h).1
    rcases goes with goes | goes
    · cases run.symm.trans goes.1
    · cases run.symm.trans goes.1
  have takes : (s.joined k o).mayTake = true := (headGoes_iff s).mp goes
  exact (if_neg long).trans (congrArg (·, ResultCode.accepted) (if_pos takes))

theorem insertTrip_shortens (shortens : s.shortensTo k) :
    insertTrip k o s =
      (takeHead (retarget { target := k, origin := o, merged := 1 } (s.joined k o)), .retargeted) := if_pos ((shortensTo_iff s k).mp shortens)

/-- A request that shortens the run: the trip in hand is back at the head of the queue (R75). -/
theorem insertTrip_retargets {h : Trip} (shortens : s.shortensTo k) (hand : s.rco.tripInHand = some h)
    (fresh : ∀ q ∈ s.rco.queue, q.target ≠ k) (room : s.rco.queue.length < 4) :
    ∃ u, insertTrip k o s = (u, .retargeted) ∧ Retargets { target := k, origin := o, merged := 1 } h (s.joined k o) u ∧
      u.rco.queue = h :: s.rco.queue := by
  have queue : withoutTarget k (s.joined k o).rco.queue = s.rco.queue := by
    have split_ : withoutTarget k (s.joined k o).rco.queue =
        withoutTarget k s.rco.queue ++ withoutTarget k [{ target := k, origin := o, merged := 1 }] := List.filter_append ..
    rw [split_, withoutTarget_of_none fresh]
    simp [withoutTarget]
  have retargets := retarget_retargets (t := { target := k, origin := o, merged := 1 }) (s := s.joined k o) hand
    (by rw [queue]; exact room)
  have same := insertTrip_shortens (o := o) shortens
  generalize retarget { target := k, origin := o, merged := 1 } (s.joined k o) = u at *
  have run : u.rco.runState = .running := by
    rw [retargets.rco]
    exact shortens.1
  rw [takeHead_of_rests (mayTake_of_running run)] at same
  refine ⟨u, same, retargets, ?_⟩
  rw [retargets.rco]
  exact congrArg (h :: ·) queue

end

/-! ### The head is taken (R68) -/

theorem takeFrom_finds {q rest : List Trip} {head : Trip} {s : State}
    (found : q.dropWhile (fun t => s.rco.currentStop == some t.target) = head :: rest) : takeFrom q s = takeTrip head rest s := by
  rw [takeFrom_eq, found]

theorem takeFrom_here {q : List Trip} {s : State} (here : ∀ t ∈ q, s.rco.currentStop = some t.target) :
    takeFrom q s = s.withRco { s.rco with queue := [] } := by
  have none_ : q.dropWhile (fun t => s.rco.currentStop == some t.target) = [] := by
    rw [← List.append_nil q, List.dropWhile_append_of_pos fun t mem => beq_iff_eq.mpr (here t mem), List.dropWhile_nil]
  rw [takeFrom_eq, none_]

/-- A head taken while readiness fails leaves CLOSING, which waits for it (R68 to R70, R129, R146). -/
theorem tookHead_of_rests {head : Trip} {rest q : List Trip} {s u : State} (failing : s.readiness.isSome = true)
    (rests : Rests (takeTrip head rest (s.withRco { s.rco with queue := q })) u) : s.tookHead u head rest := by
  have still : (s.withRco { s.rco with queue := q }).readiness.isSome = true := failing
  have closing := takeTrip_closing still rests
  have doors := takeTrip_door head rest (s.withRco { s.rco with queue := q })
  have taken := takeTrip_rco head rest (s.withRco { s.rco with queue := q })
  have rco := rests.rco
  have door := rests.door
  refine ⟨?_, closing.failing, closing.closed, fun c => ?_, closing.bks, closing.ssv, closing.msu, closing.cfs, closing.load⟩
  · have first : ∃ first, u.rco = { (takeTrip head rest (s.withRco { s.rco with queue := q })).rco with firstFailing := first } := ⟨_, rco⟩
    obtain ⟨first, full⟩ := first
    have own : u.rco.firstFailing = first := by rw [full]
    rw [own, full, taken]
    rfl
  · by_cases given : (s.door c).given = true ∧ (s.door c).isPlatform = true
    · rw [if_pos given]
      exact (door c).trans ((doors c).trans (if_pos given))
    · rw [if_neg given]
      exact (door c).trans ((doors c).trans (if_neg given))

/-- A merge into the trip in hand moves nothing (R63). -/
theorem merged_waits {s : State} {h : Trip} (hand : s.rco.tripInHand = some h) (waits : s.waits = true) :
    (s.withRco { s.rco with tripInHand := some { h with merged := satInc 255 h.merged } }).waits = true := by
  rw [State.waits, hand] at waits
  exact waits

/-! ### TRIP (R63, R180) -/

theorem decideTrip_carries {k : Fin 6} {s t : State} {code : ResultCode} (asked : requestStop k .con s = (t, code))
    (mode : code ≠ .refusedMode) (range : code ≠ .refusedRange) :
    decideTrip (BitVec.ofNat 8 k.val) s = { state := t, code := code, detail := encCount t.rco.queue.length } := by
  unfold decideTrip
  rw [stopOfCode_ofNat]
  dsimp only
  rw [asked]
  split
  · rename_i same
    exact absurd (congrArg Prod.snd same) mode
  · rename_i same
    exact absurd (congrArg Prod.snd same) range
  · rename_i same
    cases same
    rfl

theorem decideTrip_refusedMode {k : Fin 6} {s t : State} (asked : requestStop k .con s = (t, .refusedMode)) :
    decideTrip (BitVec.ofNat 8 k.val) s = refuseBare t .refusedMode := by
  simp only [decideTrip, stopOfCode_ofNat, asked]

theorem decideTrip_refusedRange {k : Fin 6} {s t : State} (asked : requestStop k .con s = (t, .refusedRange)) :
    decideTrip (BitVec.ofNat 8 k.val) s = refuse t .refusedRange 2 [] := by
  simp only [decideTrip, stopOfCode_ofNat, asked]

theorem requestStop_public {k : Fin 6} {o : Origin} {s t : State} {code : ResultCode} (mode : s.rco.mode.isPublic = true)
    (present : (s.stopEntry k).present = true) (joins : joinTrip k o s = (t, code)) : requestStop k o s = (t, code) :=
  (requestStop_joins mode present).trans joins

/-- Settles O49, test by test. -/
theorem tripJoinsTheQueue : Obligations.TripJoinsTheQueue := by
  intro s k taken waits
  obtain ⟨answering, held⟩ := idle_of_takesNow taken
  intro answered queued asked
  have row {t : State} {code : ResultCode} {detail : List Byte} (waits : t.waits = true) (same : t.answering = s.answering ∧ t.held = s.held)
      (decided : decideTrip (BitVec.ofNat 8 k.val) (s.withAnswering (some .con)) =
        { state := t.withAnswering (some .con), code := code, detail := detail }) : answered t code detail :=
    exec_concluded (c := .trip (BitVec.ofNat 8 k.val)) (x := .trip (BitVec.ofNat 8 k.val)) rfl taken decided (same.1.trans answering)
      (same.2.trans held) waits
  refine ⟨fun closed => ?_, fun open_ => ?_⟩
  · have mode : s.rco.mode.isPublic = false := Bool.eq_false_iff.mpr fun h => by
      rcases (LineMode.isPublic_iff _).mp h with h | h
      · exact closed.1 h
      · exact closed.2 h
    exact row waits ⟨rfl, rfl⟩ (decideTrip_refusedMode (requestStop_refusedMode (s := s.withAnswering (some .con)) mode))
  have mode : s.rco.mode.isPublic = true := (LineMode.isPublic_iff _).mpr open_
  refine ⟨fun absent => ?_, fun present => ?_⟩
  · exact row waits ⟨rfl, rfl⟩ (decideTrip_refusedRange (requestStop_refusedRange (s := s.withAnswering (some .con)) mode absent))
  have carries {t : State} {code : ResultCode} (joins : joinTrip k .con (s.withAnswering (some .con)) = (t, code)) (mode' : code ≠ .refusedMode)
      (range : code ≠ .refusedRange) := decideTrip_carries (requestStop_public (s := s.withAnswering (some .con)) mode present joins) mode' range
  refine ⟨fun h hand target => ?_, fun other => ⟨fun here => ?_, fun fresh => ⟨fun full => ?_, fun room => ⟨fun stays keeps => ?_,
    fun shortens h hand => ?_, fun goes => ⟨fun head rest found failing => ?_, fun here => ?_⟩⟩⟩⟩⟩
  · exact row (t := s.withRco { s.rco with tripInHand := some { h with merged := satInc 255 h.merged } }) (merged_waits hand waits) ⟨rfl, rfl⟩
      (carries (joinTrip_hand (s := s.withAnswering (some .con)) hand target) nofun nofun)
  · have decided := carries (joinTrip_queued (s := s.withAnswering (some .con)) other here) nofun nofun
    have length : (s.rco.queue.map (fun q => if q.target = k then { q with merged := satInc 255 q.merged } else q)).length = queued :=
      List.length_map ..
    refine row (t := s.withRco { s.rco with
      queue := s.rco.queue.map (fun q => if q.target = k then { q with merged := satInc 255 q.merged } else q) }) waits ⟨rfl, rfl⟩ ?_
    rw [← length]
    exact decided
  · exact row waits ⟨rfl, rfl⟩ (carries (joinTrip_full (s := s.withAnswering (some .con)) other fresh full) nofun nofun)
  · have inserts := joinTrip_inserts (o := .con) (s := s.withAnswering (some .con)) other fresh room
    have decided := carries (inserts.trans (insertTrip_waits stays keeps)) nofun nofun
    have length : (s.rco.queue ++ [asked]).length = queued + 1 := List.length_append ..
    refine row (t := s.withRco { s.rco with queue := s.rco.queue ++ [asked] }) waits ⟨rfl, rfl⟩ ?_
    rw [← length]
    exact decided
  · have inserts := joinTrip_inserts (o := .con) (s := s.withAnswering (some .con)) other fresh room
    obtain ⟨u, same, retargets, queue⟩ := insertTrip_retargets (o := .con) (s := s.withAnswering (some .con)) shortens hand fresh room
    have decided := carries (inserts.trans same) nofun nofun
    rw [queue] at decided
    have run : u.rco.runState = .running := by
      rw [retargets.rco]
      exact shortens.1
    obtain ⟨t, next, rests, con⟩ := exec_decided (c := .trip (BitVec.ofNat 8 k.val)) (x := .trip (BitVec.ofNat 8 k.val)) rfl taken decided
      (waits_of_run (by rw [run]; decide))
    have rco := rests.rco.trans (retargets.rested shortens.1 queue)
    obtain ⟨-, bks, ssv, dou, adu, att, -, calm⟩ := retargets
    rw [attentionSummary_of_att (rests.att.trans att)] at con
    exact ⟨t, next, rco, con, rests.bks.trans bks, rests.ssv.trans ssv, rests.msu.trans calm.msu, rests.dou.trans dou,
      rests.adu.trans adu, rests.cfs.trans calm.cfs⟩
  · have inserts := (joinTrip_inserts (o := .con) (s := s.withAnswering (some .con)) other fresh room).trans (insertTrip_head goes)
    have takes : takeFrom (s.rco.queue ++ [asked]) ((s.withAnswering (some .con)).joined k .con) =
        takeTrip head rest ((s.withAnswering (some .con)).joined k .con) := takeFrom_finds found
    have decided := carries (inserts.trans (congrArg (·, ResultCode.accepted) takes)) nofun nofun
    have queue := congrArg Rco.queue (takeTrip_rco head rest ((s.withAnswering (some .con)).joined k .con))
    rw [queue] at decided
    obtain ⟨t, next, rests, con⟩ := exec_decided (c := .trip (BitVec.ofNat 8 k.val)) (x := .trip (BitVec.ofNat 8 k.val)) rfl taken decided
      (takeTrip_waits _ _ _ failing)
    exact ⟨t, next, tookHead_of_rests (s := s.withAnswering (some .con)) failing rests, con⟩
  · have inserts := (joinTrip_inserts (o := .con) (s := s.withAnswering (some .con)) other fresh room).trans (insertTrip_head goes)
    have takes : takeFrom (s.rco.queue ++ [asked]) ((s.withAnswering (some .con)).joined k .con) =
        (s.withAnswering (some .con)).withRco { s.rco with queue := [] } := takeFrom_here here
    exact row (t := s.withRco { s.rco with queue := [] }) waits ⟨rfl, rfl⟩
      (carries (inserts.trans (congrArg (·, ResultCode.accepted) takes)) nofun nofun)

end Sys2Proof.Machine
end

section
/-! A CALL: the candidate stop and the request for it (R64). -/

namespace Sys2Proof.Machine

/-- A request whose decision holds no notice back: the reply is all that joins the transmit queue (R164). -/
theorem exec_rests_tx {s t : State} {c : Instr} {i : PortId} {r : Request} {reply : Reply} (row : c.request = some (i, r))
    (taken : s.takesNow i = true) (decided : decideRequest i r (s.withAnswering (some i)) = (t, reply)) (waits : t.waits = true)
    (held : t.held = []) :
    ∃ u, exec c s = .next u ∧ Rests t u ∧ (u.port i).tx = (s.port i).tx ++ [reply.form u] := by
  have state := decidedState_of_waits decided waits
  have tx := replied_tx i r s
  have free : (repliedState i r s).held = [] := by
    change (decidedState i r s).held = []
    rw [state]
    exact held
  have done : answered i r s = (repliedState i r s).withHeld [] := by
    change (repliedState i r s).held.foldl offerNotice ((repliedState i r s).withHeld []) = _
    rw [free]
    rfl
  have replied : repliedState i r s = (t.rested.withAnswering none).withPorts (repliedState i r s).ports := by
    unfold repliedState
    rw [state]
    rfl
  have formed (ports : Ports) : replyTo i r s = reply.form (((t.rested.withAnswering none).withPorts ports).withHeld []) := by
    rw [replyTo_of_decided decided, state]
    cases reply <;> rfl
  rw [formed (repliedState i r s).ports] at tx
  refine ⟨_, (exec_taken row taken).trans (congrArg Host.Outcome.next (done.trans (congrArg (·.withHeld []) replied))),
    .ended t _, ?_⟩
  exact tx

/-! ### The nearest candidate (R64) -/

/-- The distance of a stop from a position. -/
def State.distance (s : State) (at_ : Int) (k : Fin 6) : Nat := ((s.stopEntry k).position - at_).natAbs

theorem nearer_eq (s : State) (at_ : Int) (j k : Fin 6) :
    s.nearer at_ j k = if s.distance at_ k < s.distance at_ j then k else j := rfl

/-- The nearest of a list in ascending order, the lower index where two lie equally near. -/
theorem foldl_nearer (s : State) (at_ : Int) (l : List (Fin 6)) (j : Fin 6) (sorted : (j :: l).Pairwise (· < ·)) :
    l.foldl (s.nearer at_) j ∈ j :: l ∧ ∀ i ∈ j :: l, s.distance at_ (l.foldl (s.nearer at_) j) ≤ s.distance at_ i ∧
      (s.distance at_ (l.foldl (s.nearer at_) j) = s.distance at_ i → l.foldl (s.nearer at_) j ≤ i) := by
  induction l generalizing j with
  | nil =>
    refine ⟨List.mem_singleton_self j, fun i mem => ?_⟩
    rw [List.mem_singleton.mp mem]
    exact ⟨Nat.le_refl _, fun _ => Fin.le_refl _⟩
  | cons x l ih =>
    obtain ⟨first, later⟩ := List.pairwise_cons.mp sorted
    obtain ⟨second, last⟩ := List.pairwise_cons.mp later
    have below : j < x := first x (List.mem_cons_self ..)
    rw [List.foldl_cons, nearer_eq]
    by_cases closer : s.distance at_ x < s.distance at_ j
    · rw [if_pos closer]
      obtain ⟨mem, least⟩ := ih x later
      refine ⟨List.mem_cons_of_mem _ mem, fun i here => ?_⟩
      rcases List.mem_cons.mp here with same | there
      · have near := (least x (List.mem_cons_self ..)).1
        rw [same]
        exact ⟨by omega, fun equal => by omega⟩
      · exact least i there
    · rw [if_neg closer]
      obtain ⟨mem, least⟩ := ih j (List.pairwise_cons.mpr ⟨fun y here => first y (List.mem_cons_of_mem _ here), last⟩)
      have near := least j (List.mem_cons_self ..)
      refine ⟨?_, fun i here => ?_⟩
      · rcases List.mem_cons.mp mem with same | there
        · rw [same]
          exact List.mem_cons_self ..
        · exact List.mem_cons_of_mem _ (List.mem_cons_of_mem _ there)
      · rcases List.mem_cons.mp here with same | there
        · rw [same]
          exact near
        rcases List.mem_cons.mp there with same | there
        · rw [same]
          refine ⟨by omega, fun equal => Fin.le_of_lt (Fin.lt_of_le_of_lt (near.2 ?_) below)⟩
          omega
        · exact least i (List.mem_cons_of_mem _ there)

theorem callCandidates_sorted (s : State) (p : Fin 8) : (s.callCandidates p).Pairwise (· < ·) :=
  List.Pairwise.filter _ (by decide)

/-- The stop of a CALL is the candidate that lies nearest to P_sup, of two equally near the lower index (R64). -/
theorem nearest_unique {s : State} {at_ : Int} {p : Fin 8} {j k : Fin 6} {l : List (Fin 6)} (list : s.callCandidates p = j :: l)
    (mem : k ∈ s.callCandidates p)
    (least : ∀ i ∈ s.callCandidates p, s.distance at_ k ≤ s.distance at_ i ∧ (s.distance at_ k = s.distance at_ i → k ≤ i)) :
    l.foldl (s.nearer at_) j = k := by
  have sorted := callCandidates_sorted s p
  rw [list] at sorted mem least
  obtain ⟨here, nearest⟩ := foldl_nearer s at_ l j sorted
  obtain ⟨near, low⟩ := nearest k mem
  obtain ⟨near', low'⟩ := least _ here
  have equal := Nat.le_antisymm near near'
  exact Fin.le_antisymm (low equal) (low' equal.symm)

/-! ### CALL (R64) -/

section
variable {p : Fin 8} {o : Origin} {s : State}

theorem requestCall_refusedMode (mode : s.rco.mode.isPublic = false) : requestCall p o s = (s, .refusedMode) := if_pos (by simp [mode])

theorem requestCall_refusedRange (mode : s.rco.mode.isPublic = true)
    (none_ : (s.platformEntry p).present = false ∨ s.callCandidates p = []) : requestCall p o s = (s, .refusedRange) := by
  unfold requestCall
  rw [if_neg (by simp [mode])]
  rcases none_ with absent | empty
  · exact if_pos (by simp [absent])
  · rw [empty]
    exact ite_self _

theorem requestCall_refusedState {k : Fin 6} {rest : List (Fin 6)} (mode : s.rco.mode.isPublic = true)
    (present : (s.platformEntry p).present = true) (list : s.callCandidates p = k :: rest) (lost : s.msu.pSup = none) :
    requestCall p o s = (s, .refusedState) := by
  unfold requestCall
  rw [if_neg (by simp [mode]), if_neg (by simp [present]), list, lost]

theorem requestCall_asks {k : Fin 6} {at_ : Int} (mode : s.rco.mode.isPublic = true) (present : (s.platformEntry p).present = true)
    (sup : s.msu.pSup = some at_) (mem : k ∈ s.callCandidates p)
    (least : ∀ i ∈ s.callCandidates p, s.distance at_ k ≤ s.distance at_ i ∧ (s.distance at_ k = s.distance at_ i → k ≤ i)) :
    requestCall p o s = requestStop k o s := by
  unfold requestCall
  rw [if_neg (by simp [mode]), if_neg (by simp [present]), sup]
  cases list : s.callCandidates p with
  | nil =>
    rw [list] at mem
    cases mem
  | cons j rest =>
    dsimp only
    rw [nearest_unique list mem least]

end

/-- A candidate stop is present (R64). -/
theorem present_of_candidate {s : State} {p : Fin 8} {k : Fin 6} (mem : k ∈ s.callCandidates p) : (s.stopEntry k).present = true := by
  have listed := (List.mem_filter.mp mem).2
  exact ((Bool.and_eq_true ..).mp listed).1

theorem exec_call {s t : State} {x : Sta} {p : Fin 8} {code : ResultCode} (taken : s.takesNow x.port = true)
    (decided : requestCall p x.origin (s.withAnswering (some x.port)) = (t.withAnswering (some x.port), code)) (waits : t.waits = true)
    (same : t.answering = s.answering ∧ t.held = s.held) : exec (.call x p) s = .next (t.rested.sent x.port (callAnswer p code)) := by
  obtain ⟨answering, held⟩ := idle_of_takesNow taken
  refine exec_sent (c := .call x p) (r := .call p) rfl taken ?_ (same.1.trans answering) (same.2.trans held) waits
  simp only [decideRequest, decideCall, Sta.portStation_port, decided]

/-- Settles O47, test by test: the candidate found, a CALL is the request of R63. -/
theorem callRequestsItsStop : Obligations.CallRequestsItsStop := by
  intro s x p taken waits
  obtain ⟨answering, held⟩ := idle_of_takesNow taken
  intro answered
  have row {t : State} {code : ResultCode} (waits : t.waits = true) (same : t.answering = s.answering ∧ t.held = s.held)
      (decided : requestCall p x.origin (s.withAnswering (some x.port)) = (t.withAnswering (some x.port), code)) : answered t code :=
    exec_call taken decided waits same
  refine ⟨fun closed => ?_, fun open_ => ?_⟩
  · have mode : s.rco.mode.isPublic = false := Bool.eq_false_iff.mpr fun h => by
      rcases (LineMode.isPublic_iff _).mp h with h | h
      · exact closed.1 h
      · exact closed.2 h
    exact row waits ⟨rfl, rfl⟩ (requestCall_refusedMode (s := s.withAnswering (some x.port)) mode)
  have mode : s.rco.mode.isPublic = true := (LineMode.isPublic_iff _).mpr open_
  refine ⟨fun none_ => ?_, fun k rest present list lost => ?_, fun k at_ present sup mem least => ?_⟩
  · exact row waits ⟨rfl, rfl⟩ (requestCall_refusedRange (s := s.withAnswering (some x.port)) mode none_)
  · exact row waits ⟨rfl, rfl⟩ (requestCall_refusedState (s := s.withAnswering (some x.port)) mode present list lost)
  have asks := requestCall_asks (o := x.origin) (s := s.withAnswering (some x.port)) mode present sup mem least
  have joins {t : State} {code : ResultCode} (joins : joinTrip k x.origin (s.withAnswering (some x.port)) = (t, code)) :
      requestCall p x.origin (s.withAnswering (some x.port)) = (t, code) :=
    asks.trans (requestStop_public (s := s.withAnswering (some x.port)) mode (present_of_candidate mem) joins)
  have request {t : State} {code : ResultCode} (decided : requestCall p x.origin (s.withAnswering (some x.port)) = (t, code)) :
      decideRequest x.port (.call p) (s.withAnswering (some x.port)) = (t, .telegram (callAnswer p code)) := by
    simp only [decideRequest, decideCall, Sta.portStation_port, decided]
  refine ⟨fun h hand target => ?_, fun other => ⟨fun here => ?_, fun fresh => ⟨fun full => ?_, fun room => ?_⟩⟩⟩
  · exact row (t := s.withRco { s.rco with tripInHand := some { h with merged := satInc 255 h.merged } }) (merged_waits hand waits)
      ⟨rfl, rfl⟩ (joins (joinTrip_hand (s := s.withAnswering (some x.port)) hand target))
  · exact row (t := s.withRco { s.rco with
      queue := s.rco.queue.map (fun q => if q.target = k then { q with merged := satInc 255 q.merged } else q) }) waits ⟨rfl, rfl⟩
      (joins (joinTrip_queued (s := s.withAnswering (some x.port)) other here))
  · exact row waits ⟨rfl, rfl⟩ (joins (joinTrip_full (s := s.withAnswering (some x.port)) other fresh full))
  intro asked
  have inserts := joinTrip_inserts (o := x.origin) (s := s.withAnswering (some x.port)) other fresh room
  refine ⟨fun stays keeps => ?_, fun shortens h hand => ?_, fun goes => ⟨fun head rest found failing => ?_, fun here => ?_⟩⟩
  · exact row (t := s.withRco { s.rco with queue := s.rco.queue ++ [asked] }) waits ⟨rfl, rfl⟩
      (joins (inserts.trans (insertTrip_waits stays keeps)))
  · obtain ⟨u, same, retargets, queue⟩ := insertTrip_retargets (o := x.origin) (s := s.withAnswering (some x.port)) shortens hand fresh room
    have run : u.rco.runState = .running := by
      rw [retargets.rco]
      exact shortens.1
    have free : u.held = [] := (retargets.held fun drive => by cases x <;> cases drive).trans held
    obtain ⟨t, next, rests, place⟩ := exec_rests_tx (c := .call x p) (r := .call p) rfl taken (request (joins (inserts.trans same)))
      (waits_of_run (by rw [run]; decide)) free
    have rco := rests.rco.trans (retargets.rested shortens.1 queue)
    obtain ⟨-, bks, ssv, dou, adu, -, -, calm⟩ := retargets
    exact ⟨t, next, rco, place, rests.bks.trans bks, rests.ssv.trans ssv, rests.msu.trans calm.msu, rests.dou.trans dou,
      rests.adu.trans adu, rests.cfs.trans calm.cfs⟩
  · have takes : takeFrom (s.rco.queue ++ [asked]) ((s.withAnswering (some x.port)).joined k x.origin) =
        takeTrip head rest ((s.withAnswering (some x.port)).joined k x.origin) := takeFrom_finds found
    have decided := joins ((inserts.trans (insertTrip_head goes)).trans (congrArg (·, ResultCode.accepted) takes))
    obtain ⟨t, next, rests, place, -⟩ := exec_rests (c := .call x p) (r := .call p) rfl taken (request decided)
      (takeTrip_waits _ _ _ failing)
    exact ⟨t, next, tookHead_of_rests (s := s.withAnswering (some x.port)) failing rests, place⟩
  · have takes : takeFrom (s.rco.queue ++ [asked]) ((s.withAnswering (some x.port)).joined k x.origin) =
        (s.withAnswering (some x.port)).withRco { s.rco with queue := [] } := takeFrom_here here
    exact row (t := s.withRco { s.rco with queue := [] }) waits ⟨rfl, rfl⟩
      (joins ((inserts.trans (insertTrip_head goes)).trans (congrArg (·, ResultCode.accepted) takes)))

end Sys2Proof.Machine
end

section
/-! HOLD (R76). -/

namespace Sys2Proof.Machine

/-! ### HOLD in a run (R76) -/

theorem decideHold_retargets {s t : State} {code : ResultCode} (mode : s.rco.mode.isPublic = true) (may : s.mayRetarget = true)
    (held : holdRunning s = (t, code)) (accepted : code ≠ .refusedState) : decideHold s = { state := t, code := code, detail := [] } := by
  unfold decideHold
  rw [if_neg (by simp [mode]), if_pos may, held]
  split
  · rename_i same
    exact absurd (congrArg Prod.snd same) accepted
  · rename_i same
    cases same
    rfl

theorem decideHold_nowhere {s t : State} (mode : s.rco.mode.isPublic = true) (may : s.mayRetarget = true)
    (held : holdRunning s = (t, .refusedState)) : decideHold s = refuse t .refusedState 1 [] := by
  unfold decideHold
  rw [if_neg (by simp [mode]), if_pos may, held]

theorem mayRetarget_of {s : State} (run : s.rco.runState = .running) (granted : s.rco.authority.state = .granted)
    (trip : s.rco.jogRun = false) : s.mayRetarget = true := by
  simp [State.mayRetarget, run, granted, trip]

/-- A stop that no request is queued for becomes a request of the console (R76). -/
theorem holdRunning_fresh {s : State} {k : Fin 6} (found : s.stopsAhead.find? s.reachable = some k)
    (fresh : ∀ q ∈ s.rco.queue, q.target ≠ k) (room : s.rco.queue.length < 4) :
    holdRunning s = (retarget { target := k, origin := .con, merged := 1 } s, .retargeted) := by
  have none_ : queuedFor k s.rco.queue = none := Option.isNone_iff_eq_none.mp ((queuedFor_isNone_iff k s.rco.queue).mpr fresh)
  simp only [holdRunning, found, none_]
  exact if_pos room

theorem holdRunning_nowhere {s : State} (found : s.stopsAhead.find? s.reachable = none) : holdRunning s = (s, .refusedState) := by
  simp only [holdRunning, found]

/-! ### HOLD in CLOSING (R76) -/

/-- The run record of a line that a HOLD has kept at its stop. -/
def State.kept (s : State) (h : Trip) : Rco :=
  { s.rco with
    tripInHand := none, queue := h :: s.rco.queue, runState := .atStop, dwellTimer := some (1000 * s.line.dwellMin)
    dwellElapsed := false }

theorem holdClosing_keeps {s : State} {h : Trip} {k : Fin 6} (hand : s.rco.tripInHand = some h) (room : s.rco.queue.length < 4)
    (here : s.rco.currentStop = some k) : holdClosing s = s.withRco (s.kept h) := by
  have returned : returnTrip s = s.withRco { s.rco with tripInHand := none, queue := h :: s.rco.queue } := by
    unfold returnTrip
    rw [hand]
    exact if_pos room
  have stop : (s.withRco { s.rco with tripInHand := none, queue := h :: s.rco.queue }).rco.currentStop.isSome = true := by
    change s.rco.currentStop.isSome = true
    rw [here]
    rfl
  unfold holdClosing
  rw [returned]
  dsimp only
  rw [if_pos stop]
  refine takeHead_of_rests ?_
  unfold State.mayTake
  cases s.rco.mode <;> rfl

/-! ### The stop found (R76) -/

/-- No stop ahead that can be reached lies nearer than the one found. -/
theorem found_nearest {s : State} {j k : Fin 6} (found : s.stopsAhead.find? s.reachable = some k) (ahead : s.liesAhead j = true)
    (reached : s.reachable j = true) : s.away k ≤ s.away j := by
  obtain ⟨-, before, after, split_, unreached⟩ := List.find?_eq_some_iff_append.mp found
  have mem : j ∈ before ++ k :: after := split_ ▸ mem_stopsAhead.mpr ahead
  have nearest := stopsAhead_nearestFirst s
  unfold NearestFirst at nearest
  rw [split_] at nearest
  rcases List.mem_append.mp mem with early | late
  · have refused := unreached j early
    rw [reached] at refused
    cases refused
  · rcases List.mem_cons.mp late with same | later
    · exact Nat.le_of_eq (congrArg s.away same.symm)
    · exact (List.pairwise_cons.mp (List.pairwise_append.mp nearest).2.1).1 j later

/-- What lies ahead is present, and strictly between P_sup and the target position (section 4.8). -/
theorem liesAhead_between {s : State} {k : Fin 6} {p t : Int} (ahead : s.liesAhead k = true) (sup : s.msu.pSup = some p)
    (target : s.rco.authority.targetPosition = some t) :
    (s.stopEntry k).present = true ∧ (s.rco.authority.dir = some .up → p < (s.stopEntry k).position ∧ (s.stopEntry k).position < t) ∧
      (s.rco.authority.dir = some .down → t < (s.stopEntry k).position ∧ (s.stopEntry k).position < p) := by
  unfold State.liesAhead at ahead
  rw [sup, target] at ahead
  cases dir : s.rco.authority.dir with
  | none =>
    rw [dir] at ahead
    cases ahead
  | some d =>
    rw [dir] at ahead
    simp only [Bool.and_eq_true] at ahead
    obtain ⟨⟨present, near⟩, far⟩ := ahead
    cases d with
    | up => exact ⟨present, fun _ => ⟨of_decide_eq_true near, of_decide_eq_true far⟩, nofun⟩
    | down => exact ⟨present, nofun, fun _ => ⟨of_decide_eq_true far, of_decide_eq_true near⟩⟩

/-- Settles O51: the run ends early by a retargeting, CLOSING by a return of the trip, and the stop found is the first reachable one of
the stops ahead. -/
theorem holdEndsTheRunEarly : Obligations.HoldEndsTheRunEarly := by
  refine ⟨fun s taken => ⟨fun closed waits => ?_, fun open_ => ?_⟩, fun s k p t sup target found => ?_⟩
  · have mode : (!s.rco.mode.isPublic) = true := by
      rw [Bool.not_eq_true', Bool.eq_false_iff]
      intro h
      rcases (LineMode.isPublic_iff _).mp h with h | h
      · exact closed.1 h
      · exact closed.2 h
    exact exec_refused (c := .hold) (x := .hold) rfl taken waits (if_pos mode)
  · obtain ⟨answering, held⟩ := idle_of_takesNow taken
    have mode : s.rco.mode.isPublic = true := (LineMode.isPublic_iff _).mpr open_
    have elsewhere : ¬(!s.rco.mode.isPublic) = true := by simp [mode]
    have still (run : s.rco.runState ≠ .running) : ¬(s.withAnswering (some .con)).mayRetarget = true := fun may => by
      have running : (s.rco.runState == .running) = true := ((Bool.and_eq_true ..).mp ((Bool.and_eq_true ..).mp may).1).1
      exact run (beq_iff_eq.mp running)
    refine ⟨fun k h run granted trip found hand fresh room => ?_, fun run granted trip found => ?_, fun h k run hand room here => ?_,
      fun run closing => ?_⟩
    · have may : (s.withAnswering (some .con)).mayRetarget = true := mayRetarget_of run granted trip
      have decided := decideHold_retargets (s := s.withAnswering (some .con)) mode may (holdRunning_fresh (s := s.withAnswering (some .con)) found fresh room) nofun
      have queue : withoutTarget k (s.withAnswering (some .con)).rco.queue = s.rco.queue := withoutTarget_of_none fresh
      have retargets := retarget_retargets (t := { target := k, origin := .con, merged := 1 }) (s := s.withAnswering (some .con)) hand
        (by rw [queue]; exact room)
      generalize retarget { target := k, origin := .con, merged := 1 } (s.withAnswering (some .con)) = u at decided retargets
      have rco := retargets.rested run (q := h :: s.rco.queue) (by rw [retargets.rco]; exact congrArg (h :: ·) queue)
      have running : u.rco.runState ≠ .closing := by
        rw [retargets.rco]
        change s.rco.runState ≠ .closing
        rw [run]
        decide
      obtain ⟨t, next, rests, con⟩ := exec_decided (c := .hold) (x := .hold) rfl taken decided (waits_of_run running)
      obtain ⟨-, bks, ssv, dou, adu, att, -, calm⟩ := retargets
      rw [attentionSummary_of_att (rests.att.trans att)] at con
      exact ⟨t, next, rests.rco.trans rco, con, rests.bks.trans bks, rests.ssv.trans ssv, rests.msu.trans calm.msu,
        rests.dou.trans dou, rests.adu.trans adu, rests.cfs.trans calm.cfs⟩
    · have may : (s.withAnswering (some .con)).mayRetarget = true := mayRetarget_of run granted trip
      have decided := decideHold_nowhere (s := s.withAnswering (some .con)) mode may (holdRunning_nowhere (s := s.withAnswering (some .con)) found)
      exact exec_refused (c := .hold) (x := .hold) rfl taken (waits_of_run (by rw [run]; decide)) decided
    · have keeps := holdClosing_keeps (s := s.withAnswering (some .con)) hand room here
      have decided : decideHold (s.withAnswering (some .con)) = accept (holdClosing (s.withAnswering (some .con))) :=
        (if_neg elsewhere).trans ((if_neg (still (by rw [run]; decide))).trans (if_pos run))
      exact exec_concluded (c := .hold) (x := .hold) (t := s.withRco (s.kept h)) rfl taken
        (decided.trans (congrArg accept keeps)) answering held (waits_of_run nofun)
    · exact exec_refused (c := .hold) (x := .hold) rfl taken (waits_of_run closing)
        ((if_neg elsewhere).trans ((if_neg (still run)).trans (if_neg closing)))
  · have ahead := mem_stopsAhead.mp (List.mem_of_find?_eq_some found)
    obtain ⟨present, up, down⟩ := liesAhead_between ahead sup target
    refine ⟨present, List.find?_some found, up, down, fun j ahead reached => ?_⟩
    have nearest := found_nearest found ahead reached
    unfold State.away at nearest
    rw [sup] at nearest
    exact nearest

end Sys2Proof.Machine
end

section
/-! JOG (R35, R77, R78) and the start of a departure (R71, R113, R114). -/

namespace Sys2Proof.Machine

/-! ### The start of a departure (R71, R83, R113) -/

@[simp] theorem setRailOrder_att (o : RailOrder) (s : State) : (setRailOrder o s).att = s.att := by simp [setRailOrder, allCars]

/-- A departure toward a stop that has asked for its rail brakes and waits in D1 (R71, R83, R113). -/
structure Departs (k : Fin 6) (d : Dir) (s u : State) : Prop where
  rco : u.rco = { s.rco with
    runState := .departing, brakesSet := false, dwellTimer := none, dwellElapsed := false
    authority := { s.rco.authority with targetStop := some k, targetPosition := some (s.stopEntry k).position, dir := some d } }
  bks : u.bks = { s.bks with slot := .departure .d1, stepTimer := some { which := .railConfirm, remaining := 3000 } }
  ssv : u.ssv = { s.ssv with snapshot := some (s.snapshotFor d), aG := none, percent := none }
  door : ∀ c, u.door c = { s.door c with railOrder := .lift }
  adu : u.adu = s.adu
  att : u.att = s.att
  calm : Calm s u

/-- The authority of a departure (R71). -/
def State.aimed (s : State) (k : Fin 6) (d : Dir) : State :=
  setAuthority { s.rco.authority with targetStop := some k, targetPosition := some (s.stopEntry k).position, dir := some d } s

/-- A line that departs, before its rail brakes are asked for (R71, R83). -/
def State.underWay (s : State) : State :=
  takeSnapshot (setSlot (.departure .d1) ((setRunState .departing s).withRco { (setRunState .departing s).rco with brakesSet := false }))

theorem startDeparture_eq (k : Fin 6) (d : Dir) (s : State) :
    startDeparture k d s = testD1 (startStep .railConfirm Config.railConfirm (setRailOrder .lift (s.aimed k d).underWay)) := rfl

theorem startDeparture_departs (k : Fin 6) (d : Dir) (s : State) :
    Departs k d s (startStep .railConfirm Config.railConfirm (setRailOrder .lift (s.aimed k d).underWay)) := by
  have rco : (s.aimed k d).rco = { s.rco with authority := { s.rco.authority with
    targetStop := some k, targetPosition := some (s.stopEntry k).position, dir := some d } } := setAuthority_rco ..
  have bks : (s.aimed k d).bks = s.bks := setAuthority_bks ..
  have ssv : (s.aimed k d).ssv = s.ssv := setAuthority_ssv ..
  have dou : (s.aimed k d).dou = s.dou := setAuthority_dou ..
  have adu : (s.aimed k d).adu = s.adu := setAuthority_adu ..
  have att : (s.aimed k d).att = s.att := setAuthority_att ..
  have calm : Calm s (s.aimed k d) := Calm.setAuthority ..
  generalize s.aimed k d = a at *
  have under : Calm a a.underWay := Calm.after (.takeSnapshot _) (.after (.setSlot ..) (.after (.withRco _ _ rfl) (.setRunState .departing a)))
  have orders := Calm.setRailOrder .lift a.underWay
  have starts := Calm.startStep .railConfirm Config.railConfirm (setRailOrder .lift a.underWay)
  have cfs := calm.cfs
  have load := calm.load
  refine ⟨?_, ?_, ?_, fun c => ?_, ?_, ?_, .after starts (.after orders (.after under calm))⟩
  · change (setRailOrder .lift a.underWay).rco = _
    rw [setRailOrder_rco]
    change { a.rco with runState := .departing, dwellTimer := none, dwellElapsed := false, brakesSet := false } = _
    rw [rco]
  · change { (setRailOrder .lift a.underWay).bks with stepTimer := some { which := .railConfirm, remaining := 3000 } } = _
    rw [setRailOrder_bks]
    change { a.bks with slot := .departure .d1, stepTimer := some { which := .railConfirm, remaining := 3000 } } = _
    rw [bks]
  · change (setRailOrder .lift a.underWay).ssv = _
    rw [setRailOrder_ssv]
    change { a.ssv with snapshot := some (a.snapshotFor (a.rco.authority.dir.getD .up)), aG := none, percent := none } = _
    have snapshot : a.snapshotFor d = s.snapshotFor d := by
      have line : a.line = s.line := congrArg (fun k => k.tables.line) cfs
      have loads (c : Car) : a.load c = s.load c := congrArg (PerCar.get · c) load
      simp only [State.snapshotFor, line, loads, load]
    rw [ssv, rco, Option.getD_some, snapshot]
  · refine (setRailOrder_door .lift a.underWay c).trans ?_
    change { a.door c with railOrder := .lift } = _
    rw [State.door, dou]
    rfl
  · change (setRailOrder .lift a.underWay).adu = _
    rw [setRailOrder_adu]
    exact adu
  · change (setRailOrder .lift a.underWay).att = _
    rw [setRailOrder_att]
    exact att

/-! ### Step D1 at its start (R113, R114) -/

/-- With no cause latched the cause set is empty (R98). -/
theorem causes_of_unlatched {d : Demand} (lawful : d.lawful = true) (free : d.latched = .none) : d.causes = [] := by
  obtain ⟨grounded, -⟩ := (Demand.lawful_iff d).mp lawful
  refine List.eq_nil_iff_forall_not_mem.mpr fun e mem => ?_
  have brakes := (Level.brakes_iff _).mp (grounded.levels e mem)
  have below := rank_le_highest mem
  rw [← grounded.latched, free] at below
  exact absurd (Nat.le_trans brakes below) (by decide)

/-- An EB_FAULT of an unlatched line leaves the rail brakes' orders and the snapshot (R100, R114). -/
theorem raiseEbFault_settles {s : State} (lawful : s.bks.demand.lawful = true) (free : s.bks.demand.latched = .none) :
    (∀ c, ((raiseEbFault s).door c).railOrder = (s.door c).railOrder) ∧ (raiseEbFault s).ssv = s.ssv ∧
      (raiseEbFault s).bks.demand.latched ≠ .none := by
  have causes := causes_of_unlatched lawful free
  have level : ((s.setAttention .ebConfirm).bks.demand.add .ebFault .emergency).latched = .emergency := by
    change highest (addCause .ebFault .emergency s.bks.demand.causes) = .emergency
    rw [causes]
    rfl
  have raised : raiseEbFault s = _ := raiseAs_eq .latch .ebFault .emergency (s.setAttention .ebConfirm)
  have free' : (s.setAttention .ebConfirm).bks.demand.latched = .none := free
  have demand : ((s.setAttention .ebConfirm).handed .ebFault .emergency).bks.demand.latched = .emergency := by
    rw [handed_bks]
    exact level
  have below : ((s.setAttention .ebConfirm).handed .ebFault .emergency).atRail .none .latch =
      ((s.setAttention .ebConfirm).handed .ebFault .emergency).atEmergency .none .latch := if_neg fun h => by
    rw [demand] at h
    exact absurd h.2 (by decide)
  rw [level, free', if_neg (by decide), below] at raised
  have settles : Settles s (((s.setAttention .ebConfirm).handed .ebFault .emergency).atEmergency .none .latch) :=
    .after (atEmergency_settles ..) (.after (handed_settles ..) (.setAttention s .ebConfirm))
  obtain ⟨esc, escalated⟩ := escalateTo_eq .emergency (((s.setAttention .ebConfirm).handed .ebFault .emergency).atEmergency .none .latch)
  refine ⟨fun c => ?_, ?_, latched_ne_none (Nat.le_trans (by decide) (raiseAs_latched .latch .ebFault .emergency _))⟩
  · rw [raised, escalated]
    exact settles.rails c
  · rw [raised, escalated]
    exact settles.ssv

/-- A departure of an unlatched line in D1: the orders and the snapshot stand, whichever way D1 goes. -/
theorem Departs.tested {k : Fin 6} {d : Dir} {s u : State} (h : Departs k d s u) (lawful : s.bks.demand.lawful = true)
    (free : s.bks.demand.latched = .none) :
    (∀ c, ((testD1 u).door c).railOrder = .lift) ∧ (testD1 u).ssv = { s.ssv with snapshot := some (s.snapshotFor d), aG := none, percent := none } ∧
      (testD1 u).waits = true := by
  have orders (c : Car) : (u.door c).railOrder = .lift := by rw [h.door]
  have departing : u.rco.runState ≠ .closing := by rw [h.rco]; nofun
  by_cases lifted : u.bks.slot = .departure .d1 ∧ u.dou.a.rail = .lifted ∧ u.dou.b.rail = .lifted
  · rw [show testD1 u = startD2 u from if_pos lifted]
    by_cases risen : u.bks.eblRisen = true
    · have fault : startD2 u = raiseEbFault (setStepTimer none (setSlot (.departure .d2) u)) := if_pos risen
      obtain ⟨rails, ssv, latched⟩ := raiseEbFault_settles (s := setStepTimer none (setSlot (.departure .d2) u))
        (by change u.bks.demand.lawful = true; rw [h.bks]; exact lawful) (by change u.bks.demand.latched = .none; rw [h.bks]; exact free)
      rw [fault]
      exact ⟨fun c => (rails c).trans (orders c), ssv.trans h.ssv, waits_of_latched latched⟩
    · rw [startD2_awaits (Bool.eq_false_iff.mpr risen)]
      exact ⟨orders, h.ssv, waits_of_run departing⟩
  · rw [show testD1 u = u from if_neg lifted]
    exact ⟨orders, h.ssv, waits_of_run departing⟩

/-- Where EB-HOLD may be energized, or the rail brakes are awaited, the departure goes on (R113, R114). -/
theorem Departs.proceeds {k : Fin 6} {d : Dir} {s u : State} (h : Departs k d s u)
    (quiet : s.bks.eblRisen = false ∨ ¬(s.dou.a.rail = .lifted ∧ s.dou.b.rail = .lifted)) :
    (testD1 u).rco = u.rco ∧ (testD1 u).adu = s.adu ∧ (testD1 u).att = s.att ∧
      (testD1 u).bks = (if s.dou.a.rail = .lifted ∧ s.dou.b.rail = .lifted then
          { s.bks with slot := .departure .d2, ebHold := true, stepTimer := some { which := .ebLift, remaining := 2000 } }
        else { s.bks with slot := .departure .d1, stepTimer := some { which := .railConfirm, remaining := 3000 } }) := by
  have railA : u.dou.a.rail = s.dou.a.rail := (congrArg DoorRecord.rail (h.door .a) : _)
  have railB : u.dou.b.rail = s.dou.b.rail := (congrArg DoorRecord.rail (h.door .b) : _)
  have slot : u.bks.slot = .departure .d1 := by rw [h.bks]
  by_cases lifted : s.dou.a.rail = .lifted ∧ s.dou.b.rail = .lifted
  · have fallen : u.bks.eblRisen = false := by
      rw [h.bks]
      exact quiet.resolve_right (not_not_intro lifted)
    have tested : testD1 u = startD2 u := if_pos ⟨slot, railA.trans lifted.1, railB.trans lifted.2⟩
    rw [if_pos lifted, tested, startD2_awaits fallen]
    refine ⟨rfl, h.adu, h.att, ?_⟩
    rw [State.withBks_bks, h.bks]
  · have tested : testD1 u = u := if_neg fun all => lifted ⟨railA.symm.trans all.2.1, railB.symm.trans all.2.2⟩
    rw [if_neg lifted, tested]
    exact ⟨rfl, h.adu, h.att, h.bks⟩

/-! ### JOG (R77, R78) -/

theorem Dir.ofCode_code (d : Dir) : Dir.ofCode d.code = some d := by cases d <;> rfl

theorem decideJog_coded (d : Dir) (s : State) :
    decideJog d.code s =
      if s.rco.mode ≠ .maintenance then refuseBare s .refusedMode
      else if !s.cfs.workingValid then refuse s .refusedState 0 []
      else jogByState d s := by
  unfold decideJog
  rw [Dir.ofCode_code]

theorem decideJog_byState {d : Dir} {s : State} (mode : s.rco.mode = .maintenance) (valid : s.cfs.workingValid = true) :
    decideJog d.code s = jogByState d s := by
  rw [decideJog_coded, if_neg (not_not_intro mode), valid]
  rfl

theorem jogByState_rest {d : Dir} {s : State} (run : s.rco.runState = .atStop ∨ s.rco.runState = .offStop) :
    jogByState d s = jogFromRest d s := by
  unfold jogByState
  rcases run with run | run <;> rw [run]

theorem jogByState_running {d : Dir} {s : State} (run : s.rco.runState = .running) :
    jogByState d s =
      if s.rco.authority.dir ≠ some d then refuse s .refusedState 3 []
      else if s.rco.authority.state = .granted then accept (s.withRco { s.rco with jogTimer := some 400 })
      else refuse s .refusedState 4 [] := by
  unfold jogByState
  rw [run]
  rfl

theorem jogByState_departing {d : Dir} {s : State} (run : s.rco.runState = .departing) :
    jogByState d s = if s.rco.authority.dir = some d then accept s else refuse s .refusedState 3 [] := by
  unfold jogByState
  rw [run]

theorem jogByState_stopping {d : Dir} {s : State} (run : s.rco.runState = .stopping ∨ s.rco.runState = .arrested) :
    jogByState d s = refuse s .refusedState (if s.rco.jogRun then 5 else 1) [] := by
  unfold jogByState
  rcases run with run | run <;> rw [run]

theorem jogByState_closing {d : Dir} {s : State} (run : s.rco.runState = .closing) : jogByState d s = refuse s .refusedState 1 [] := by
  unfold jogByState
  rw [run]

theorem Dir.opposite_ne (d : Dir) : d.opposite ≠ d := by cases d <;> decide

theorem jogFromRest_nowhere {d : Dir} {s : State} (next : s.nextStop d = none) : jogFromRest d s = refuse s .refusedRange 2 [] := by
  unfold jogFromRest
  rw [next]

theorem jogFromRest_unready {d : Dir} {k : Fin 6} {c : ReadyCond} {s : State} (next : s.nextStop d = some k)
    (failing : s.readiness = some c) : jogFromRest d s = refuse s .refusedState 3 [byte c.order] := by
  unfold jogFromRest
  rw [next]
  dsimp only
  rw [failing]

theorem jogFromRest_departs {d : Dir} {k : Fin 6} {s : State} (next : s.nextStop d = some k) (ready : s.readiness = none) :
    jogFromRest d s = accept (startDeparture k d (s.withRco { s.rco with jogRun := true })) := by
  unfold jogFromRest
  rw [next]
  dsimp only
  rw [ready]

/-- Settles O52: row by row of R77 and R78; the departure is `startDeparture_departs` and its step D1. -/
theorem jogStartsAndHoldsARun : Obligations.JogStartsAndHoldsARun := by
  intro s d taken waits
  obtain ⟨answering, held⟩ := idle_of_takesNow taken
  have coded := decideJog_coded d (s.withAnswering (some .con))
  refine ⟨fun mode => ?_, fun mode invalid => ?_, fun mode valid => ?_⟩
  · exact exec_refused (c := .jog d.code) (x := .jog d.code) rfl taken waits (coded.trans (if_pos mode))
  · have broken : (!(s.withAnswering (some .con)).cfs.workingValid) = true := by
      change (!s.cfs.workingValid) = true
      rw [invalid]
      rfl
    exact exec_refused (c := .jog d.code) (x := .jog d.code) rfl taken waits
      (coded.trans ((if_neg (not_not_intro mode)).trans (if_pos broken)))
  have byState := decideJog_byState (d := d) (s := s.withAnswering (some .con)) mode valid
  have row {code : ResultCode} {detail : List Byte}
      (decided : jogByState d (s.withAnswering (some .con)) = { state := s.withAnswering (some .con), code := code, detail := detail }) :
      exec (.jog d.code) s = .next (s.concluded code 5 detail) :=
    exec_refused (c := .jog d.code) (x := .jog d.code) rfl taken waits (byState.trans decided)
  have runs (r : RunState) (run : s.rco.runState = r) : (s.withAnswering (some .con)).rco.runState = r := run
  refine ⟨fun rest => ⟨fun none_ => ?_, fun k c next failing => ?_, fun k next ready lawful => ?_⟩, fun run toward => ⟨fun granted => ?_,
    fun withdrawn => ?_⟩, fun run toward => ?_, fun run away => ?_, fun run => ?_, fun run => ?_⟩
  · exact row ((jogByState_rest (s := s.withAnswering (some .con)) rest).trans (jogFromRest_nowhere none_))
  · exact row ((jogByState_rest (s := s.withAnswering (some .con)) rest).trans (jogFromRest_unready next failing))
  · have decided := byState.trans ((jogByState_rest (s := s.withAnswering (some .con)) rest).trans (jogFromRest_departs next ready))
    have departs := startDeparture_departs k d ((s.withAnswering (some .con)).withRco { s.rco with jogRun := true })
    have eq := startDeparture_eq k d ((s.withAnswering (some .con)).withRco { s.rco with jogRun := true })
    generalize startStep .railConfirm Config.railConfirm
      (setRailOrder .lift (((s.withAnswering (some .con)).withRco { s.rco with jogRun := true }).aimed k d).underWay) = u at departs eq
    have calm := Calm.testD1 u
    obtain ⟨orders, ssv, waiting⟩ := departs.tested lawful (latched_of_ready ready)
    have proceeds := departs.proceeds
    have decided' : decideJog d.code (s.withAnswering (some .con)) = accept (testD1 u) := decided.trans (congrArg accept eq)
    obtain ⟨t, done, rests, con⟩ := exec_decided (c := .jog d.code) (x := .jog d.code) rfl taken decided' waiting
    generalize testD1 u = v at calm orders ssv waiting proceeds rests
    have snapshot : t.ssv = _ := rests.ssv.trans ssv
    refine ⟨t, done, fun c => by rw [rests.door, orders], by rw [snapshot], by rw [snapshot], ?_,
      rests.msu.trans (calm.msu.trans departs.calm.msu), rests.cfs.trans (calm.cfs.trans departs.calm.cfs),
      (congrArg Adu.load rests.adu).trans (calm.load.trans departs.calm.load), fun quiet => ?_⟩
    · rw [snapshot]
      unfold State.snapshotFor LoadRecord.estimated ceilDiv
      cases d <;> rfl
    · obtain ⟨rco, adu, att, bks⟩ := proceeds quiet
      rw [attentionSummary_of_att (rests.att.trans att)] at con
      refine ⟨?_, rests.bks.trans bks, rests.adu.trans adu, con⟩
      have run : v.rco.runState ≠ .closing := by rw [rco, departs.rco]; nofun
      rw [rests.rco, State.rested, if_neg run, State.withRco_rco, rco, departs.rco]
      rfl
  · exact exec_concluded (c := .jog d.code) (x := .jog d.code) (t := s.withRco { s.rco with jogTimer := some 400 }) rfl taken
      (byState.trans ((jogByState_running (s := s.withAnswering (some .con)) run).trans
        ((if_neg (not_not_intro toward)).trans (if_pos granted)))) answering held waits
  · have refused : ¬(s.withAnswering (some .con)).rco.authority.state = .granted := fun granted => by
      cases withdrawn.symm.trans granted
    exact row ((jogByState_running (s := s.withAnswering (some .con)) run).trans ((if_neg (not_not_intro toward)).trans (if_neg refused)))
  · exact row ((jogByState_departing (s := s.withAnswering (some .con)) run).trans (if_pos toward))
  · have other : s.rco.authority.dir ≠ some d := fun toward => Dir.opposite_ne d (Option.some.inj (away.symm.trans toward))
    rcases run with run | run
    · exact row ((jogByState_running (s := s.withAnswering (some .con)) run).trans (if_pos other))
    · exact row ((jogByState_departing (s := s.withAnswering (some .con)) run).trans (if_neg other))
  · have decided := jogByState_stopping (d := d) (s := s.withAnswering (some .con)) run
    have number : byte (if s.rco.jogRun then 5 else 1) = if s.rco.jogRun then 5 else 1 := by split <;> rfl
    exact row (decided.trans (by rw [← number]; rfl))
  · exact row (jogByState_closing (s := s.withAnswering (some .con)) run)

end Sys2Proof.Machine
end

section
/-! MODE (R24 to R28). -/

namespace Sys2Proof.Machine

/-! ### The tests of a MODE request (R24, R25) -/

theorem LineMode.ofCode_code (m : LineMode) : LineMode.ofCode m.code = some m := by cases m <;> rfl

theorem decideMode_coded {m : LineMode} {s u : State} {code : ResultCode} {detail : List Byte}
    (decided : decideModeTo m s = { state := u, code := code, detail := detail }) :
    decideMode m.code s = { state := u, code := code, detail := u.rco.mode.code :: detail } := by
  unfold decideMode
  rw [LineMode.ofCode_code]
  dsimp only
  rw [decided]
  rfl

section
variable {m : LineMode} {s : State}

theorem decideModeTo_busy (writing : s.cfs.commit = .writing) : decideModeTo m s = refuseBare s .busy := if_pos writing

theorem idle_ne_writing {c : CommitState} (idle : c = .idle) : ¬c = .writing := fun writing => by cases idle.symm.trans writing

theorem decideModeTo_noRow (idle : s.cfs.commit = .idle) (none_ : transition s.rco.mode m = none) :
    decideModeTo m s = refuseBare s .refusedMode := by
  unfold decideModeTo
  rw [if_neg (idle_ne_writing idle), none_]

theorem decideModeTo_fails {conds : List ModeCond} {u : State} {c : ModeCond} (idle : s.cfs.commit = .idle)
    (row : transition s.rco.mode m = some conds) (tested : testConds conds s = (u, some c)) :
    decideModeTo m s = refuse u .refusedState c.order (condNames u c) := by
  unfold decideModeTo
  rw [if_neg (idle_ne_writing idle), row]
  dsimp only
  rw [tested]

theorem decideModeTo_enters {conds : List ModeCond} {u : State} (idle : s.cfs.commit = .idle)
    (row : transition s.rco.mode m = some conds) (tested : testConds conds s = (u, none)) :
    decideModeTo m s =
      if s.rco.mode = .service ∧ m = .standby then
        { state := enterMode m u, code := .accepted, detail := encCancelled (enterMode m u).rco.modeChange.cancelled }
      else accept (enterMode m u) := by
  unfold decideModeTo
  rw [if_neg (idle_ne_writing idle), row]
  dsimp only
  rw [tested]

end

/-- The pairs of the transition table (R24). -/
def LineMode.follows (a b : LineMode) : Prop :=
  (a = .locked ∧ b = .maintenance) ∨ (a = .locked ∧ b = .standby) ∨ (a = .maintenance ∧ b = .standby) ∨
    (a = .standby ∧ b = .maintenance) ∨ (a = .standby ∧ b = .service) ∨ (a = .service ∧ b = .standby)

theorem transition_none {a b : LineMode} (off : ¬a.follows b) : transition a b = none := by
  unfold LineMode.follows at off
  cases a <;> cases b <;> simp_all [transition]

theorem testConds_passes {c : ModeCond} {rest : List ModeCond} {s : State} (holds : c.holds (c.prepare s) = true) :
    testConds (c :: rest) s = testConds rest (c.prepare s) := if_pos holds

theorem testConds_fails {c : ModeCond} {rest : List ModeCond} {s : State} (fails : c.holds (c.prepare s) = false) :
    testConds (c :: rest) s = (c.prepare s, some c) := if_neg (by simp [fails])

theorem RunState.atRest_iff (r : RunState) : r.atRest = true ↔ r = .atStop ∨ r = .offStop := by
  cases r <;> simp [RunState.atRest]

/-! ### The entry into a mode (R26 to R28) -/

/-- What decides whether an event ends with a departure. -/
theorem waits_of_parts {s t : State} (calm : Calm s t) (latched : t.bks.demand.latched = s.bks.demand.latched)
    (release : ∀ c, (t.door c).release = .none ↔ (s.door c).release = .none) (run : t.rco.runState = s.rco.runState)
    (hand : t.rco.tripInHand = s.rco.tripInHand) : t.waits = s.waits := by
  unfold State.waits
  rw [readiness_of_releases calm latched release, run, hand]

theorem enterStandby_door (c : ModeCause) (s : State) (e : Car) :
    (enterStandby c s).door e =
      if (s.door e).given = true ∧ (s.door e).isPlatform = true then (s.door e).withdrawn s.line.closeTimeout .standby else s.door e := by
  have same (u : State) (dou : u.dou = s.dou) (cfs : u.cfs = s.cfs) :
      (allCars.foldl (withdrawPlatform .standby) (closeAll .mode u)).door e =
        if (s.door e).given = true ∧ (s.door e).isPlatform = true then (s.door e).withdrawn s.line.closeTimeout .standby else s.door e := by
    have doors : (closeAll .mode u).dou = s.dou := (by simp : (closeAll .mode u).dou = u.dou).trans dou
    have line : (closeAll .mode u).line = s.line := congrArg (fun k : Cfs => k.tables.line) ((Calm.closeAll .mode u).cfs.trans cfs)
    rw [withdrawPlatforms_door, line, State.door, doors]
    rfl
  unfold enterStandby
  dsimp only
  exact same _ rfl rfl

theorem enterStandby_closed (c : ModeCause) (s : State) (p : Fin 8) : ((enterStandby c s).session p).isOpen = false := by
  unfold enterStandby
  dsimp only
  generalize changeMode .standby c s.rco.queue s = u
  have closed := closeAll_closed .mode (u.withRco { u.rco with queue := [], dwellTimer := none, dwellElapsed := false, abortCount := 0 })
  generalize closeAll .mode (u.withRco { u.rco with queue := [], dwellTimer := none, dwellElapsed := false, abortCount := 0 }) = v at closed ⊢
  exact withdrawPlatforms_closed closed p

theorem enterStandby_waits {c : ModeCause} {s : State} (waits : s.waits = true) : (enterStandby c s).waits = true := by
  refine (waits_of_parts (Calm.enterStandby c s) (by rw [enterStandby_bks]) (fun e => ?_) (by rw [enterStandby_rco])
    (by rw [enterStandby_rco])).trans waits
  rw [enterStandby_door]
  split
  · rename_i given
    exact withdrawn_release given.1
  · exact Iff.rfl

theorem enterService_door {s : State} (run : s.rco.runState = .atStop) (c : Car) :
    (enterService s).door c = s.rco.currentStop.elim (s.door c) fun k => s.doorAfterAsk k c := by
  cases stop : s.rco.currentStop with
  | none =>
    have none_ : (startDwell (changeMode .service .console [] s)).rco.currentStop = none := stop
    unfold enterService askReleases
    rw [none_]
    rfl
  | some k => exact askReleases_door (s := startDwell (changeMode .service .console [] s)) run stop c

theorem encCount_of_lt {n : Nat} (small : n < 256) : encCount n = [BitVec.ofNat 8 n] := by
  unfold encCount
  rw [if_pos small]
  rfl

/-- The cancelled requests of a lawful queue, byte by byte (R180). -/
theorem encCancelled_lawful {r : Rco} (lawful : r.tripsLawful = true) :
    encCancelled r.queue = BitVec.ofNat 8 r.queue.length :: r.queue.flatMap fun q =>
      [BitVec.ofNat 8 (16 * q.origin.code.toNat + q.target.val), BitVec.ofNat 8 q.merged] := by
  simp only [Rco.tripsLawful, Bool.and_eq_true, decide_eq_true_eq, List.all_eq_true] at lawful
  obtain ⟨⟨⟨⟨short, trips⟩, -⟩, -⟩, -⟩ := lawful
  unfold encCancelled
  rw [encCount_of_lt (by omega)]
  refine congrArg (BitVec.ofNat 8 r.queue.length :: ·) ?_
  rw [List.flatMap_def, List.flatMap_def]
  refine congrArg List.flatten (List.map_congr_left fun q mem => ?_)
  have merged := trips q mem
  simp only [Trip.lawful, Bool.and_eq_true, decide_eq_true_eq] at merged
  rw [encCount_of_lt (by omega)]
  rfl

/-- What the entry into a mode leaves alone (R26 to R28). -/
structure Enters (m : LineMode) (s u : State) : Prop where
  mode : u.rco.mode = m
  change : u.rco.modeChange =
    { previous := s.rco.mode, new := m, cause := .console, cancelled := if m = .standby then s.rco.queue else [] }
  run : u.rco.runState = s.rco.runState
  authority : u.rco.authority = s.rco.authority
  bks : u.bks = s.bks
  ssv : u.ssv = s.ssv
  att : u.att = s.att
  calm : Calm s u

theorem enterStandby_enters (s : State) : Enters .standby s (enterStandby .console s) where
  mode := by rw [enterStandby_rco]
  change := by rw [enterStandby_rco]; rfl
  run := by rw [enterStandby_rco]
  authority := by rw [enterStandby_rco]
  bks := enterStandby_bks ..
  ssv := (Settles.enterStandby .console s).ssv
  att := enterStandby_att ..
  calm := .enterStandby ..

theorem enterService_enters (s : State) : Enters .service s (enterService s) where
  mode := by rw [enterService_rco]
  change := by rw [enterService_rco]; rfl
  run := by rw [enterService_rco]
  authority := by rw [enterService_rco]
  bks := enterService_bks ..
  ssv := (Settles.askReleases _).ssv
  att := enterService_att ..
  calm := .enterService ..

theorem enterMaintenance_enters (s : State) : Enters .maintenance s (enterMaintenance s) where
  mode := rfl
  change := rfl
  run := rfl
  authority := rfl
  bks := rfl
  ssv := rfl
  att := rfl
  calm := .enterMaintenance s

/-- The Configuration Store after a validation of the working tables that passes (R13). -/
def Cfs.passed (c : Cfs) : Cfs := { c with lastValidation := .pass, workingValid := true }

/-- The Configuration Store after a validation of the working tables that fails (R13). -/
def Cfs.rejected (c : Cfs) (id : TableId) (n : Nat) : Cfs := { c with lastValidation := .failed id n, workingValid := false }

theorem validateWorking_passes {s : State} (valid : validate s.cfs.tables = none) : validateWorking s = s.withCfs s.cfs.passed := by
  unfold validateWorking
  rw [valid]
  rfl

theorem validateWorking_rejects {s : State} {id : TableId} {n : Nat} (invalid : validate s.cfs.tables = some (id, n)) :
    validateWorking s = s.withCfs (s.cfs.rejected id n) := by
  unfold validateWorking
  rw [invalid]
  rfl

@[simp] theorem askReleases_adu (s : State) : (askReleases s).adu = s.adu := by
  have asked (t : State) (c : Car) : (askRelease t c).adu = t.adu := by
    unfold askRelease
    split
    · rfl
    · exact orderRelease_adu ..
  unfold askReleases
  split
  · rename_i k stop
    have each (t : State) (c : Car) : (if ((t.stopEntry k).platform c).isSome then askRelease t c else t).adu = t.adu := by
      split
      · exact asked t c
      · rfl
    exact (each _ .b).trans (each s .a)
  · rfl

/-- The detail of an accepted MODE after the mode in force: the requests that an end of SERVICE cancels (R180). -/
def State.cancelledAt (m : LineMode) (s u : State) : List Byte :=
  if s.rco.mode = .service ∧ m = .standby then encCancelled u.rco.modeChange.cancelled else []

/-- A MODE request whose conditions hold (R24). -/
theorem exec_mode {s u : State} {m : LineMode} {conds : List ModeCond} (taken : s.takesNow .con = true) (idle : s.cfs.commit = .idle)
    (row : transition s.rco.mode m = some conds) (tested : testConds conds (s.withAnswering (some .con)) = (u, none))
    (waits : (enterMode m u).waits = true) :
    ∃ t, exec (.mode m.code) s = .next t ∧ Rests (enterMode m u) t ∧
      t.ports.con.tx = s.ports.con.tx ++ [resultTelegram .accepted t.attentionSummary 1
        ((enterMode m u).rco.mode.code :: s.cancelledAt m (enterMode m u))] := by
  have entered := decideModeTo_enters (s := s.withAnswering (some .con)) idle row tested
  have decided : decideModeTo m (s.withAnswering (some .con)) =
      { state := enterMode m u, code := .accepted, detail := s.cancelledAt m (enterMode m u) } := by
    rw [entered, State.cancelledAt, apply_ite (Decision.mk (enterMode m u) .accepted)]
    rfl
  exact exec_decided (c := .mode m.code) (x := .mode m.code) rfl taken (decideMode_coded decided) waits

theorem enterMode_standby (s : State) : enterMode .standby s = enterStandby .console s := rfl
theorem enterMode_service (s : State) : enterMode .service s = enterService s := rfl
theorem enterMode_maintenance (s : State) : enterMode .maintenance s = enterMaintenance s := rfl

theorem enterMode_enters {m : LineMode} (enterable : m = .maintenance ∨ m = .standby ∨ m = .service) (s : State) :
    Enters m s (enterMode m s) := by
  rcases enterable with rfl | rfl | rfl
  · exact enterMaintenance_enters s
  · exact enterStandby_enters s
  · exact enterService_enters s

theorem enterMode_waits {m : LineMode} {s : State} (enterable : m = .maintenance ∨ m = .standby ∨ m = .service)
    (stands : m = .service → s.rco.runState = .atStop) (waits : s.waits = true) : (enterMode m s).waits = true := by
  rcases enterable with rfl | rfl | rfl
  · rw [enterMode_maintenance]
    exact (waits_of_parts (t := enterMaintenance s) (.enterMaintenance s) rfl (fun _ => Iff.rfl) rfl rfl).trans waits
  · rw [enterMode_standby]
    exact enterStandby_waits waits
  · rw [enterMode_service]
    refine waits_of_run fun closing => ?_
    cases (stands rfl).symm.trans ((enterService_enters s).run.symm.trans closing)

/-- The conditions of an entry into a mode that hold, with the Configuration Store after their tests (R25). -/
structure MayEnter (m : LineMode) (s : State) (k : Cfs) : Prop where
  enterable : m = .maintenance ∨ m = .standby ∨ m = .service
  stands : m = .service → s.rco.runState = .atStop
  stored : k = if s.rco.mode = .maintenance then s.cfs.passed else s.cfs
  tested : ∃ conds, transition s.rco.mode m = some conds ∧
    testConds conds (s.withAnswering (some .con)) = ((s.withCfs k).withAnswering (some .con), none)

theorem mayEnter_plain {m : LineMode} {s : State} {conds : List ModeCond} (enterable : m = .maintenance ∨ m = .standby ∨ m = .service)
    (stands : m = .service → s.rco.runState = .atStop) (stays : s.rco.mode ≠ .maintenance) (row : transition s.rco.mode m = some conds)
    (tested : testConds conds (s.withAnswering (some .con)) = (s.withAnswering (some .con), none)) : MayEnter m s s.cfs where
  enterable := enterable
  stands := stands
  stored := (if_neg stays).symm
  tested := by
    have same : s.withCfs s.cfs = s := rfl
    rw [same]
    exact ⟨conds, row, tested⟩

/-- Settles O48: the refusals condition by condition, and the entries mode by mode. -/
theorem modeFollowsItsTable : Obligations.ModeFollowsItsTable := by
  intro s m taken waits
  obtain ⟨answering, held⟩ := idle_of_takesNow taken
  intro from_ refused row atRest
  have refuses {u : State} {code : ResultCode} {detail : List Byte} (same : u.answering = s.answering ∧ u.held = s.held)
      (mode : u.rco.mode = from_) (waits : u.waits = true)
      (decided : decideModeTo m (s.withAnswering (some .con)) =
        { state := u.withAnswering (some .con), code := code, detail := detail }) : refused u code detail := by
    have coded := decideMode_coded decided
    have kept : (u.withAnswering (some .con)).rco.mode = from_ := mode
    rw [kept] at coded
    exact exec_concluded (c := .mode m.code) (x := .mode m.code) rfl taken coded (same.1.trans answering) (same.2.trans held) waits
  have fails {a b : LineMode} {conds : List ModeCond} {u : State} {c : ModeCond} (same : u.answering = s.answering ∧ u.held = s.held)
      (mode : u.rco.mode = from_) (waits : u.waits = true) (idle : s.cfs.commit = .idle) (current : from_ = a) (target : m = b)
      (listed : transition a b = some conds) (tested : testConds conds (s.withAnswering (some .con)) = (u.withAnswering (some .con), some c)) :
      refused u .refusedState (byte c.order :: condNames (u.withAnswering (some .con)) c) := by
    have row : transition (s.withAnswering (some .con)).rco.mode m = some conds := by
      rw [target]
      exact (congrArg (transition · b) current).trans listed
    exact refuses same mode waits (decideModeTo_fails (s := s.withAnswering (some .con)) idle row tested)
  refine ⟨fun writing => ?_, fun idle => ⟨fun off => ?_, fun current target invalid => ?_, fun current target => ⟨fun lost => ?_,
    fun known moves => ?_⟩, fun current target => ⟨fun moving => ?_, fun rest dirty => ?_, fun rest clean id n bad => ?_⟩,
    fun ends elsewhere => ?_, ?_⟩⟩
  · exact refuses ⟨rfl, rfl⟩ rfl waits (decideModeTo_busy (s := s.withAnswering (some .con)) writing)
  · exact refuses ⟨rfl, rfl⟩ rfl waits (decideModeTo_noRow (s := s.withAnswering (some .con)) idle (transition_none off))
  · exact fails ⟨rfl, rfl⟩ rfl waits idle current target rfl (testConds_fails invalid)
  · rcases target with target | ⟨target, valid⟩
    · exact fails ⟨rfl, rfl⟩ rfl waits idle current target rfl (testConds_fails lost)
    · exact fails ⟨rfl, rfl⟩ rfl waits idle current target rfl ((testConds_passes (c := .imageValid) (s := s.withAnswering (some .con)) valid).trans (testConds_fails lost))
  · rcases target with target | ⟨target, valid⟩
    · exact fails ⟨rfl, rfl⟩ rfl waits idle current target rfl ((testConds_passes (c := .qualified) (s := s.withAnswering (some .con)) known).trans (testConds_fails moves))
    · exact fails ⟨rfl, rfl⟩ rfl waits idle current target rfl
        ((testConds_passes (c := .imageValid) (s := s.withAnswering (some .con)) valid).trans ((testConds_passes (c := .qualified) (s := s.withAnswering (some .con)) known).trans (testConds_fails moves)))
  · have running : s.rco.runState.atRest = false := Bool.eq_false_iff.mpr fun h => moving ((RunState.atRest_iff _).mp h)
    exact fails ⟨rfl, rfl⟩ rfl waits idle current target rfl (testConds_fails running)
  · have still : s.rco.runState.atRest = true := (RunState.atRest_iff _).mpr rest
    have uncommitted : (!s.cfs.uncommitted) = false := by simp [dirty]
    exact fails ⟨rfl, rfl⟩ rfl waits idle current target rfl ((testConds_passes (c := .atRest) (s := s.withAnswering (some .con)) still).trans (testConds_fails uncommitted))
  · have still : s.rco.runState.atRest = true := (RunState.atRest_iff _).mpr rest
    have committed : (!s.cfs.uncommitted) = true := by simp [clean]
    have rejected : testConds [.atRest, .committed, .validation] (s.withAnswering (some .con)) =
        ((s.withCfs (s.cfs.rejected id n)).withAnswering (some .con), some .validation) := by
      have prepared : ModeCond.validation.prepare (s.withAnswering (some .con)) = (s.withCfs (s.cfs.rejected id n)).withAnswering (some .con) :=
        validateWorking_rejects (s := s.withAnswering (some .con)) bad
      have failed := testConds_fails (c := .validation) (rest := []) (s := s.withAnswering (some .con)) (by rw [prepared]; rfl)
      rw [prepared] at failed
      exact (testConds_passes (c := .atRest) (s := s.withAnswering (some .con)) still).trans
        ((testConds_passes (c := .committed) (s := s.withAnswering (some .con)) committed).trans failed)
    exact fails (u := s.withCfs (s.cfs.rejected id n)) ⟨rfl, rfl⟩ rfl waits idle current target rfl rejected
  · have away : (s.rco.runState == .atStop) = false := by simpa using elsewhere
    rcases ends with ⟨current, target⟩ | ⟨current, target⟩
    · exact fails ⟨rfl, rfl⟩ rfl waits idle current target rfl (testConds_fails away)
    · exact fails ⟨rfl, rfl⟩ rfl waits idle current target rfl (testConds_fails away)
  · intro allowed permitted
    obtain ⟨k, enterable, stands, stored, conds, row, tested⟩ : ∃ k, MayEnter m s k := by
      rcases permitted with ⟨current, target, known, still⟩ | ⟨current, target, valid, known, still⟩ | ⟨current, target, rest, clean, valid⟩ |
        ⟨current, target⟩ | ⟨current, target, stop⟩ | ⟨current, target, stop⟩ <;> subst target
      · exact ⟨_, mayEnter_plain (.inl rfl) (fun h => by cases h) (by simp [from_, current]) (congrArg (transition · _) current)
          ((testConds_passes (c := .qualified) (s := s.withAnswering (some .con)) known).trans
            (testConds_passes (c := .standstill) (s := s.withAnswering (some .con)) still))⟩
      · exact ⟨_, mayEnter_plain (.inr (.inl rfl)) (fun h => by cases h) (by simp [from_, current]) (congrArg (transition · _) current)
          ((testConds_passes (c := .imageValid) (s := s.withAnswering (some .con)) valid).trans
            ((testConds_passes (c := .qualified) (s := s.withAnswering (some .con)) known).trans
              (testConds_passes (c := .standstill) (s := s.withAnswering (some .con)) still)))⟩
      · have prepared : ModeCond.validation.prepare (s.withAnswering (some .con)) = (s.withCfs s.cfs.passed).withAnswering (some .con) :=
          validateWorking_passes (s := s.withAnswering (some .con)) valid
        have settled : s.rco.runState.atRest = true := (RunState.atRest_iff _).mpr rest
        have committed : (!s.cfs.uncommitted) = true := by simp [clean]
        have done := testConds_passes (c := .validation) (rest := []) (s := s.withAnswering (some .con)) (by rw [prepared]; rfl)
        rw [prepared] at done
        exact ⟨_, .inr (.inl rfl), (fun h => by cases h), (if_pos current).symm, _, congrArg (transition · _) current,
          (testConds_passes (c := .atRest) (s := s.withAnswering (some .con)) settled).trans
            ((testConds_passes (c := .committed) (s := s.withAnswering (some .con)) committed).trans done)⟩
      · exact ⟨_, mayEnter_plain (.inl rfl) (fun h => by cases h) (by simp [from_, current]) (congrArg (transition · _) current) rfl⟩
      · have stands : (s.rco.runState == .atStop) = true := by simpa using stop
        exact ⟨_, mayEnter_plain (.inr (.inr rfl)) (fun _ => stop) (by simp [from_, current]) (congrArg (transition · _) current)
          (testConds_passes (c := .atStop) (s := s.withAnswering (some .con)) stands)⟩
      · have stands : (s.rco.runState == .atStop) = true := by simpa using stop
        exact ⟨_, mayEnter_plain (.inr (.inl rfl)) (fun h => by cases h) (by simp [from_, current]) (congrArg (transition · _) current)
          (testConds_passes (c := .atStop) (s := s.withAnswering (some .con)) stands)⟩
    generalize begins : (s.withCfs k).withAnswering (some .con) = u at tested
    have rco : u.rco = s.rco := by rw [← begins]; rfl
    have line : u.line = s.line := by rw [← begins, stored]; dsimp only [State.line]; split <;> rfl
    have adu : u.adu = s.adu := by rw [← begins]; rfl
    have dou : u.dou = s.dou := by rw [← begins]; rfl
    have door (c : Car) : u.door c = s.door c := by rw [← begins]; rfl
    have asked (k : Fin 6) (c : Car) : u.doorAfterAsk k c = s.doorAfterAsk k c := by
      rw [← begins, stored]
      split <;> rfl
    obtain ⟨t, next, rests, con⟩ := exec_mode taken idle row tested (enterMode_waits enterable (by rwa [rco]) (by rw [← begins]; exact waits))
    have entered := enterMode_enters enterable u
    have cancelled : s.cancelledAt m (enterMode m u) = if s.rco.mode = .service ∧ m = .standby then encCancelled s.rco.queue else [] := by
      unfold State.cancelledAt
      split
      · rename_i pair
        rw [entered.change, rco, if_pos pair.2]
      · rfl
    rw [entered.mode, cancelled] at con
    have queue : t.rco.queue = (enterMode m u).rco.queue := by rw [rests.rco]; rfl
    have dwellTimer : t.rco.dwellTimer = (enterMode m u).rco.dwellTimer := by rw [rests.rco]; rfl
    have dwellElapsed : t.rco.dwellElapsed = (enterMode m u).rco.dwellElapsed := by rw [rests.rco]; rfl
    have abortCount : t.rco.abortCount = (enterMode m u).rco.abortCount := by rw [rests.rco]; rfl
    have modeChange : t.rco.modeChange = (enterMode m u).rco.modeChange := by rw [rests.rco]; rfl
    refine ⟨t, next, rests.mode.trans entered.mode, ?_, fun target => ⟨?_, ?_, ?_, fun p => ?_, fun c given => ?_⟩,
      fun target => ⟨?_, ?_, ?_, fun c => ?_⟩, fun target => ⟨?_, ?_, ?_⟩, ?_, ?_, ?_, ?_, ?_, ?_, ?_, ?_, fun other => ?_,
      fun service lawful => ?_⟩
    · rw [modeChange]
      exact entered.change.trans (by rw [rco])
    · subst target
      rw [queue, enterMode_standby, enterStandby_rco]
    · subst target
      rw [dwellTimer, enterMode_standby, enterStandby_rco]
    · subst target
      rw [abortCount, enterMode_standby, enterStandby_rco]
    · subst target
      rw [rests.session, enterMode_standby]
      exact enterStandby_closed .console u p
    · subst target
      have after := enterStandby_door .console u c
      rw [door, line] at after
      rw [rests.door, enterMode_standby]
      refine ⟨fun platform => ?_, fun other => ?_⟩
      · rw [if_pos ⟨given, platform⟩] at after
        exact ⟨congrArg DoorRecord.release after, congrArg DoorRecord.lastWithdrawal after⟩
      · rw [if_neg (by simp [other])] at after
        exact after
    · subst target
      rw [dwellTimer, enterMode_service, enterService_rco]
      change startSec u.line.dwellMin = _
      rw [line]
      rfl
    · subst target
      rw [dwellElapsed, enterMode_service, enterService_rco]
    · subst target
      rw [rests.adu, enterMode_service]
      exact (askReleases_adu _).trans adu
    · subst target
      rw [rests.door, enterMode_service]
      refine (enterService_door (by rw [rco]; exact stands rfl) c).trans ?_
      rw [rco]
      cases s.rco.currentStop with
      | none => exact door c
      | some k => exact asked k c
    · subst target
      exact queue.trans (congrArg Rco.queue rco : u.rco.queue = s.rco.queue)
    · subst target
      exact rests.dou.trans dou
    · subst target
      exact rests.adu.trans adu
    · rw [rests.bks, entered.bks, ← begins]
      rfl
    · rw [rests.ssv, entered.ssv, ← begins]
      rfl
    · rw [rests.msu, entered.calm.msu, ← begins]
      rfl
    · rw [rests.runState, entered.run, rco]
    · rw [rests.authority, entered.authority, rco]
    · rw [rests.adu, entered.calm.load, adu]
    · rw [rests.att, entered.att, ← begins]
      rfl
    · rw [rests.cfs, entered.calm.cfs, ← begins]
      exact stored
    · rw [if_neg fun pair => other pair.1] at con
      exact con
    · have standby : m = .standby := by
        have row' := (congrArg (transition · m) service.symm).trans row
        cases m with
        | standby => rfl
        | _ => cases row'
      rw [if_pos ⟨service, standby⟩, encCancelled_lawful lawful] at con
      exact con

end Sys2Proof.Machine
end

section
/-! The record encodings (R173, R178) and CONFIG WRITE (R10 to R12, R179). -/

namespace Sys2Proof.Machine

/-! ### What a record's bytes decode to (R173, R178) -/

theorem natOfBytes_byte (b : Byte) : natOfBytes [b] = b.toNat := by simp [natOfBytes]

theorem natOfBytes_bytes16 (w : BitVec 16) : natOfBytes (bytes16 w) = w.toNat := by
  simp only [natOfBytes, bytes16, List.foldl_cons, List.foldl_nil, BitVec.toNat_setWidth, BitVec.toNat_ushiftRight, Nat.shiftRight_eq_div_pow]
  omega

theorem natOfBytes_bytes32 (w : BitVec 32) : natOfBytes (bytes32 w) = w.toNat := by
  simp only [natOfBytes, bytes32, List.foldl_cons, List.foldl_nil, BitVec.toNat_setWidth, BitVec.toNat_ushiftRight, Nat.shiftRight_eq_div_pow]
  omega

/-- A value that fits the lower half of its field is that of its bytes, signed or not. -/
theorem Field.value_of_small {f : Field} {l : List Byte} (small : 2 * natOfBytes l < 256 ^ f.width) : f.value l = natOfBytes l := by
  unfold Field.value
  exact if_neg (by simp only [Bool.and_eq_true, decide_eq_true_eq, not_and]; omega)

theorem Field.value_of_unsigned {f : Field} (unsigned : f.signed = false) (l : List Byte) : f.value l = natOfBytes l := by
  simp [Field.value, unsigned]

/-- The values of a record read a field of its width first. -/
theorem fieldValues_append {f : Field} {fs : List Field} {a l : List Byte} (width : a.length = f.width) :
    fieldValues (f :: fs) (a ++ l) = f.value a :: fieldValues fs l := by
  rw [fieldValues, ← width, List.take_left' rfl, List.drop_left' rfl]

@[simp] theorem length_encFlag (b : Bool) : (encFlag b).length = 1 := rfl
@[simp] theorem length_encCount (n : Nat) : (encCount n).length = 1 := rfl
@[simp] theorem length_encWord (n : Nat) : (encWord n).length = 2 := rfl
@[simp] theorem length_encShort (x : Int) : (encShort x).length = 2 := rfl
@[simp] theorem length_encPos (x : Int) : (encPos x).length = 4 := rfl
@[simp] theorem length_encIndex {n : Nat} (i : Option (Fin n)) : (encIndex? i).length = 1 := by cases i <;> rfl
@[simp] theorem length_encGateDir (d : GateDir) : (encGateDir d).length = 1 := by cases d <;> rfl

theorem natOfBytes_encPos {x : Int} (least : 0 ≤ x) (most : x ≤ 4000000) : (natOfBytes (encPos x) : Int) = x := by
  rw [encPos, if_pos ⟨by omega, by omega⟩, natOfBytes_bytes32, BitVec.toNat_ofInt]
  omega

theorem natOfBytes_encShort {x : Int} (least : 0 ≤ x) (most : x ≤ 500) : (natOfBytes (encShort x) : Int) = x := by
  rw [encShort, if_pos ⟨by omega, by omega⟩, natOfBytes_bytes16, BitVec.toNat_ofInt]
  omega

theorem natOfBytes_encWord {n : Nat} (small : n < 65536) : natOfBytes (encWord n) = n := by
  rw [encWord, if_pos small, natOfBytes_bytes16, BitVec.toNat_ofNat, Nat.mod_eq_of_lt small]

theorem natOfBytes_encCount {n : Nat} (small : n < 256) : natOfBytes (encCount n) = n := by
  rw [encCount_of_lt small, natOfBytes_byte, BitVec.toNat_ofNat, Nat.mod_eq_of_lt small]

theorem natOfBytes_encFlag (b : Bool) : natOfBytes (encFlag b) = b.toNat := by cases b <;> rfl

theorem value_flag (b : Bool) : presentField.value (encFlag b) = b.toNat :=
  (Field.value_of_unsigned rfl _).trans (congrArg Nat.cast (natOfBytes_encFlag b))

theorem value_pos {lo hi x : Int} (least : 0 ≤ x) (most : x ≤ 4000000) : (signedField 4 lo hi).value (encPos x) = x := by
  have same := natOfBytes_encPos least most
  have small : 2 * natOfBytes (encPos x) < 256 ^ (signedField 4 lo hi).width := by
    change _ < 256 ^ 4
    omega
  exact (Field.value_of_small small).trans same

theorem value_short {lo hi x : Int} (least : 0 ≤ x) (most : x ≤ 500) : (signedField 2 lo hi).value (encShort x) = x := by
  have same := natOfBytes_encShort least most
  have small : 2 * natOfBytes (encShort x) < 256 ^ (signedField 2 lo hi).width := by
    change _ < 256 ^ 2
    omega
  exact (Field.value_of_small small).trans same

theorem value_byte {f : Field} (unsigned : f.signed = false) (b : Byte) : f.value [b] = b.toNat :=
  (Field.value_of_unsigned unsigned _).trans (congrArg Nat.cast (natOfBytes_byte b))

/-- The code of a platform field (R173). -/
def platformCode (p : Option (Fin 8)) : Nat := p.elim 255 (·.val)

theorem value_platform (p : Option (Fin 8)) : stopPlatformField.value (encIndex? p) = platformCode p := by
  cases p with
  | none => rfl
  | some p => exact (value_byte rfl _).trans (congrArg Nat.cast (Nat.mod_eq_of_lt (by omega)))

theorem fieldValues_encStop {e : StopEntry} (position : 0 ≤ e.position ∧ e.position ≤ 4000000) (width : 50 ≤ e.halfWidth ∧ e.halfWidth ≤ 500) :
    fieldValues TableId.stop.fields (encStop e) = [(e.present.toNat : Int), e.position, e.halfWidth, platformCode e.platformA,
      (e.sideA.code.toNat : Int), platformCode e.platformB, (e.sideB.code.toNat : Int)] := by
  have side (s : Side) : (unsignedField 1 0 2).value [s.code] = s.code.toNat := value_byte rfl _
  unfold encStop TableId.fields
  simp only [List.append_assoc]
  rw [fieldValues_append (length_encFlag _), fieldValues_append (length_encPos _), fieldValues_append (length_encShort _),
    fieldValues_append (length_encIndex _), fieldValues_append (a := [e.sideA.code]) rfl, fieldValues_append (length_encIndex _),
    ← List.append_nil [e.sideB.code], fieldValues_append (a := [e.sideB.code]) rfl, value_flag, value_pos position.1 position.2,
    value_short (by omega) width.2, value_platform, value_platform, side, side]
  rfl

theorem fieldValues_encZone {e : ZoneEntry} (start : 0 ≤ e.start ∧ e.start ≤ 4000000) (limit : e.limit ≤ 15000) (percent : e.percent ≤ 100) :
    fieldValues TableId.zone.fields (encZone e) = [(e.present.toNat : Int), e.start, (e.limit : Int), (e.percent : Int)] := by
  have word : (unsignedField 2 500 15000).value (encWord e.limit) = e.limit :=
    (Field.value_of_unsigned rfl _).trans (congrArg Nat.cast (natOfBytes_encWord (by omega)))
  have count : (unsignedField 1 50 100).value (encCount e.percent) = e.percent :=
    (Field.value_of_unsigned rfl _).trans (congrArg Nat.cast (natOfBytes_encCount (by omega)))
  unfold encZone TableId.fields
  simp only [List.append_assoc]
  rw [fieldValues_append (length_encFlag _), fieldValues_append (length_encPos _), fieldValues_append (length_encWord _),
    ← List.append_nil (encCount _), fieldValues_append (length_encCount _), value_flag, value_pos start.1 start.2, word, count]
  rfl

theorem fieldValues_encPlatform (e : PlatformEntry) :
    fieldValues TableId.platform.fields (encPlatform e) = [(e.present.toNat : Int), (e.policy.toNat : Int)] := by
  unfold encPlatform TableId.fields
  rw [fieldValues_append (length_encFlag _), ← List.append_nil [e.policy], fieldValues_append (a := [e.policy]) rfl, value_flag,
    value_byte rfl]
  rfl

/-- The code of a gate's direction (R173). -/
def gateDirNumber : GateDir → Nat
  | .entry => 0
  | .exit => 1

theorem fieldValues_encGate (e : GateEntry) :
    fieldValues TableId.gate.fields (encGate e) = [(e.present.toNat : Int), (e.platform.val : Int), (gateDirNumber e.dir : Int)] := by
  have platform : (unsignedField 1 0 7).value [byte e.platform.val] = e.platform.val :=
    (value_byte rfl _).trans (congrArg Nat.cast (Nat.mod_eq_of_lt (by omega)))
  have dir (d : GateDir) : (unsignedField 1 0 1).value (encGateDir d) = gateDirNumber d := by cases d <;> rfl
  unfold encGate TableId.fields
  simp only [List.append_assoc]
  rw [fieldValues_append (length_encFlag _), fieldValues_append (a := [byte e.platform.val]) rfl, ← List.append_nil (encGateDir _),
    fieldValues_append (length_encGateDir _), value_flag, platform, dir]
  rfl

theorem fieldValues_encDatum {e : DatumEntry} (position : 0 ≤ e.position ∧ e.position ≤ 4000000) :
    fieldValues TableId.datum.fields (encDatum e) = [(e.present.toNat : Int), e.position] := by
  unfold encDatum TableId.fields
  rw [fieldValues_append (length_encFlag _), ← List.append_nil (encPos _), fieldValues_append (length_encPos _), value_flag,
    value_pos position.1 position.2]
  rfl

/-! ### The entries that the values stand for (R3 to R6) -/

theorem flagOf (b : Bool) : ((b.toNat : Int).toNat != 0) = b := by cases b <;> rfl

theorem platformAt_code {l : List Int} {n : Nat} {p : Option (Fin 8)} (value : fieldAt l n = platformCode p) : platformAt l n = p := by
  have number : natAt l n = platformCode p := by rw [natAt, value]; rfl
  unfold platformAt
  cases p with
  | none => exact dif_neg (by rw [number]; decide)
  | some p =>
    have low : natAt l n < 8 := by rw [number]; exact p.isLt
    rw [dif_pos low]
    exact congrArg some (Fin.ext number)

theorem sideAt_code {l : List Int} {n : Nat} {s : Side} (value : fieldAt l n = s.code.toNat) : sideAt l n = s := by
  unfold sideAt natAt
  rw [value]
  cases s <;> rfl

theorem stopOf_values (e : StopEntry) :
    stopOf [(e.present.toNat : Int), e.position, e.halfWidth, platformCode e.platformA, (e.sideA.code.toNat : Int),
      platformCode e.platformB, (e.sideB.code.toNat : Int)] = e := by
  unfold stopOf
  rw [platformAt_code (p := e.platformA) rfl, platformAt_code (p := e.platformB) rfl, sideAt_code (s := e.sideA) rfl,
    sideAt_code (s := e.sideB) rfl]
  cases e
  exact congrArg (StopEntry.mk · _ _ _ _ _ _) (flagOf _)

theorem zoneOf_values (e : ZoneEntry) : zoneOf [(e.present.toNat : Int), e.start, (e.limit : Int), (e.percent : Int)] = e :=
  congrArg (ZoneEntry.mk · _ _ _) (flagOf _)

theorem platformOf_values (e : PlatformEntry) : platformOf [(e.present.toNat : Int), (e.policy.toNat : Int)] = e := by
  have policy : byte e.policy.toNat = e.policy := BitVec.ofNat_toNat ..
  exact congr (congrArg PlatformEntry.mk (flagOf _)) policy

theorem gateOf_values (e : GateEntry) : gateOf [(e.present.toNat : Int), (e.platform.val : Int), (gateDirNumber e.dir : Int)] = e := by
  have dir : (if (gateDirNumber e.dir : Int).toNat = 0 then GateDir.entry else .exit) = e.dir := by cases e.dir <;> rfl
  unfold gateOf
  rw [platformAt_code (p := some e.platform) rfl]
  cases e
  exact congr (congrArg (GateEntry.mk · _) (flagOf _)) dir

theorem datumOf_values (e : DatumEntry) : datumOf [(e.present.toNat : Int), e.position] = e := congrArg (DatumEntry.mk · _) (flagOf _)

/-! ### The record's check (R12) -/

theorem firstBad_accepts {n : Nat} {f : Field} {fs : List Field} {x : Int} {xs : List Int} (ok : f.accepts x = true) :
    firstBad n (f :: fs) (x :: xs) = firstBad (n + 1) fs xs := if_pos ok

theorem within_iff {lo hi x : Int} : within lo hi x = true ↔ lo ≤ x ∧ x ≤ hi := by simp [within]

theorem presentField_accepts (b : Bool) : presentField.accepts b.toNat = true := by cases b <;> rfl

theorem stopPlatform_accepts (p : Option (Fin 8)) : stopPlatformField.accepts (platformCode p) = true := by
  cases p with
  | none => rfl
  | some p =>
    have low : within 0 7 (p.val : Int) = true := within_iff.mpr (by omega)
    exact (congrArg (· || _) low : _)

theorem side_accepts (s : Side) : (unsignedField 1 0 2).accepts s.code.toNat = true := by cases s <;> rfl

theorem encStop_good {e : StopEntry} (position : 0 ≤ e.position ∧ e.position ≤ 4000000) (width : 50 ≤ e.halfWidth ∧ e.halfWidth ≤ 500) :
    badField .stop (encStop e) = none := by
  unfold badField
  rw [fieldValues_encStop position width, TableId.fields, firstBad_accepts (presentField_accepts _), firstBad_accepts (within_iff.mpr position),
    firstBad_accepts (within_iff.mpr width), firstBad_accepts (stopPlatform_accepts _), firstBad_accepts (side_accepts _),
    firstBad_accepts (stopPlatform_accepts _), firstBad_accepts (side_accepts _)]
  rfl

theorem encZone_good {e : ZoneEntry} (start : 0 ≤ e.start ∧ e.start ≤ 4000000) (limit : 500 ≤ e.limit ∧ e.limit ≤ 15000)
    (percent : 50 ≤ e.percent ∧ e.percent ≤ 100) : badField .zone (encZone e) = none := by
  unfold badField
  rw [fieldValues_encZone start limit.2 percent.2, TableId.fields, firstBad_accepts (presentField_accepts _),
    firstBad_accepts (within_iff.mpr start), firstBad_accepts (within_iff.mpr (by omega)), firstBad_accepts (within_iff.mpr (by omega))]
  rfl

theorem encPlatform_good (e : PlatformEntry) : badField .platform (encPlatform e) = none := by
  have policy : (unsignedField 1 0 255).accepts e.policy.toNat = true := by
    have small : within 0 255 (e.policy.toNat : Int) = true := within_iff.mpr (by have := e.policy.isLt; omega)
    exact small
  unfold badField
  rw [fieldValues_encPlatform, TableId.fields, firstBad_accepts (presentField_accepts _), firstBad_accepts policy]
  rfl

theorem encGate_good (e : GateEntry) : badField .gate (encGate e) = none := by
  have dir : (unsignedField 1 0 1).accepts (gateDirNumber e.dir) = true := by cases e.dir <;> rfl
  have platform : (unsignedField 1 0 7).accepts e.platform.val = true := by
    have small : within 0 7 (e.platform.val : Int) = true := within_iff.mpr (by omega)
    exact small
  unfold badField
  rw [fieldValues_encGate, TableId.fields, firstBad_accepts (presentField_accepts _), firstBad_accepts platform, firstBad_accepts dir]
  rfl

theorem encDatum_good {e : DatumEntry} (position : 0 ≤ e.position ∧ e.position ≤ 4000000) : badField .datum (encDatum e) = none := by
  unfold badField
  rw [fieldValues_encDatum position, TableId.fields, firstBad_accepts (presentField_accepts _), firstBad_accepts (within_iff.mpr position)]
  rfl

end Sys2Proof.Machine
end

section
/-! CONFIG WRITE (R10 to R12, R179). -/

namespace Sys2Proof.Machine

/-! ### The steps of a CONFIG WRITE (R179) -/

theorem TableId.ofCode_code (id : TableId) : TableId.ofCode id.code = some id := by cases id <;> rfl

theorem TableId.segments_of_ne {id : TableId} (other : id ≠ .line) : id.segments = 1 := by
  cases id with
  | line => exact absurd rfl other
  | _ => rfl

section
variable {table index segment count : Byte} {bytes : List Byte} {s : State}

theorem decideConfigWrite_busy (writing : s.cfs.commit = .writing) : decideConfigWrite table index segment count bytes s = refuseBare s .busy :=
  if_pos writing

theorem decideConfigWrite_elsewhere (idle : s.cfs.commit = .idle) (other : s.rco.mode ≠ .maintenance) :
    decideConfigWrite table index segment count bytes s = refuseBare s .refusedMode :=
  (if_neg (idle_ne_writing idle)).trans (if_pos other)

theorem decideConfigWrite_moving (idle : s.cfs.commit = .idle) (mode : s.rco.mode = .maintenance)
    (moving : s.rco.runState.atRest = false) : decideConfigWrite table index segment count bytes s = refuse s .refusedState 3 [] :=
  (if_neg (idle_ne_writing idle)).trans ((if_neg (not_not_intro mode)).trans (if_pos (by simp [moving])))

theorem decideConfigWrite_taken (idle : s.cfs.commit = .idle) (mode : s.rco.mode = .maintenance) (rest : s.rco.runState.atRest = true) :
    decideConfigWrite table index segment count bytes s = decideSegment table index segment count bytes s :=
  (if_neg (idle_ne_writing idle)).trans ((if_neg (not_not_intro mode)).trans (if_neg (by simp [rest])))

theorem decideSegment_noTable (none_ : TableId.ofCode table = none) :
    decideSegment table index segment count bytes s = refuse (emptyWrite s) .refusedRange 2 [] := by
  unfold decideSegment
  rw [none_]

/-- A segment of a table's own number that the write buffer takes (R179, steps 4 and 5). -/
theorem decideSegment_taken {id : TableId} {before : List Byte} (counted : count.toNat = id.segments) (inside : segment.toNat < id.segments)
    (buffered : segmentsBefore s.pc5.write id index.toNat segment.toNat = some before) :
    decideSegment id.code index segment count bytes s =
      if segment.toNat + 1 < id.segments then
        accept (s.withPc5
          { s.pc5 with
            write := some { table := id, index := index.toNat, segments := segment.toNat + 1, bytes := before ++ bytes } })
      else decideRecord id index.toNat (before ++ bytes) (emptyWrite s) := by
  have fits : ¬(count.toNat ≠ id.segments ∨ id.segments ≤ segment.toNat) := by omega
  unfold decideSegment
  rw [TableId.ofCode_code]
  dsimp only
  rw [if_neg fits, buffered]

theorem decideSegment_early {id : TableId} (counted : count.toNat = id.segments) (inside : segment.toNat < id.segments)
    (unbuffered : segmentsBefore s.pc5.write id index.toNat segment.toNat = none) :
    decideSegment id.code index segment count bytes s = refuse (emptyWrite s) .refusedRange 3 [] := by
  have fits : ¬(count.toNat ≠ id.segments ∨ id.segments ≤ segment.toNat) := by omega
  unfold decideSegment
  rw [TableId.ofCode_code]
  dsimp only
  rw [if_neg fits, unbuffered]

/-- The one segment of a record of any table but LINE (R179). -/
theorem decideSegment_only {id : TableId} (other : id ≠ .line) :
    decideSegment id.code index 0 1 bytes s = decideRecord id index.toNat bytes (emptyWrite s) := by
  have one := TableId.segments_of_ne other
  rw [decideSegment_taken (before := []) (by rw [one]; rfl) (by rw [one]; decide) rfl, if_neg (by rw [one]; decide)]
  rfl

end

theorem decideRecord_outside {id : TableId} {n : Nat} {bytes : List Byte} {s : State} (outside : id.size ≤ n) :
    decideRecord id n bytes s = refuse s .refusedRange 4 [] := if_pos outside

theorem decideRecord_bad {id : TableId} {n field : Nat} {bytes : List Byte} {s : State} (inside : n < id.size)
    (bad : badField id bytes = some field) : decideRecord id n bytes s = refuse s .refusedRange 5 [byte field] := by
  unfold decideRecord
  rw [if_neg (by omega), bad]

theorem decideRecord_good {id : TableId} {n : Nat} {bytes : List Byte} {s : State} (inside : n < id.size)
    (good : badField id bytes = none) : decideRecord id n bytes s = accept (acceptWrite id n bytes s) := by
  unfold decideRecord
  rw [if_neg (by omega), good]

/-! ### What an accepted write does (R10, R11, R51) -/

/-- The state after a write whose table holds one segment per record, but for what the write does beyond the tables. -/
def State.storing (s : State) (t : Tables) : State :=
  (s.withPc5 { s.pc5 with write := none }).withCfs { s.cfs with tables := t, uncommitted := true, workingValid := false }

theorem putRecord_stop (t : Tables) (k : Fin 6) (bytes : List Byte) :
    putRecord t .stop k.val bytes = { t with stops := t.stops.set k.val (stopOf (fieldValues TableId.stop.fields bytes)) k.isLt } := dif_pos k.isLt

theorem putRecord_zone (t : Tables) (k : Fin 16) (bytes : List Byte) :
    putRecord t .zone k.val bytes = { t with zones := t.zones.set k.val (zoneOf (fieldValues TableId.zone.fields bytes)) k.isLt } := dif_pos k.isLt

theorem putRecord_platform (t : Tables) (k : Fin 8) (bytes : List Byte) :
    putRecord t .platform k.val bytes =
      { t with platforms := t.platforms.set k.val (platformOf (fieldValues TableId.platform.fields bytes)) k.isLt } := dif_pos k.isLt

theorem putRecord_gate (t : Tables) (k : Fin 16) (bytes : List Byte) :
    putRecord t .gate k.val bytes = { t with gates := t.gates.set k.val (gateOf (fieldValues TableId.gate.fields bytes)) k.isLt } := dif_pos k.isLt

theorem putRecord_datum (t : Tables) (k : Fin 4) (bytes : List Byte) :
    putRecord t .datum k.val bytes = { t with datums := t.datums.set k.val (datumOf (fieldValues TableId.datum.fields bytes)) k.isLt } :=
  dif_pos k.isLt

theorem calibrationChange_pc5 (first second : Bool) (s : State) : (calibrationChange first second s).pc5 = s.pc5 := by
  unfold calibrationChange
  split
  · dsimp only
    split
    · exact (KeepsReads.loseStandstill _).pc5
    · rfl
  · rfl

/-- A line that loses standstill at rest does not begin to close its doors (R60). -/
theorem loseStandstill_opens {s : State} (rest : s.rco.runState ≠ .closing) : (loseStandstill s).rco.runState ≠ .closing := by
  rw [loseStandstill_rco]
  unfold lossAtRco
  split
  · split
    · exact RunState.noConfusion
    · exact RunState.noConfusion
    · rename_i closing
      exact absurd closing rest
    · exact rest
  · exact rest

theorem calibrationChange_opens {first second : Bool} {s : State} (rest : s.rco.runState ≠ .closing) :
    (calibrationChange first second s).rco.runState ≠ .closing := by
  unfold calibrationChange
  split
  · dsimp only
    split
    · exact loseStandstill_opens rest
    · exact rest
  · exact rest

/-- What a stored LINE record leaves (R11, R51, R156). -/
structure LineWritten (bytes : List Byte) (s u : State) : Prop where
  cfs : u.cfs = { s.cfs with tables := putRecord s.cfs.tables .line 0 bytes, uncommitted := true, workingValid := false }
  pc5 : u.pc5 = s.pc5
  msu : u.line.zero1 = s.line.zero1 → u.line.scale1 = s.line.scale1 → u.line.zero2 = s.line.zero2 → u.line.scale2 = s.line.scale2 →
    u.msu = s.msu
  waits : s.rco.runState ≠ .closing → u.waits = true

theorem acceptWrite_line (bytes : List Byte) (s : State) : LineWritten bytes s (acceptWrite .line 0 bytes s) := by
  unfold acceptWrite writeEffects
  dsimp only
  generalize stored : s.withCfs { s.cfs with tables := putRecord s.cfs.tables .line 0 bytes, uncommitted := true, workingValid := false } = t
  have calibrated := calibrationChange_cfs (s.line.zero1 != t.line.zero1 || s.line.scale1 != t.line.scale1)
    (s.line.zero2 != t.line.zero2 || s.line.scale2 != t.line.scale2) t
  have cfs := (evaluateLoads_cfs _).trans calibrated
  refine ⟨cfs.trans (by rw [← stored]; rfl), ?_, fun z1 c1 z2 c2 => ?_, fun rest => waits_of_run ?_⟩
  · refine ((Contained.foldl .evaluateLoad _ _).pc5.trans (calibrationChange_pc5 ..)).trans ?_
    rw [← stored]
    rfl
  · have kept {α : Type} {f : LineConsts → α} {u : State} {x : α} (cfs : u.cfs = t.cfs) (h : f u.line = x) : f t.line = x :=
      (congrArg (fun k : Cfs => f k.tables.line) cfs).symm.trans h
    replace z1 := kept (f := LineConsts.zero1) cfs z1
    replace c1 := kept (f := LineConsts.scale1) cfs c1
    replace z2 := kept (f := LineConsts.zero2) cfs z2
    replace c2 := kept (f := LineConsts.scale2) cfs c2
    have same : calibrationChange (s.line.zero1 != t.line.zero1 || s.line.scale1 != t.line.scale1)
        (s.line.zero2 != t.line.zero2 || s.line.scale2 != t.line.scale2) t = t := by
      rw [z1, c1, z2, c2]
      simp [calibrationChange]
    rw [evaluateLoads_msu, same, ← stored]
    rfl
  · rw [evaluateLoads_rco]
    exact calibrationChange_opens (by rw [← stored]; exact rest)

/-! ### The requirement -/

theorem segmentsBefore_next {b : WriteBuffer} {id : TableId} {index segment : Nat} (later : segment ≠ 0) (table : b.table = id)
    (same : b.index = index) (next : b.segments = segment) : segmentsBefore (some b) id index segment = some b.bytes :=
  (if_neg later).trans (if_pos ⟨table, same, next⟩)

theorem segmentsBefore_gap {b : WriteBuffer} {id : TableId} {index segment : Nat} (later : segment ≠ 0) (gap : b.segments ≠ segment) :
    segmentsBefore (some b) id index segment = none :=
  (if_neg later).trans (if_neg fun h => gap h.2.2)

/-- Settles O56: the steps of R179 in order, and each record read back as the entry that it encodes. -/
theorem configWriteStoresTheRecord : Obligations.ConfigWriteStoresTheRecord := by
  refine ⟨fun s taken waits => ?_, fun s index l taken waits idle mode rest => ?_⟩
  · obtain ⟨answering, held⟩ := idle_of_takesNow taken
    intro write stored
    have refuses {id : TableId} {n : Nat} {bytes : List Byte} {code : ResultCode} {detail : List Byte}
        (decided : decideConfigWrite id.code (BitVec.ofNat 8 n) 0 1 bytes (s.withAnswering (some .con)) =
          { state := s.withAnswering (some .con), code := code, detail := detail }) :
        write id n bytes = .next (s.concluded code 13 detail) :=
      exec_refused (x := .configWrite id.code (BitVec.ofNat 8 n) 0 1 bytes) rfl taken waits decided
    refine ⟨fun id n bytes => ⟨fun writing => ?_, fun idle other => ?_, fun idle mode astop aoff => ?_⟩, fun idle mode rest => ?_⟩
    · exact refuses (decideConfigWrite_busy (s := s.withAnswering (some .con)) writing)
    · exact refuses (decideConfigWrite_elsewhere (s := s.withAnswering (some .con)) idle other)
    · have moving : s.rco.runState.atRest = false := Bool.eq_false_iff.mpr fun h => ((RunState.atRest_iff _).mp h).elim astop aoff
      exact refuses (decideConfigWrite_moving (s := s.withAnswering (some .con)) idle mode moving)
    · have still : s.rco.runState.atRest = true := (RunState.atRest_iff _).mpr rest
      have concludes {table index : Byte} {bytes : List Byte} {u : State} {code : ResultCode} {detail : List Byte}
          (same : u.answering = s.answering ∧ u.held = s.held) (waits : u.waits = true)
          (decided : decideSegment table index 0 1 bytes (s.withAnswering (some .con)) =
            { state := u.withAnswering (some .con), code := code, detail := detail }) :
          exec (.configWrite table index 0 1 bytes) s = .next (u.concluded code 13 detail) :=
        exec_concluded (x := .configWrite table index 0 1 bytes) rfl taken
          ((decideConfigWrite_taken (s := s.withAnswering (some .con)) idle mode still).trans decided) (same.1.trans answering)
          (same.2.trans held) waits
      have settles {id : TableId} {n : Nat} {bytes : List Byte} {u : State} (other : id ≠ .line) (low : n < id.size) (byte_ : id.size ≤ 256)
          (good : badField id bytes = none) (same : u.answering = s.answering ∧ u.held = s.held) (waits : u.waits = true)
          (written : acceptWrite id n bytes (emptyWrite (s.withAnswering (some .con))) = u.withAnswering (some .con)) :
          write id n bytes = .next (u.concluded .accepted 13 []) := by
        have index : (BitVec.ofNat 8 n).toNat = n := by
          rw [BitVec.toNat_ofNat]
          exact Nat.mod_eq_of_lt (by omega)
        refine concludes same waits ((decideSegment_only other).trans ?_)
        rw [index, decideRecord_good low good, written]
        rfl
      refine ⟨fun k e p1 p2 w1 w2 => ?_, fun k e p1 p2 l1 l2 c1 c2 => ?_, fun k e => ?_, fun k e => ?_, fun k e p1 p2 => ?_,
        fun table n bytes outside => ?_, fun id n bytes other outside => ?_, fun id n bytes field other inside bad => ?_⟩
      · have put := putRecord_stop s.cfs.tables k (encStop e)
        rw [fieldValues_encStop ⟨p1, p2⟩ ⟨w1, w2⟩, stopOf_values] at put
        exact settles (by decide) k.isLt (by decide) (encStop_good ⟨p1, p2⟩ ⟨w1, w2⟩) (u := s.storing _) ⟨rfl, rfl⟩ waits
          (congrArg (fun t => (s.storing t).withAnswering (some .con)) put)
      · have put := putRecord_zone s.cfs.tables k (encZone e)
        rw [fieldValues_encZone ⟨p1, p2⟩ l2 c2, zoneOf_values] at put
        exact settles (by decide) k.isLt (by decide) (encZone_good ⟨p1, p2⟩ ⟨l1, l2⟩ ⟨c1, c2⟩)
          (u := (s.storing _).withSsv { s.ssv with zone := none }) ⟨rfl, rfl⟩ waits
          (congrArg (fun t => ((s.storing t).withSsv { s.ssv with zone := none }).withAnswering (some .con)) put)
      · have put := putRecord_platform s.cfs.tables k (encPlatform e)
        rw [fieldValues_encPlatform, platformOf_values] at put
        exact settles (by decide) k.isLt (by decide) (encPlatform_good e) (u := s.storing _) ⟨rfl, rfl⟩ waits
          (congrArg (fun t => (s.storing t).withAnswering (some .con)) put)
      · have put := putRecord_gate s.cfs.tables k (encGate e)
        rw [fieldValues_encGate, gateOf_values] at put
        exact settles (by decide) k.isLt (by decide) (encGate_good e) (u := s.storing _) ⟨rfl, rfl⟩ waits
          (congrArg (fun t => (s.storing t).withAnswering (some .con)) put)
      · have put := putRecord_datum s.cfs.tables k (encDatum e)
        rw [fieldValues_encDatum ⟨p1, p2⟩, datumOf_values] at put
        exact settles (by decide) k.isLt (by decide) (encDatum_good ⟨p1, p2⟩) (u := s.storing _) ⟨rfl, rfl⟩ waits
          (congrArg (fun t => (s.storing t).withAnswering (some .con)) put)
      · exact concludes (u := emptyWrite s) ⟨rfl, rfl⟩ waits (decideSegment_noTable (TableId.ofCode_of_le outside))
      · exact concludes (u := emptyWrite s) ⟨rfl, rfl⟩ waits ((decideSegment_only other).trans (decideRecord_outside outside))
      · exact concludes (u := emptyWrite s) ⟨rfl, rfl⟩ waits ((decideSegment_only other).trans (decideRecord_bad inside bad))
  · obtain ⟨answering, held⟩ := idle_of_takesNow taken
    have still : s.rco.runState.atRest = true := (RunState.atRest_iff _).mpr rest
    have gathers {segment : Byte} := decideConfigWrite_taken (table := 0) (index := index) (segment := segment) (count := 3) (bytes := l)
      (s := s.withAnswering (some .con)) idle mode still
    have concludes {segment : Byte} {u : State} {code : ResultCode} {detail : List Byte}
        (same : u.answering = s.answering ∧ u.held = s.held) (waits : u.waits = true)
        (decided : decideSegment TableId.line.code index segment 3 l (s.withAnswering (some .con)) =
          { state := u.withAnswering (some .con), code := code, detail := detail }) :
        exec (.configWrite 0 index segment 3 l) s = .next (u.concluded code 13 detail) :=
      exec_concluded (x := .configWrite 0 index segment 3 l) rfl taken (gathers.trans decided) (same.1.trans answering)
        (same.2.trans held) waits
    have last {before : List Byte} (buffered : segmentsBefore s.pc5.write .line index.toNat 2 = some before) :
        decideSegment TableId.line.code index 2 3 l (s.withAnswering (some .con)) =
          decideRecord .line index.toNat (before ++ l) (emptyWrite (s.withAnswering (some .con))) :=
      (decideSegment_taken (index := index) (segment := 2) (count := 3) (bytes := l) (s := s.withAnswering (some .con)) rfl (by decide)
        buffered).trans (if_neg (by decide))
    refine ⟨?_, fun before buffer => ⟨?_, ?_⟩, fun before off buffer => ?_, fun before on buffer good => ?_⟩
    · exact concludes (segment := 0) (u := s.withPc5 _) ⟨rfl, rfl⟩ waits
        (decideSegment_taken (index := index) (segment := 0) (count := 3) (bytes := l) (s := s.withAnswering (some .con)) (before := [])
          rfl (by decide) rfl)
    · have buffered : segmentsBefore s.pc5.write .line index.toNat 1 = some before := by
        rw [buffer]
        exact segmentsBefore_next (by decide) rfl rfl rfl
      exact concludes (segment := 1) (u := s.withPc5 _) ⟨rfl, rfl⟩ waits
        (decideSegment_taken (index := index) (segment := 1) (count := 3) (bytes := l) (s := s.withAnswering (some .con)) rfl (by decide)
          buffered)
    · have gap : segmentsBefore s.pc5.write .line index.toNat 2 = none := by
        rw [buffer]
        exact segmentsBefore_gap (by decide) (by simp)
      exact concludes (segment := 2) (u := emptyWrite s) ⟨rfl, rfl⟩ waits
        (decideSegment_early (index := index) (segment := 2) (count := 3) (bytes := l) (s := s.withAnswering (some .con)) rfl (by decide) gap)
    · have outside : TableId.line.size ≤ index.toNat := by
        have := fun h => off (BitVec.eq_of_toNat_eq (y := (0 : Byte)) h)
        change 1 ≤ _
        exact Nat.one_le_iff_ne_zero.mpr this
      exact concludes (segment := 2) (u := emptyWrite s) ⟨rfl, rfl⟩ waits
        ((last (by rw [buffer]; exact segmentsBefore_next (by decide) rfl rfl rfl)).trans (decideRecord_outside outside))
    · subst on
      have decided := (gathers (segment := 2)).trans
        ((last (by rw [buffer]; exact segmentsBefore_next (by decide) rfl rfl rfl)).trans (decideRecord_good (by decide) good))
      have written := acceptWrite_line (before ++ l) (emptyWrite (s.withAnswering (some .con)))
      have open_ : s.rco.runState ≠ .closing := by
        rcases rest with h | h <;> rw [h] <;> decide
      obtain ⟨t, next, rests, con⟩ := exec_decided (c := .configWrite 0 0 2 3 l) (x := .configWrite 0 0 2 3 l) rfl taken decided
        (written.waits open_)
      refine ⟨t, next, rests.cfs.trans written.cfs, rests.pc5.trans written.pc5, fun z1 c1 z2 c2 => ?_, con⟩
      rw [rests.line] at z1 c1 z2 c2
      exact rests.msu.trans (written.msu z1 c1 z2 c2)

end Sys2Proof.Machine
end

section
/-! CONFIG READ and QUERY (R15, R16, R181). -/

namespace Sys2Proof.Machine

/-! ### The read buffer (R181) -/

/-- What names a segment to come: not the snapshot's own command, record and n. -/
theorem ReadBuffer.holds_iff (b : ReadBuffer) (kind : ReadKind) (record n : Nat) :
    b.holds kind record n = true ↔ b.kind = kind ∧ b.record = record ∧ b.n = n := by
  simp [ReadBuffer.holds, and_assoc]

section
variable {s : State} {kind : ReadKind} {record n segment : Nat} {extra : List Byte}

theorem readOn_answers {b : ReadBuffer} (read : s.pc5.read = some b) (same : b.kind = kind ∧ b.record = record ∧ b.n = n)
    (inside : segment < segmentCount b.bytes) :
    readOn kind record n segment extra s = { state := s, code := .accepted, detail := segmentDetail b.bytes segment } := by
  unfold readOn
  rw [read]
  exact (if_pos ((b.holds_iff ..).mpr same)).trans (if_pos inside)

theorem readOn_beyond {b : ReadBuffer} (read : s.pc5.read = some b) (same : b.kind = kind ∧ b.record = record ∧ b.n = n)
    (beyond : segmentCount b.bytes ≤ segment) : readOn kind record n segment extra s = refuse s .refusedRange 4 extra := by
  unfold readOn
  rw [read]
  exact (if_pos ((b.holds_iff ..).mpr same)).trans (if_neg (by omega))

theorem readOn_other (other : ∀ b, s.pc5.read = some b → b.kind ≠ kind ∨ b.record ≠ record ∨ b.n ≠ n) :
    readOn kind record n segment extra s = refuse s .refusedState 3 extra := by
  unfold readOn
  cases read : s.pc5.read with
  | none => rfl
  | some b =>
    refine if_neg fun holds => ?_
    obtain ⟨k, r, i⟩ := (b.holds_iff ..).mp holds
    rcases other b read with h | h | h
    · exact h k
    · exact h r
    · exact h i

end

theorem toNat_ne_zero {b : Byte} (later : b ≠ 0) : b.toNat ≠ 0 := fun h => later (BitVec.eq_of_toNat_eq (y := (0 : Byte)) h)

section
variable {record table n k : Byte} {s : State}

theorem decideQuery_later (low : record.toNat < 12) (later : k ≠ 0) :
    decideQuery record n k s = readOn .query record.toNat n.toNat k.toNat [] s :=
  (if_neg (by change ¬12 ≤ _; omega)).trans (if_pos (toNat_ne_zero later))

theorem decideQuery_takes {bytes : List Byte} (low : record.toNat < 12) (record_ : queryRecord record.toNat n.toNat s = some bytes) :
    decideQuery record n 0 s = takeRead .query record.toNat n.toNat bytes s := by
  unfold decideQuery
  rw [if_neg (by change ¬12 ≤ _; omega), if_neg (by decide), record_]

theorem decideQuery_none (low : record.toNat < 12) (none_ : queryRecord record.toNat n.toNat s = none) :
    decideQuery record n 0 s = refuse s .refusedRange 2 [] := by
  unfold decideQuery
  rw [if_neg (by change ¬12 ≤ _; omega), if_neg (by decide), none_]

theorem decideConfigRead_later (later : k ≠ 0) :
    decideConfigRead table n k s = readOn .configRead table.toNat n.toNat k.toNat s.cfs.status s := if_pos (toNat_ne_zero later)

theorem decideConfigRead_takes {id : TableId} (inside : n.toNat < id.size) :
    decideConfigRead id.code n 0 s =
      takeRead .configRead id.code.toNat n.toNat (s.cfs.status ++ recordBytes s.cfs.tables id n.toNat) s := by
  unfold decideConfigRead
  rw [if_neg (by decide), TableId.ofCode_code]
  exact if_neg (by omega)

theorem decideConfigRead_noTable (none_ : TableId.ofCode table = none) :
    decideConfigRead table n 0 s = refuse s .refusedRange 1 s.cfs.status := by
  unfold decideConfigRead
  rw [if_neg (by decide), none_]

theorem decideConfigRead_outside {id : TableId} (outside : id.size ≤ n.toNat) :
    decideConfigRead id.code n 0 s = refuse s .refusedRange 2 s.cfs.status := by
  unfold decideConfigRead
  rw [if_neg (by decide), TableId.ofCode_code]
  exact if_pos outside

end

/-- The records that a query names by their code and n alone (R181). -/
theorem queryRecord_none {record n : Nat} {s : State}
    (outside : (record = 7 ∧ 8 ≤ n) ∨ (record = 8 ∧ 16 ≤ n) ∨ (record = 9 ∧ 6 ≤ n) ∨ (record ≠ 7 ∧ record ≠ 8 ∧ record ≠ 9 ∧ n ≠ 0)) :
    queryRecord record n s = none := by
  rcases outside with ⟨rfl, high⟩ | ⟨rfl, high⟩ | ⟨rfl, high⟩ | ⟨h7, h8, h9, later⟩
  · exact dif_neg (by omega)
  · exact dif_neg (by omega)
  · have none_ : portOfCode n = none := by
      unfold portOfCode
      split <;> first | omega | rfl
    exact congrArg (Option.map _) none_
  · unfold queryRecord
    split <;> first | contradiction | rfl

/-! ### The records (R20, R53, R79, R97, R121, R139, R159, R172) -/

theorem placeIn_eq (g : Fin 16) (n : Nat) (l : List (Fin 16)) : placeIn g n l = (l.findIdx? fun h => h == g).map (· + n) := by
  induction l generalizing n with
  | nil => rfl
  | cons h l ih =>
    rw [placeIn, List.findIdx?_cons]
    by_cases own : h = g
    · simp [own]
    · rw [if_neg own, if_neg (by simpa using own), ih, Option.map_map]
      congr 1
      funext i
      exact (Nat.add_assoc i 1 n ▸ congrArg (i + ·) (Nat.add_comm 1 n)).symm

/-- The PORT record with its pending flags counted and listed (R172). -/
theorem portRecord_eq (i : PortId) (s : State) : portRecord i s =
    encLink (s.port i).alive ++ encTimerMs (s.port i).silence ++ encFlag (s.port i).aliveSince ++ encCount (s.port i).losses ++
      encFlag (s.port i).degraded ++ encCount (s.port i).badCrc ++ encCount (s.port i).oversize ++ encCount (s.port i).unknownKind ++
      encCount (s.port i).overrun ++ encCount (s.port i).rx.length ++ encCount (s.port i).tx.length ++
      encCount ((s.port i).tx.countP fun e => e.isNotice) ++
      encCount ((if (s.port i).pendingOrder then 1 else 0) + (s.port i).pendingGates.length) ++
      (if (s.port i).pendingOrder then [if i = .drv then 0x91 else 0xA1, 0] ++ absent8 ++ absent8 else []) ++
      (s.port i).pendingGates.flatMap fun y => [0xB4, byte y.gate.val, y.answer.code, y.reason.code] := by
  have kind : orderKind i = if i = .drv then 0x91 else 0xA1 := by cases i <;> rfl
  have count (b : Bool) : b.toNat = if b then 1 else 0 := by cases b <;> rfl
  simp only [portRecord, encPending, kind, count, List.countP_eq_length_filter, ← List.append_assoc]

theorem encDoor_eq (d : DoorRecord) : encDoor d =
    [d.door.code] ++ [byte d.heldToken.val] ++ [d.release.code] ++ encKind d.kind ++ [byte d.counter.val] ++ [byte d.token.val] ++
      [d.side.code] ++ encTimerMs d.ackTimer ++ encTimerSec d.closeTimer ++ encFlag d.overdue ++
      [d.lastWithdrawal.code, d.lastRefused.code, d.railOrder.code, d.rail.code] ++ encFlag d.carFault ++ encCount d.stale := by
  simp [encDoor]

/-- A last stop outcome with its faults in order (R121; log 26). -/
def stopOutcomeBytes : StopOutcome → List Byte
  | .none => [0] ++ [0]
  | .completed => [1] ++ [0]
  | .completedWithFault l => [2] ++ encCount l.length ++ l.map StopFault.code

theorem encStopOutcome_eq (o : StopOutcome) : encStopOutcome o = stopOutcomeBytes o := by
  cases o with
  | none => rfl
  | completed => rfl
  | completedWithFault l =>
    have faults : l.flatMap (fun f => [f.code]) = l.map StopFault.code := List.map_eq_flatMap.symm
    simp only [encStopOutcome, stopOutcomeBytes, encList, faults, List.append_assoc]

/-- Settles O57: the two commands' tests in order, and each record's fields in the order of its list. -/
theorem readsAnswerFromSnapshot : Obligations.ReadsAnswerFromSnapshot := by
  refine ⟨fun s taken waits => ?_, fun s => ?_⟩
  · obtain ⟨answering, held⟩ := idle_of_takesNow taken
    intro answer
    have queries {record n k : Byte} {u : State} {code : ResultCode} {detail : List Byte} (same : u.answering = s.answering ∧ u.held = s.held)
        (waits : u.waits = true) (decided : decideQuery record n k (s.withAnswering (some .con)) =
          { state := u.withAnswering (some .con), code := code, detail := detail }) :
        exec (.query record n k) s = .next (u.concluded code 16 detail) :=
      exec_concluded (x := .query record n k) rfl taken decided (same.1.trans answering) (same.2.trans held) waits
    have reads {record n k : Byte} {u : State} {code : ResultCode} {detail : List Byte} (same : u.answering = s.answering ∧ u.held = s.held)
        (waits : u.waits = true) (decided : decideConfigRead record n k (s.withAnswering (some .con)) =
          { state := u.withAnswering (some .con), code := code, detail := detail }) :
        exec (.configRead record n k) s = .next (u.concluded code 14 detail) :=
      exec_concluded (x := .configRead record n k) rfl taken decided (same.1.trans answering) (same.2.trans held) waits
    refine ⟨fun record n bytes low found => ?_, fun id n inside => ?_, fun b record n k read r i later inside low => ⟨fun kind => ?_, fun kind => ?_⟩,
      fun record n k later => ⟨fun low other => ?_, fun other => ?_⟩, fun record n low outside => ?_, fun table n outside => ?_,
      fun id n outside => ?_, fun b record n k read r i later beyond low => ⟨fun kind => ?_, fun kind => ?_⟩⟩
    · exact queries (u := s.withPc5 _) ⟨rfl, rfl⟩ waits (decideQuery_takes (s := s.withAnswering (some .con)) low found)
    · exact reads (u := s.withPc5 _) ⟨rfl, rfl⟩ waits (decideConfigRead_takes (s := s.withAnswering (some .con)) inside)
    · exact queries ⟨rfl, rfl⟩ waits ((decideQuery_later low later).trans
        (readOn_answers (s := s.withAnswering (some .con)) read ⟨kind, r, i⟩ inside))
    · exact reads ⟨rfl, rfl⟩ waits ((decideConfigRead_later later).trans
        (readOn_answers (s := s.withAnswering (some .con)) read ⟨kind, r, i⟩ inside))
    · exact queries ⟨rfl, rfl⟩ waits ((decideQuery_later low later).trans (readOn_other (s := s.withAnswering (some .con)) other))
    · exact reads ⟨rfl, rfl⟩ waits ((decideConfigRead_later later).trans (readOn_other (s := s.withAnswering (some .con)) other))
    · exact queries ⟨rfl, rfl⟩ waits (decideQuery_none (s := s.withAnswering (some .con)) low (queryRecord_none (by
        rcases outside with h | h | h | ⟨h7, h8, h9, h⟩
        · exact .inl h
        · exact .inr (.inl h)
        · exact .inr (.inr (.inl h))
        · exact .inr (.inr (.inr ⟨h7, h8, h9, toNat_ne_zero h⟩)))))
    · exact reads ⟨rfl, rfl⟩ waits (decideConfigRead_noTable (s := s.withAnswering (some .con)) (TableId.ofCode_of_le outside))
    · exact reads ⟨rfl, rfl⟩ waits (decideConfigRead_outside (s := s.withAnswering (some .con)) outside)
    · exact queries ⟨rfl, rfl⟩ waits ((decideQuery_later low later).trans
        (readOn_beyond (s := s.withAnswering (some .con)) read ⟨kind, r, i⟩ beyond))
    · exact reads ⟨rfl, rfl⟩ waits ((decideConfigRead_later later).trans
        (readOn_beyond (s := s.withAnswering (some .con)) read ⟨kind, r, i⟩ beyond))
  · intro one no noWord noPos motion cause entry trip maybeTrip driveReport link outcome channel term thresholds
    have motions : motion = encMotion := funext fun d => by
      cases d with
      | none => rfl
      | some d => cases d <;> rfl
    have causes : cause = encCause? := funext fun c => by cases c <;> rfl
    have entries : entry = encCauseEntry := funext fun _ => rfl
    have trips : trip = encTrip := funext fun _ => rfl
    have maybeTrips : maybeTrip = encTrip? := funext fun q => by cases q <;> rfl
    have links : link = encLink := funext fun alive => by cases alive <;> rfl
    have outcomes : outcome = encOutcome := funext fun o => by cases o <;> rfl
    have channels : channel = encChannel := funext fun c => by
      unfold encChannel
      rw [← motions, ← outcomes]
    have terms : term = encTerm := funext fun x => by cases x <;> rfl
    have thresholds_ : thresholds = encThresholds := rfl
    refine ⟨congrArg some ?_, congrArg some ?_, congrArg some ?_, congrArg some ?_, congrArg some ?_, fun c => ?_, fun p => ?_,
      fun g => ?_, fun m => ?_, congrArg some ?_, congrArg some ?_⟩
    · rw [maybeTrips, trips]
      simp only [lineRecord, encModeChange, encAuthority, ← List.append_assoc]
      rfl
    · rw [channels, motions, outcomes]
      rfl
    · rw [motions, terms, thresholds_]
      simp only [supervisionQuery]
      rfl
    · rw [causes, entries]
      simp only [brakeRecord, encDemand]
      rfl
    · simp only [departureRecord]
      rw [encStopOutcome_eq]
      rfl
    · refine Eq.trans (b := some (carRecord c s)) (by cases c <;> rfl) (congrArg some ?_)
      simp only [carRecord, encDoor_eq, links]
      rfl
    · refine (dif_pos p.isLt).trans (congrArg some (?_ : platformRecord p s = _))
      simp only [platformRecord, encSession]
      cases (s.session p).served <;> rfl
    · refine (dif_pos g.isLt).trans (congrArg some (?_ : gateRecord g s = _))
      simp only [gateRecord, encGate, placeIn_eq, links]
      cases (s.session (s.gateEntry g).platform).waiting.findIdx? (fun h => h == g) <;> rfl
    · rw [links]
      match m with
      | 0 => exact congrArg some (portRecord_eq .drv s)
      | 1 => exact congrArg some (portRecord_eq .cra s)
      | 2 => exact congrArg some (portRecord_eq .crb s)
      | 3 => exact congrArg some (portRecord_eq .sta1 s)
      | 4 => exact congrArg some (portRecord_eq .sta2 s)
      | 5 => exact congrArg some (portRecord_eq .con s)
    · rw [maybeTrips, trips]
      rfl
    · rw [causes, entries]
      rfl

end Sys2Proof.Machine
end

section
/-! What a sample event leaves to the supervision, and what the rest of the event leaves of it (R57, R81, R93). -/

namespace Sys2Proof.Machine

/-! ### A line that runs on -/

/-- A line that still runs after ran before, in the same mode and under the same authority, but for a withdrawal (R58). -/
structure Runs (s t : State) : Prop where
  kept : t.rco.authority.state.running = true → s.rco.authority.state.running = true ∧ t.rco.mode = s.rco.mode ∧
    t.rco.authority = { s.rco.authority with state := t.rco.authority.state }

namespace Runs

theorem of_same {s t : State} (mode : t.rco.mode = s.rco.mode) (authority : t.rco.authority = s.rco.authority) : Runs s t :=
  ⟨fun runs => ⟨authority ▸ runs, mode, by rw [authority]⟩⟩

theorem of_rco {s t : State} (rco : t.rco = s.rco) : Runs s t := .of_same (by rw [rco]) (by rw [rco])

theorem of_none {s t : State} (none_ : t.rco.authority.state = .none) : Runs s t :=
  ⟨fun runs => by rw [none_] at runs; cases runs⟩

theorem refl (s : State) : Runs s s := .of_rco rfl

theorem trans {s t u : State} (a : Runs s t) (b : Runs t u) : Runs s u where
  kept runs := by
    obtain ⟨between, mode, authority⟩ := b.kept runs
    obtain ⟨before, mode', authority'⟩ := a.kept between
    exact ⟨before, mode.trans mode', by rw [authority, authority']⟩

theorem after {s t u : State} (b : Runs t u) (a : Runs s t) : Runs s u := a.trans b

theorem ite {s a b : State} {c : Prop} [Decidable c] (ha : c → Runs s a) (hb : ¬c → Runs s b) : Runs s (if c then a else b) := by
  split
  · exact ha ‹_›
  · exact hb ‹_›

theorem completeStop (s : State) : Runs s (completeStop s) := .of_none (completeStop_idles s).auth

theorem awaitDrop (s : State) : Runs s (awaitDrop s) := .ite (fun _ => .of_rco rfl) fun _ => completeStop s

theorem deenergizeEb (s : State) : Runs s (deenergizeEb s) :=
  .ite (fun _ => .ite (fun _ => .after (awaitDrop _) (.of_rco (s := s) rfl)) fun _ => .of_rco rfl) fun _ => .of_rco rfl

theorem startS2 (s : State) : Runs s (startS2 s) :=
  .ite (fun _ => .ite (fun _ => .after (deenergizeEb _) (.of_rco (s := s) rfl)) fun _ => .of_rco rfl) fun _ =>
    .after (awaitDrop _) (.of_rco (s := s) rfl)

theorem startStop (s : State) : Runs s (startStop s) :=
  .ite (fun _ => .after (startS2 _) (.of_rco (by simp))) fun _ => .of_rco (by simp)

theorem beginStop (s : State) : Runs s (beginStop s) := .after (startStop _) (.of_same (s := s) (by simp) (by simp))

theorem abortDeparture (c : AbortCause) (s : State) : Runs s (abortDeparture c s) := by
  cases slot : s.bks.slot with
  | departure step => exact .of_none (abortDeparture_effects slot).2.2.2
  | _ =>
    unfold Machine.abortDeparture
    rw [slot]
    exact .refl s

theorem withdrawAuthority (s : State) : Runs s (withdrawAuthority s) := by
  refine .ite (fun granted => ⟨fun _ => ?_⟩) fun _ => .refl s
  rw [setAuthority_rco]
  exact ⟨by rw [granted]; rfl, rfl, rfl⟩

theorem arrest (s : State) : Runs s (arrest s) := by
  unfold Machine.arrest
  split
  · exact .ite (fun _ => beginStop s) fun _ => .of_same (by simp) (by simp)
  · exact .ite (fun _ => .refl s) fun _ => .of_same (by simp) (by simp)
  · exact .ite (fun _ => .refl s) fun _ => .of_same (by simp) (by simp)
  · exact .ite (fun _ => .refl s) fun _ => .of_same (by simp) (by simp)
  all_goals exact .refl s

theorem reachService (c : AbortCause) (s : State) : Runs s (reachService c s) :=
  .after (.of_rco (State.setAttention_rco ..)) (.after (abortDeparture c _) (.after (.of_rco (closeAll_rco ..))
    (.after (arrest _) (.after (withdrawAuthority _) (.of_rco (s := s) (assertSb_rco s))))))

theorem latchRise (before : Level) (c : AbortCause) (s : State) : Runs s (latchRise before c s) := by
  have service : Runs s (s.atService before c) := .ite (fun _ => reachService c s) fun _ => .refl s
  have emergency : Runs s (s.atEmergency before c) := .ite (fun _ => .after (deenergizeEb _) service) fun _ => service
  have rail : Runs s (s.atRail before c) := .ite (fun _ => .after (.of_rco (setRailOrder_rco ..)) emergency) fun _ => emergency
  rw [latchRise_eq]
  exact .ite (fun _ => .refl s) fun _ => .after (.of_rco (escalateTo_rco ..)) rail

theorem raise (c : Cause) (l : Level) (s : State) : Runs s (raise c l s) := .after (latchRise ..) (.of_rco (setDemand_rco ..))

theorem loseStandstill (s : State) : Runs s (loseStandstill s) := by
  have same : (lossAtRco (s.withMsu { s.msu with standstill := false })).rco.mode = s.rco.mode ∧
      (lossAtRco (s.withMsu { s.msu with standstill := false })).rco.authority = s.rco.authority := by
    unfold lossAtRco
    split
    · split <;> simp
    · exact ⟨rfl, rfl⟩
  exact .of_same (by rw [loseStandstill_rco]; exact same.1) (by rw [loseStandstill_rco]; exact same.2)

theorem takeAsked (l : Level) (s : State) : Runs s (takeAsked l s) :=
  .ite (fun _ => .after (raise ..) (.of_rco (s := s) rfl)) fun _ => .of_rco (setDemand_rco ..)

end Runs

end Sys2Proof.Machine
end

section
/-! The sample event up to the supervision, and the operations that the supervision hands on (R36, R93). -/

namespace Sys2Proof.Machine

/-! ### What stands of the state before -/

/-- The supervision record and the tables stay, a line that runs on ran before, and the law of the run is kept. -/
structure Tracks (s t : State) : Prop where
  cfs : t.cfs = s.cfs
  ssv : t.ssv = s.ssv
  auth : Subsides s.rco.authority.state t.rco.authority.state
  runs : Runs s t
  law : Keeps RunLaw s t

theorem setDemand_ssv (d : Demand) (s : State) : (setDemand d s).ssv = s.ssv := by
  unfold setDemand
  split
  · rfl
  · exact (SameBlocks.handNotice ..).ssv

namespace Tracks

theorem of_rco {s t : State} (cfs : t.cfs = s.cfs) (ssv : t.ssv = s.ssv) (rco : t.rco = s.rco) : Tracks s t :=
  ⟨cfs, ssv, .inl (by rw [rco]), .of_rco rco, .run_of_rco rco cfs⟩

theorem refl (s : State) : Tracks s s := .of_rco rfl rfl rfl

theorem trans {s t u : State} (a : Tracks s t) (b : Tracks t u) : Tracks s u :=
  ⟨b.cfs.trans a.cfs, b.ssv.trans a.ssv, a.auth.trans b.auth, a.runs.trans b.runs, a.law.trans b.law⟩

theorem after {s t u : State} (b : Tracks t u) (a : Tracks s t) : Tracks s u := a.trans b

theorem ite {s a b : State} {c : Prop} [Decidable c] (ha : c → Tracks s a) (hb : ¬c → Tracks s b) : Tracks s (if c then a else b) := by
  split
  · exact ha ‹_›
  · exact hb ‹_›

theorem withMsu (s : State) (m : Msu) : Tracks s (s.withMsu m) := .of_rco rfl rfl rfl

theorem raise (c : Cause) (l : Level) (s : State) : Tracks s (raise c l s) :=
  have yields := raiseAs_yields .latch c l s
  ⟨(Calm.raise c l s).cfs, yields.ssv, yields.auth, .raise c l s, raiseAs_runLaw ..⟩

theorem raise_setAttention (c : Cause) (l : Level) (i : Attention) (s : State) : Tracks s (Machine.raise c l (s.setAttention i)) :=
  .after (raise c l _) (.of_rco rfl rfl rfl)

theorem beginStop (s : State) : Tracks s (beginStop s) :=
  have settles := Settles.beginStop s
  ⟨(Calm.beginStop s).cfs, settles.ssv, settles.auth, .beginStop s, ⟨fun _ => beginStop_runLaw s⟩⟩

theorem loseStandstill (s : State) : Tracks s (loseStandstill s) := by
  have auth : (lossAtRco (s.withMsu { s.msu with standstill := false })).rco.authority = s.rco.authority := by
    unfold lossAtRco
    split
    · split <;> simp
    · rfl
  have lost (t : State) : Settles t (lossAtRco t) := by
    refine .ite (fun _ => ?_) fun _ => .refl t
    split
    · exact .setRunState ..
    · exact .setRunState ..
    · exact .after (.returnTrip _) (.setRunState ..)
    · exact .refl t
  have checked (t : State) : (lossAtBks t).ssv = t.ssv := by
    unfold lossAtBks startCheckFor
    split
    · split <;> rfl
    · rfl
  have withdrawn (t : State) : Settles t (allCars.foldl (withdrawGiven .standstillLost) t) :=
    .foldl (fun _ _ => .ite (fun _ => .withdraw ..) fun _ => .refl _) _ t
  have ssv : (Machine.loseStandstill s).ssv = s.ssv := (withdrawn _).ssv.trans ((checked _).trans (lost _).ssv)
  exact ⟨loseStandstill_cfs s, ssv, .inl (by rw [loseStandstill_rco, auth]), .loseStandstill s, loseStandstill_runLaw s⟩

theorem takeAsked (l : Level) (s : State) : Tracks s (takeAsked l s) :=
  .ite (fun _ => .after (raise ..) (.of_rco (s := s) rfl rfl rfl)) fun _ =>
    .of_rco (Calm.setDemand ..).cfs (setDemand_ssv ..) (setDemand_rco ..)

theorem takeReads (r1 r2 : SensorRead) (s : State) : Tracks s (takeReads r1 r2 s) :=
  .ite (fun _ => .after (raise_setAttention ..) (.withMsu s _)) fun _ => .withMsu s _

theorem checkRange (good1 good2 : Bool) (s : State) : Tracks s (checkRange good1 good2 s) :=
  .ite (fun _ => .after (raise_setAttention ..) (.withMsu s _)) fun _ => .withMsu s _

theorem checkPositions (s : State) : Tracks s (checkPositions s) :=
  .ite (fun _ => .ite (fun _ => .after (raise_setAttention ..) (.withMsu s _)) fun _ => .withMsu s _) fun _ => .refl s

theorem checkSpeeds (recomputed : Bool) (s : State) : Tracks s (checkSpeeds recomputed s) :=
  .ite (fun _ => .ite (fun _ => .ite (fun _ => .after (raise_setAttention ..) (.withMsu s _)) fun _ => .withMsu s _) fun _ => .withMsu s _)
    fun _ => .refl s

theorem settleStandstill (s : State) : Tracks s (settleStandstill s) :=
  .ite (fun _ => .ite (fun _ => .withMsu s _) fun _ => .refl s) fun _ => .ite (fun _ => .after (loseStandstill _) (.withMsu s _)) fun _ => .withMsu s _

theorem measure (r1 r2 : SensorRead) (s : State) : Tracks s (measure r1 r2 s) :=
  .after (settleStandstill _) (.after (.after (checkSpeeds ..) (.after (checkPositions _) (checkRange ..)))
    (.after (.withMsu _ _) (takeReads r1 r2 s)))

theorem retestArrival (s : State) : Tracks s (retestArrival s) := by
  refine .ite (fun _ => ?_) fun _ => .refl s
  split
  · exact .ite (fun _ => beginStop s) fun _ => .refl s
  · exact .refl s

end Tracks

/-- The state to which the supervision of a sample event applies (R36, R74). -/
def State.measured (s : State) (r1 r2 : SensorRead) : State :=
  retestArrival (measure r1 r2 (s.withMsu { s.msu with sampleTimer := startMs Config.samplePeriod }))

theorem measured_tracks (s : State) (r1 r2 : SensorRead) : Tracks s (s.measured r1 r2) :=
  .after (.retestArrival _) (.after (.measure ..) (.withMsu s _))

/-- A sample event of an operating part. -/
theorem exec_sample {s : State} (r1 r2 : SensorRead) (loaded : s.loading = false) (timer : s.msu.sampleTimer.isSome = true) :
    exec (.sampleEvent r1 r2) s = .next (endEvent (superviseLine (s.measured r1 r2))) := by
  have taken : sampleEvent r1 r2 s = superviseLine (s.measured r1 r2) := if_pos timer
  exact (next_operating _ loaded).trans (by rw [taken])

/-! ### What the supervision hands on (R57, R92, R93) -/

/-- The state once the supervision record and the ceiling are taken (R57, R93). -/
def State.ceiled (s : State) : State := takeCeiling (s.withSsv s.supervised)

theorem superviseLine_eq (s : State) :
    superviseLine s =
      if s.ceiled.ssv.overrunFlag && !s.ssv.overrunFlag then raise .overrun .emergency (takeAsked s.ceiled.ssv.asked s.ceiled)
      else takeAsked s.ceiled.ssv.asked s.ceiled := rfl

theorem ceiled_ssv (s : State) : s.ceiled.ssv = s.supervised := by
  unfold State.ceiled takeCeiling
  split <;> rfl

/-- The authority while it runs has the permitted speed as its ceiling (R57). -/
theorem ceiled_rco (s : State) : s.ceiled.rco =
    { s.rco with authority := { s.rco.authority with
      ceiling := if s.rco.authority.state.running then s.supervised.vPerm else s.rco.authority.ceiling } } := by
  unfold State.ceiled takeCeiling
  split
  · rename_i runs
    rw [if_pos (show s.rco.authority.state.running = true from runs)]
    rfl
  · rename_i stands
    rw [if_neg (show ¬s.rco.authority.state.running = true from stands)]
    rfl

theorem superviseLine_tracks (s : State) : Tracks s.ceiled (superviseLine s) := by
  rw [superviseLine_eq]
  exact .ite (fun _ => .after (.raise ..) (.takeAsked ..)) fun _ => .takeAsked ..

end Sys2Proof.Machine
end

section
/-! The end of a sample event, where a departure may begin (R70, R71, R83). -/

namespace Sys2Proof.Machine

/-- The supervision stays but for a snapshot taken, and a line that runs on has its ceiling (R57, R83). -/
structure Lasts (s t : State) : Prop where
  ssv : ∃ snapshot aG percent, t.ssv = { s.ssv with snapshot := snapshot, aG := aG, percent := percent }
  caution : t.bks.demand.caution = s.bks.demand.caution
  runs : t.rco.authority.state.running = true → s.rco.authority.state.running = true ∧ t.rco.authority.ceiling = s.rco.authority.ceiling

namespace Lasts

theorem of_same {s t : State} (ssv : t.ssv = s.ssv) (caution : t.bks.demand.caution = s.bks.demand.caution) (runs : Runs s t) : Lasts s t where
  ssv := ⟨_, _, _, ssv⟩
  caution := caution
  runs on := by
    obtain ⟨before, -, authority⟩ := runs.kept on
    exact ⟨before, by rw [authority]⟩

theorem refl (s : State) : Lasts s s := .of_same rfl rfl (.refl s)

theorem trans {s t u : State} (a : Lasts s t) (b : Lasts t u) : Lasts s u where
  ssv := by
    obtain ⟨_, _, _, first⟩ := a.ssv
    obtain ⟨_, _, _, second⟩ := b.ssv
    exact ⟨_, _, _, second.trans (by rw [first])⟩
  caution := b.caution.trans a.caution
  runs on := by
    obtain ⟨between, ceiling⟩ := b.runs on
    obtain ⟨before, ceiling'⟩ := a.runs between
    exact ⟨before, ceiling.trans ceiling'⟩

theorem after {s t u : State} (b : Lasts t u) (a : Lasts s t) : Lasts s u := a.trans b

theorem raise (c : Cause) (l : Level) (s : State) : Lasts s (raise c l s) :=
  .of_same (raiseAs_yields .latch c l s).ssv (by rw [Machine.raise, raiseAs_demand]; rfl) (.raise c l s)

theorem testD1 (s : State) : Lasts s (testD1 s) := by
  unfold Machine.testD1
  split
  · unfold startD2
    dsimp only
    split
    · exact .after (raise ..) (.of_same (s := s) rfl rfl (.of_rco rfl))
    · exact .of_same rfl rfl (.of_rco rfl)
  · exact .refl s

theorem startDeparture (k : Fin 6) (d : Dir) (s : State) : Lasts s (startDeparture k d s) := by
  have departs := startDeparture_departs k d s
  rw [startDeparture_eq]
  exact .after (testD1 _) ⟨⟨_, _, _, departs.ssv⟩, by rw [departs.bks], fun on => by rw [departs.rco] at on ⊢; exact ⟨on, rfl⟩⟩

theorem readinessStage (n : Nat) (s : State) : Lasts s (readinessStage n s) := by
  have tested (u : State) (r : Option ReadyCond) : Lasts u (u.withRco { u.rco with firstFailing := r }) := .of_same rfl rfl (.of_same rfl rfl)
  induction n generalizing s with
  | zero => exact .refl s
  | succ n ih =>
    unfold Machine.readinessStage
    split
    · split
      · exact .after (ih _) (.after (startDeparture ..) (tested ..))
      · exact tested ..
    · exact tested ..

theorem endEvent (s : State) : Lasts s (endEvent s) := readinessStage 2 s

end Lasts

/-! ### The supervision of a sample event, as the event leaves it -/

theorem superviseLine_ssv (s : State) : (superviseLine s).ssv = s.supervised := (superviseLine_tracks s).ssv.trans (ceiled_ssv s)

theorem takeAsked_caution (l : Level) (s : State) : (takeAsked l s).bks.demand.caution = (l == .caution) := by
  unfold takeAsked
  dsimp only
  split
  · rw [raise, raiseAs_demand]
    rfl
  · rw [setDemand_bks]

theorem superviseLine_caution (s : State) : (superviseLine s).bks.demand.caution = (s.supervised.asked == .caution) := by
  rw [superviseLine_eq, ceiled_ssv]
  split
  · exact (Lasts.raise ..).caution.trans (takeAsked_caution ..)
  · exact takeAsked_caution ..

theorem takeAsked_brakes {l : Level} {s : State} (brakes : l.brakes = true) :
    (∃ e ∈ (takeAsked l s).bks.demand.causes, e.cause = .overspeed ∧ l.rank ≤ e.level.rank) ∧ l.rank ≤ (takeAsked l s).bks.demand.latched.rank := by
  unfold takeAsked
  rw [if_pos brakes]
  exact ⟨raiseAs_entry .., raiseAs_latched ..⟩

/-- What overspeed asks at SERVICE or higher stands in the cause set, and the line is under a latch (R93, R99). -/
theorem superviseLine_brakes {s : State} (brakes : s.supervised.asked.brakes = true) :
    (∃ e ∈ (superviseLine s).bks.demand.causes, e.cause = .overspeed ∧ s.supervised.asked.rank ≤ e.level.rank) ∧
      (superviseLine s).bks.demand.latched ≠ .none := by
  have ⟨entry, latched⟩ := takeAsked_brakes (s := s.ceiled) brakes
  rw [superviseLine_eq, ceiled_ssv]
  split
  · exact ⟨(Mounts.raise ..).entry entry, latched_ne_none (Nat.le_trans (by decide) (raiseAs_latched .latch .overrun .emergency _))⟩
  · exact ⟨entry, latched_ne_none (Nat.le_trans ((Level.brakes_iff _).mp brakes) latched)⟩

/-- The onset of an overrun stands in the cause set (R92). -/
theorem superviseLine_overrun {s : State} (over_ : s.supervised.overrunFlag = true) (before : s.ssv.overrunFlag = false) :
    ∃ e ∈ (superviseLine s).bks.demand.causes, e.cause = .overrun ∧ 3 ≤ e.level.rank := by
  rw [superviseLine_eq, ceiled_ssv, if_pos (by rw [over_, before]; rfl)]
  exact raiseAs_entry ..

/-- A lawful line that runs at the end of an event did not depart in it (R71). -/
theorem endEvent_of_running {s : State} (law : RunLaw s) (runs : (endEvent s).rco.authority.state.running = true) : endEvent s = s.rested := by
  refine endEvent_of_waits (waits_of_run fun closing => ?_)
  have before := ((Lasts.endEvent s).runs runs).1
  rw [law.still (.inr (.inr closing))] at before
  cases before

end Sys2Proof.Machine
end

section
/-! The zone pointer (R3, R13, R14, R82). -/

namespace Sys2Proof.Machine

/-! ### The last index of a test -/

theorem allIndices_sorted : allIndices.Pairwise (· < ·) := by decide

/-- The last member of an ascending list is its greatest. -/
theorem le_getLast_of_sorted {α : Type} {r : α → α → Prop} {l : List α} {x last : α} (sorted : l.Pairwise r)
    (ends : l.getLast? = some last) (mem : x ∈ l) : x = last ∨ r x last := by
  obtain ⟨front, rfl⟩ := List.getLast?_eq_some_iff.mp ends
  rcases List.mem_append.mp mem with early | late
  · exact .inr ((List.pairwise_append.mp sorted).2.2 x early last List.mem_cons_self)
  · exact .inl (List.mem_singleton.mp late)

theorem lastIndex_some {q : Fin 16 → Bool} {z : Fin 16} (last : (allIndices.filter q).getLast? = some z) :
    q z = true ∧ ∀ n, z < n → q n = false := by
  have sorted := allIndices_sorted.filter q
  refine ⟨(List.mem_filter.mp (List.mem_of_getLast? last)).2, fun n later => Bool.eq_false_iff.mpr fun holds => ?_⟩
  rcases le_getLast_of_sorted sorted last (List.mem_filter.mpr ⟨mem_allIndices n, holds⟩) with same | before
  · exact absurd later (by rw [same]; exact Fin.lt_irrefl _)
  · exact absurd later (by omega)

theorem lastIndex_none {q : Fin 16 → Bool} (none_ : (allIndices.filter q).getLast? = none) (n : Fin 16) : q n = false := by
  rw [List.getLast?_eq_none_iff, List.filter_eq_nil_iff] at none_
  exact Bool.eq_false_iff.mpr (none_ n (mem_allIndices n))

theorem lastIndex_exists {q : Fin 16 → Bool} {n : Fin 16} (holds : q n = true) : ∃ z, (allIndices.filter q).getLast? = some z := by
  cases last : (allIndices.filter q).getLast? with
  | some z => exact ⟨z, rfl⟩
  | none => rw [lastIndex_none last n] at holds; cases holds

/-! ### The search (R82) -/

/-- The zone that a search finds at 0 or above is present, starts at or below the position, and no present zone above it does. -/
structure State.Finds (s : State) (p : Int) (z : Fin 16) : Prop where
  present : (s.zoneEntry z).present = true
  starts : (s.zoneEntry z).start ≤ p
  last : ∀ n, z < n → (s.zoneEntry n).present = true → p < (s.zoneEntry n).start

section
variable {s : State} {p : Int}

theorem searchZone_below (low : p < 0) : s.searchZone p = if (s.zoneEntry 0).present then some 0 else none := if_pos low

theorem searchZone_eq (high : 0 ≤ p) :
    s.searchZone p = (allIndices.filter fun z => (s.zoneEntry z).present && decide ((s.zoneEntry z).start ≤ p)).getLast? := by
  unfold State.searchZone State.presentZones
  rw [if_neg (by omega), List.filter_filter]
  simp only [Bool.and_comm]

theorem searchZone_some {z : Fin 16} (high : 0 ≤ p) (found : s.searchZone p = some z) : s.Finds p z := by
  rw [searchZone_eq high] at found
  obtain ⟨holds, above⟩ := lastIndex_some found
  rw [Bool.and_eq_true, decide_eq_true_eq] at holds
  refine ⟨holds.1, holds.2, fun n later present => ?_⟩
  have fails := above n later
  rw [present, Bool.true_and, decide_eq_false_iff_not] at fails
  omega

theorem searchZone_none (high : 0 ≤ p) (none_ : s.searchZone p = none) (n : Fin 16) (present : (s.zoneEntry n).present = true) :
    p < (s.zoneEntry n).start := by
  rw [searchZone_eq high] at none_
  have fails := lastIndex_none none_ n
  rw [present, Bool.true_and, decide_eq_false_iff_not] at fails
  omega

theorem searchZone_exists {n : Fin 16} (high : 0 ≤ p) (present : (s.zoneEntry n).present = true) (starts : (s.zoneEntry n).start ≤ p) :
    ∃ z, s.searchZone p = some z := by
  rw [searchZone_eq high]
  exact lastIndex_exists (n := n) (by rw [present]; simpa using starts)

end

/-! ### Zones that pass validation (R13, R14) -/

/-- The present zones of a valid table are a run from 0, their starts ascend from 0, and the last starts before L. -/
structure State.ZonesRun (s : State) : Prop where
  first : (s.zoneEntry 0).present = true
  origin : (s.zoneEntry 0).start = 0
  run : ∀ m n, m < n → (s.zoneEntry n).present = true → (s.zoneEntry m).present = true ∧ (s.zoneEntry m).start < (s.zoneEntry n).start
  inside : ∀ n, (s.zoneEntry n).present = true → (s.zoneEntry n).start < s.line.length

theorem firstFail_none {α : Type} {ok : Nat → α → Bool} {n : Nat} {l : List α} (passes : firstFail ok n l = none) {i : Nat} {x : α}
    (place : l[i]? = some x) : ok (n + i) x = true := by
  induction l generalizing n i with
  | nil => cases place
  | cons y l ih =>
    rw [firstFail] at passes
    split at passes
    · rename_i holds
      cases i with
      | zero =>
        cases place
        exact holds
      | succ i =>
        have := ih passes (i := i) place
        rwa [Nat.add_right_comm] at this
    · cases passes

/-- A list whose neighbours all pass a transitive test passes it at every two places. -/
theorem pairFail_none {α : Type} {ok : α → α → Bool} (trans : ∀ a b c, ok a b = true → ok b c = true → ok a c = true) {n : Nat}
    {l : List α} (passes : pairFail ok n l = none) : l.Pairwise fun a b => ok a b = true := by
  induction l generalizing n with
  | nil => exact .nil
  | cons x l ih =>
    cases l with
    | nil => exact List.pairwise_singleton ..
    | cons y l =>
      rw [pairFail] at passes
      split at passes
      · rename_i holds
        have whole := ih passes
        refine List.pairwise_cons.mpr ⟨fun z mem => ?_, whole⟩
        rcases List.mem_cons.mp mem with rfl | later
        · exact holds
        · exact trans x y z holds ((List.pairwise_cons.mp whole).1 z later)
      · cases passes

theorem firstFailing_none {l : List (TableId × Option Nat)} (passes : firstFailing l = none) {c : TableId × Option Nat} (mem : c ∈ l) :
    c.2 = none := by
  induction l with
  | nil => cases mem
  | cons x l ih =>
    obtain ⟨id, failed⟩ := x
    cases failed with
    | some n => cases passes
    | none =>
      rcases List.mem_cons.mp mem with rfl | later
      · rfl
      · exact ih passes later

theorem zone_place (s : State) (z : Fin 16) : s.cfs.tables.zones.toList[z.val]? = some (s.zoneEntry z) := by
  rw [List.getElem?_eq_getElem (by simp)]
  exact congrArg some (Vector.getElem_toList ..)

/-- The present flags of a run that is not empty: the first is set, and so is each before one that is (R14). -/
theorem runFail_none {l : List Bool} (passes : runFail 1 l = none) :
    l[0]? ≠ some false ∧ ∀ i, l[i + 1]? = some true → l[i]? ≠ some false := by
  have holds {j : Nat} {a b : Bool} (first : l[j]? = some a) (second : (true :: l)[j]? = some b) :
      (if j < 1 then a else b || !a) = true := by
    have := firstFail_none passes (i := j) (x := (a, b)) (List.getElem?_zip_eq_some.mpr ⟨first, second⟩)
    rwa [Nat.zero_add] at this
  exact ⟨fun first => Bool.false_ne_true (holds first rfl), fun i after before => Bool.false_ne_true (holds after before)⟩

theorem zonesRun_of_valid {s : State} (valid : validate s.cfs.tables = none) : s.ZonesRun := by
  have passes {id : TableId} {r : Option Nat} (mem : (id, r) ∈ checks s.cfs.tables) : r = none := firstFailing_none valid mem
  have run : runFail 1 (s.cfs.tables.zones.toList.map (·.present)) = none := passes (id := .zone) (by simp [checks])
  have origin : (if (s.cfs.tables.zones.get 0).start = 0 then none else some 0) = none := passes (id := .zone) (by simp [checks])
  have ascending : pairFail (fun a b => a.start < b.start) 1 (presentZoneEntries s.cfs.tables) = none :=
    passes (id := .zone) (by simp [checks])
  have ending : lastFail (fun e => e.start < s.cfs.tables.line.length) (presentZoneEntries s.cfs.tables) = none :=
    passes (id := .zone) (by simp [checks])
  obtain ⟨first, before⟩ := runFail_none run
  have flag (z : Fin 16) : (s.cfs.tables.zones.toList.map (·.present))[z.val]? = some (s.zoneEntry z).present := by
    rw [List.getElem?_map, zone_place]
    rfl
  have down (k : Nat) : ∀ m n : Fin 16, n.val = m.val + k → (s.zoneEntry n).present = true → (s.zoneEntry m).present = true := by
    induction k with
    | zero => exact fun m n same present => (Fin.ext same : n = m) ▸ present
    | succ k ih =>
      intro m n same present
      have next := ih ⟨m.val + 1, by omega⟩ n (by simp only []; omega) present
      have unset := before m.val (by rw [← next]; exact flag ⟨m.val + 1, _⟩)
      rw [flag m] at unset
      exact Bool.not_eq_false _ ▸ fun h => unset (by rw [h])
  have sorted : (presentZoneEntries s.cfs.tables).Pairwise fun a b => a.start < b.start := by
    have pairs := pairFail_none (α := ZoneEntry) (ok := fun a b => a.start < b.start) (fun a b c first second => decide_eq_true
      (Int.lt_trans (of_decide_eq_true first) (of_decide_eq_true second))) ascending
    exact pairs.imp of_decide_eq_true
  refine ⟨?_, ?_, fun m n later present => ?_, fun n present => ?_⟩
  · have set_ := flag 0
    exact Bool.not_eq_false _ ▸ fun h => first (by rw [← h]; exact set_)
  · refine Classical.byContradiction fun other => ?_
    rw [State.zoneEntry] at other
    rw [if_neg other] at origin
    cases origin
  · have earlier := down (n.val - m.val) m n (by omega) present
    have pairs := List.pairwise_iff_getElem.mp (List.pairwise_filter.mp sorted) m.val n.val (by simp) (by simp) later
    rw [Vector.getElem_toList, Vector.getElem_toList] at pairs
    exact ⟨earlier, pairs earlier present⟩
  · have mem : s.zoneEntry n ∈ presentZoneEntries s.cfs.tables :=
      List.mem_filter.mpr ⟨List.mem_of_getElem? (zone_place s n), present⟩
    unfold lastFail at ending
    cases last : (presentZoneEntries s.cfs.tables).getLast? with
    | none =>
      rw [List.getLast?_eq_none_iff.mp last] at mem
      cases mem
    | some e =>
      rw [last] at ending
      have inside : e.start < s.cfs.tables.line.length := by
        refine Classical.byContradiction fun outside => ?_
        simp [outside] at ending
      rcases le_getLast_of_sorted sorted last mem with same | before
      · exact same ▸ inside
      · exact Int.lt_trans before inside

end Sys2Proof.Machine
end

section
/-! The zone in which P_sup lies (R3, R82). -/

namespace Sys2Proof.Machine

/-- The zone in which a position lies: the last present zone that starts at or below it, or zone 0 (R3). -/
structure State.Names (s : State) (p : Int) (z : Fin 16) : Prop where
  present : (s.zoneEntry z).present = true
  starts : (s.zoneEntry z).start ≤ p ∨ z = 0
  last : ∀ n, z < n → (s.zoneEntry n).present = true → p < (s.zoneEntry n).start

theorem lastZone_above {s : State} {z n : Fin 16} (last : s.lastZone = some z) (later : z < n) : (s.zoneEntry n).present = false :=
  (lastIndex_some last).2 n later

namespace State.ZonesRun

variable {s : State} (run : s.ZonesRun)
include run

/-- A present zone that is not the last has its next present. -/
theorem next {z : Fin 16} (present : (s.zoneEntry z).present = true) (more : s.lastZone ≠ some z) :
    ∃ n, nextZone z = some n ∧ n.val = z.val + 1 ∧ (s.zoneEntry n).present = true := by
  obtain ⟨last, ends⟩ := lastIndex_exists (q := fun z => (s.zoneEntry z).present) present
  have above : z < last := by
    rcases le_getLast_of_sorted (allIndices_sorted.filter _) ends (List.mem_filter.mpr ⟨mem_allIndices z, present⟩) with same | before
    · exact absurd (same ▸ ends) more
    · exact before
  have lastPresent := (lastIndex_some ends).1
  have room : z.val + 1 < 16 := by omega
  refine ⟨⟨z.val + 1, room⟩, dif_pos room, rfl, ?_⟩
  by_cases same : (⟨z.val + 1, room⟩ : Fin 16) = last
  · rw [same]
    exact lastPresent
  · have := Fin.val_ne_of_ne same
    exact (run.run ⟨z.val + 1, room⟩ last (by simp only [Fin.lt_def] at above ⊢; simp only [] at this; omega) lastPresent).1

theorem walkUp_present (p : Int) (k : Nat) {z : Fin 16} (present : (s.zoneEntry z).present = true) :
    (s.zoneEntry (s.walkUp p k z)).present = true := by
  induction k generalizing z with
  | zero => exact present
  | succ k ih =>
    unfold State.walkUp
    split
    · rename_i goes
      obtain ⟨n, next, -, there⟩ := run.next present goes.2
      rw [next]
      exact ih there
    · exact present

theorem walkDown_present (p : Int) (k : Nat) {z : Fin 16} (present : (s.zoneEntry z).present = true) :
    (s.zoneEntry (s.walkDown p k z)).present = true := by
  induction k generalizing z with
  | zero => exact present
  | succ k ih =>
    unfold State.walkDown
    split
    · unfold previousZone
      by_cases positive : 0 < z.val
      · rw [if_pos positive]
        exact ih (run.run _ z (by rw [Fin.lt_def]; simp only []; omega) present).1
      · rw [if_neg positive]
        exact present
    · exact present

theorem walkZone_present (p : Int) (motion : Option Dir) {z : Fin 16} (present : (s.zoneEntry z).present = true) :
    (s.zoneEntry (s.walkZone p motion z)).present = true := by
  unfold State.walkZone
  split
  · exact run.walkUp_present p 16 present
  · exact run.walkDown_present p 16 present
  · exact run.walkDown_present p 16 (run.walkUp_present p 16 present)

theorem names_of_inZone {p : Int} {z : Fin 16} (present : (s.zoneEntry z).present = true) (inside : s.inZone z p = true) : s.Names p z := by
  simp only [State.inZone, Bool.or_eq_true, Bool.and_eq_true, decide_eq_true_eq, beq_iff_eq] at inside
  rcases inside with (⟨starts, ends⟩ | ⟨low, zero⟩) | ⟨high, last⟩
  · refine ⟨present, .inl starts, fun n later there => ?_⟩
    by_cases last : s.lastZone = some z
    · rw [lastZone_above last later] at there
      cases there
    · obtain ⟨m, next, place, -⟩ := run.next present last
      unfold State.zoneEnd at ends
      rw [if_neg last, next] at ends
      rcases Fin.eq_or_lt_of_le (show m ≤ n by rw [Fin.le_def]; omega) with same | above
      · exact same ▸ ends
      · exact Int.lt_trans ends (run.run m n above there).2
  · refine ⟨present, .inr zero, fun n later there => ?_⟩
    have := (run.run 0 n (zero ▸ later) there).2
    have := run.origin
    omega
  · refine ⟨present, .inl (Int.le_trans (Int.le_of_lt (run.inside z present)) high), fun n later there => ?_⟩
    rw [lastZone_above last later] at there
    cases there

theorem searchZone_names (p : Int) : ∃ z, s.searchZone p = some z ∧ s.Names p z := by
  by_cases low : p < 0
  · refine ⟨0, (searchZone_below low).trans (if_pos run.first), run.first, .inr rfl, fun n later there => ?_⟩
    have := (run.run 0 n later there).2
    have := run.origin
    omega
  · obtain ⟨z, found⟩ := searchZone_exists (s := s) (p := p) (n := 0) (by omega) run.first (by rw [run.origin]; omega)
    have finds := searchZone_some (by omega) found
    exact ⟨z, found, finds.present, .inl finds.starts, finds.last⟩

end State.ZonesRun

section
variable {s : State} {p : Int}

theorem settleZone_unqualified (lost : s.msu.qualified = false) : s.settleZone = s.ssv.zone := by
  unfold State.settleZone
  split
  · rfl
  · exact if_pos (by simp [lost])

theorem settleZone_unset (known : s.msu.qualified = true) (at_ : s.msu.pSup = some p) (unset : s.ssv.zone = none) :
    s.settleZone = s.searchZone p := by
  unfold State.settleZone
  rw [at_]
  dsimp only
  rw [if_neg (by simp [known]), unset]

/-- In valid tables the pointer names the zone in which P_sup lies (R82). -/
theorem settleZone_names (valid : validate s.cfs.tables = none) (known : s.msu.qualified = true) (at_ : s.msu.pSup = some p)
    (stands : ∀ z, s.ssv.zone = some z → (s.zoneEntry z).present = true) : ∃ z, s.settleZone = some z ∧ s.Names p z := by
  have run := zonesRun_of_valid valid
  cases pointer : s.ssv.zone with
  | none =>
    rw [settleZone_unset known at_ pointer]
    exact run.searchZone_names p
  | some z =>
    unfold State.settleZone
    rw [at_]
    dsimp only
    rw [if_neg (by simp [known]), pointer]
    dsimp only
    split
    · rename_i inside
      exact ⟨_, rfl, run.names_of_inZone (run.walkZone_present p s.msu.motion (stands z pointer)) inside⟩
    · exact run.searchZone_names p

end

end Sys2Proof.Machine
end

section
/-! The permitted speed and its terms (R34, R85 to R93, R96). -/

namespace Sys2Proof.Machine

/-! ### The least of the terms (R89) -/

/-- The least term is the first of those that are least. -/
theorem leastTerm_first (best : LimitTerm × Nat) (l : List (LimitTerm × Nat)) :
    (best :: l).find? (fun x => x.2 == (leastTerm best l).2) = some (leastTerm best l) ∧ ∀ x ∈ best :: l, (leastTerm best l).2 ≤ x.2 := by
  induction l generalizing best with
  | nil => simp [leastTerm]
  | cons t rest ih =>
    rw [leastTerm]
    by_cases below : t.2 < best.2
    · rw [if_pos below]
      obtain ⟨first, least⟩ := ih t
      have under := least t List.mem_cons_self
      refine ⟨?_, fun x mem => ?_⟩
      · rw [List.find?_cons_of_neg (by simp; omega)]
        exact first
      · rcases List.mem_cons.mp mem with rfl | mem
        · omega
        · exact least x mem
    · rw [if_neg below]
      obtain ⟨first, least⟩ := ih best
      have under := least best List.mem_cons_self
      refine ⟨?_, fun x mem => ?_⟩
      · by_cases own : best.2 = (leastTerm best rest).2
        · rw [List.find?_cons_of_pos (by simpa using own)] at first ⊢
          exact first
        · rw [List.find?_cons_of_neg (by simpa using own)] at first ⊢
          rw [List.find?_cons_of_neg (by simp; omega)]
          exact first
      · rcases List.mem_cons.mp mem with rfl | mem
        · exact under
        · rcases List.mem_cons.mp mem with rfl | mem
          · omega
          · exact least x (List.mem_cons_of_mem _ mem)

/-- The terms after the target candidate, in the order of the table (R89). -/
def State.laterTerms (s : State) (p : Int) (zone : Option (Fin 16)) (cands : List (Fin 16 × Nat)) : List (LimitTerm × Nat) :=
  cands.map (fun c => (LimitTerm.zoneStart c.1, c.2)) ++ [(.zoneLimit, s.currentLimit p zone), (.line, s.line.vLineMax)] ++
    s.modeCeiling.elim [] fun c => [(LimitTerm.ceiling, c)]

/-- What the permitted speed and its term are of the terms (R89). -/
structure Permitted (s : State) (limit target : Nat) (cands : List (Fin 16 × Nat)) (v : Nat) (term : LimitTerm) : Prop where
  target_ : v ≤ target
  zones : ∀ x ∈ cands, v ≤ x.2
  limit_ : v ≤ limit
  line : v ≤ s.line.vLineMax
  ceiling : s.rco.mode = .recovery ∨ s.rco.mode = .maintenance → v ≤ s.line.creep
  atTarget : v = target → term = .target
  atZone : v ≠ target → ∀ x, cands.find? (fun x => x.2 == v) = some x → term = .zoneStart x.1
  past : v ≠ target → cands.find? (fun x => x.2 == v) = none →
    if v = limit then term = .zoneLimit
    else if v = s.line.vLineMax then term = .line
    else term = .ceiling ∧ v = s.line.creep

theorem permitted (s : State) (p : Int) (zone : Option (Fin 16)) (target : Nat) (cands : List (Fin 16 × Nat)) :
    Permitted s (s.currentLimit p zone) target cands (leastTerm (.target, target) (s.laterTerms p zone cands)).2
      (leastTerm (.target, target) (s.laterTerms p zone cands)).1 := by
  obtain ⟨first, least⟩ := leastTerm_first (.target, target) (s.laterTerms p zone cands)
  generalize leastTerm (.target, target) (s.laterTerms p zone cands) = best at first least
  obtain ⟨term, v⟩ := best
  have later {x : LimitTerm × Nat} (mem : x ∈ s.laterTerms p zone cands) : v ≤ x.2 := least x (List.mem_cons_of_mem _ mem)
  have others (own : v ≠ target) :
      ((cands.find? (fun x => x.2 == v)).map fun c => (LimitTerm.zoneStart c.1, c.2)).or
        (([(LimitTerm.zoneLimit, s.currentLimit p zone), (.line, s.line.vLineMax)] ++
          s.modeCeiling.elim [] (fun c => [(LimitTerm.ceiling, c)])).find? fun x => x.2 == v) = some (term, v) := by
    rw [List.find?_cons_of_neg (by simpa using own.symm), State.laterTerms, List.append_assoc, List.find?_append, List.find?_map] at first
    exact first
  refine ⟨least _ List.mem_cons_self, fun x mem => ?_, ?_, ?_, fun slow => ?_, fun own => ?_, fun own x found => ?_, fun own none_ => ?_⟩
  · exact later (x := (.zoneStart x.1, x.2)) (by simp [State.laterTerms, mem])
  · exact later (x := (.zoneLimit, _)) (List.mem_append_left _ (List.mem_append_right _ List.mem_cons_self))
  · exact later (x := (.line, _)) (by simp [State.laterTerms])
  · have ceiling : s.modeCeiling = some s.line.creep := by rcases slow with h | h <;> simp [State.modeCeiling, h]
    exact later (x := (.ceiling, _)) (by simp [State.laterTerms, ceiling])
  · rw [List.find?_cons_of_pos (by simpa using own.symm)] at first
    exact (congrArg Prod.fst (Option.some.inj first)).symm
  · have found' := others own
    rw [found] at found'
    exact (congrArg Prod.fst (Option.some.inj found')).symm
  · have found := others own
    rw [none_, Option.map_none, Option.none_or] at found
    by_cases atLimit : v = s.currentLimit p zone
    · rw [if_pos atLimit]
      rw [List.cons_append, List.find?_cons_of_pos (by simpa using atLimit.symm)] at found
      exact (congrArg Prod.fst (Option.some.inj found)).symm
    rw [if_neg atLimit]
    rw [List.cons_append, List.find?_cons_of_neg (by simpa using Ne.symm atLimit)] at found
    by_cases atLine : v = s.line.vLineMax
    · rw [if_pos atLine]
      rw [List.cons_append, List.find?_cons_of_pos (by simpa using atLine.symm)] at found
      exact (congrArg Prod.fst (Option.some.inj found)).symm
    rw [if_neg atLine]
    rw [List.cons_append, List.find?_cons_of_neg (by simpa using Ne.symm atLine), List.nil_append] at found
    have slow {c : Nat} (ceiling : s.modeCeiling = some c) : c = s.line.vLineMax ∨ c = s.line.creep := by
      unfold State.modeCeiling at ceiling
      cases mode : s.rco.mode <;> rw [mode] at ceiling <;> cases ceiling <;> simp
    cases ceiling : s.modeCeiling with
    | none =>
      rw [ceiling] at found
      cases found
    | some c =>
      rw [ceiling, Option.elim_some] at found
      by_cases atCeiling : c = v
      · rw [List.find?_cons_of_pos (by simpa using atCeiling)] at found
        refine ⟨(congrArg Prod.fst (Option.some.inj found)).symm, ?_⟩
        rcases slow ceiling with fast | creeps
        · exact absurd (atCeiling.symm.trans fast) atLine
        · exact atCeiling.symm.trans creeps
      · rw [List.find?_cons_of_neg (by simpa using atCeiling)] at found
        cases found

end Sys2Proof.Machine
end

section
/-! The record of a computation in CURVE mode (R85 to R90, R92). -/

namespace Sys2Proof.Machine

/-! ### The spanned percent and a_g (R85, R86) -/

theorem foldl_min_spec {α : Type} (f : α → Nat) (l : List α) (n : Nat) :
    l.foldl (fun m x => min m (f x)) n ≤ n ∧ (∀ x ∈ l, l.foldl (fun m x => min m (f x)) n ≤ f x) ∧
      (l.foldl (fun m x => min m (f x)) n = n ∨ ∃ x ∈ l, l.foldl (fun m x => min m (f x)) n = f x) := by
  induction l generalizing n with
  | nil => exact ⟨Nat.le_refl n, fun _ mem => (by cases mem), .inl rfl⟩
  | cons y l ih =>
    obtain ⟨le, each, one⟩ := ih (min n (f y))
    rw [List.foldl_cons]
    generalize l.foldl (fun m x => min m (f x)) (min n (f y)) = m at le each one
    refine ⟨by omega, fun x mem => ?_, ?_⟩
    · rcases List.mem_cons.mp mem with rfl | mem
      · omega
      · exact each x mem
    · rcases one with same | ⟨x, mem, same⟩
      · rcases Nat.le_total n (f y) with h | h
        · exact .inl (by omega)
        · exact .inr ⟨y, List.mem_cons_self, by omega⟩
      · exact .inr ⟨x, List.mem_cons_of_mem _ mem, same⟩

theorem current_spanned (s : State) (d : Dir) (p target : Int) (z : Fin 16) : z ∈ s.spannedZones d p target z := by
  unfold State.spannedZones
  split
  · exact List.mem_cons_self
  · split
    · exact List.mem_cons_self
    · exact List.mem_filter.mpr ⟨mem_allIndices z, by simp⟩

/-- The spanned percent is the least among the spanned zones (R85). -/
theorem spannedPercent_least (s : State) (d : Dir) (p target : Int) (z : Fin 16) :
    (∀ q ∈ s.spannedZones d p target z, s.spannedPercent d p target (some z) ≤ (s.zoneEntry q).percent) ∧
      ∃ q ∈ s.spannedZones d p target z, s.spannedPercent d p target (some z) = (s.zoneEntry q).percent := by
  obtain ⟨-, each, one⟩ := foldl_min_spec (fun q => (s.zoneEntry q).percent) (s.spannedZones d p target z) (s.zoneEntry z).percent
  exact ⟨each, one.elim (fun same => ⟨z, current_spanned s d p target z, same⟩) id⟩

theorem guaranteed_eq (l : LineConsts) (aZone loadUnits : Nat) :
    (guaranteed l aZone loadUnits : Int) = clamp ((aZone : Int) - (l.cLoad * loadUnits : Nat)) l.aMin l.aBase := by
  have positive : 0 ≤ clamp ((aZone : Int) - (l.cLoad * loadUnits : Nat)) l.aMin l.aBase := by
    unfold clamp
    split
    · omega
    · split <;> omega
  exact Int.toNat_of_nonneg positive

/-! ### The zone candidates (R88) -/

theorem mem_zoneCandidates_up {s : State} {p target : Int} {aG v : Nat} {z e : Fin 16} :
    (e, v) ∈ s.zoneCandidatesFor .up p target aG (some z) ↔ ∃ q ∈ s.spannedZones .up p target z,
      (e = q ∧ q ≠ z ∧ p < (s.zoneEntry q).start ∧ (s.zoneEntry q).start < target) ∧
        v = isqrt ((s.zoneEntry e).limit ^ 2 + 2 * aG * (p - (s.zoneEntry q).start).natAbs) := by
  unfold State.zoneCandidatesFor
  simp only [List.mem_filterMap]
  refine exists_congr fun q => and_congr_right fun _ => ?_
  split
  · rename_i ahead
    obtain ⟨other, after, before⟩ := ahead
    have distance : ((s.zoneEntry q).start - p).toNat = (p - (s.zoneEntry q).start).natAbs := by omega
    simp only [Option.some.injEq, Prod.mk.injEq, zoneCandidate, distance, ← Nat.pow_two]
    constructor
    · rintro ⟨rfl, rfl⟩
      exact ⟨⟨rfl, other, after, before⟩, rfl⟩
    · rintro ⟨⟨rfl, -⟩, rfl⟩
      exact ⟨rfl, rfl⟩
  · rename_i not_
    exact ⟨fun h => (by cases h), fun ⟨⟨_, h⟩, _⟩ => absurd h not_⟩

theorem previousZone_iff {z e : Fin 16} : previousZone z = some e ↔ e.val + 1 = z.val := by
  unfold previousZone
  by_cases positive : 0 < z.val
  · rw [if_pos positive, Option.some.injEq, Fin.ext_iff]
    simp only []
    omega
  · rw [if_neg positive]
    exact ⟨fun h => (by cases h), fun h => by omega⟩

theorem mem_zoneCandidates_down {s : State} {p target : Int} {aG v : Nat} {z e : Fin 16} :
    (e, v) ∈ s.zoneCandidatesFor .down p target aG (some z) ↔ ∃ q ∈ s.spannedZones .down p target z,
      (e.val + 1 = q.val ∧ target < (s.zoneEntry q).start ∧ (s.zoneEntry q).start ≤ p) ∧
        v = isqrt ((s.zoneEntry e).limit ^ 2 + 2 * aG * (p - (s.zoneEntry q).start).natAbs) := by
  unfold State.zoneCandidatesFor
  simp only [List.mem_filterMap, List.mem_reverse]
  refine exists_congr fun q => and_congr_right fun _ => ?_
  split
  · rename_i ahead
    obtain ⟨after, before⟩ := ahead
    have distance : (p - (s.zoneEntry q).start).toNat = (p - (s.zoneEntry q).start).natAbs := by omega
    simp only [Option.map_eq_some_iff, previousZone_iff, Prod.mk.injEq, zoneCandidate, distance, ← Nat.pow_two]
    constructor
    · rintro ⟨_, next, rfl, rfl⟩
      exact ⟨⟨next, after, before⟩, rfl⟩
    · rintro ⟨⟨next, -⟩, rfl⟩
      exact ⟨e, next, rfl, rfl⟩
  · rename_i not_
    exact ⟨fun h => (by cases h), fun ⟨⟨_, h⟩, _⟩ => absurd h not_⟩

/-! ### The record -/

/-- The position, direction and target of a computation in CURVE mode. -/
def State.curveAt (s : State) : Dir × Int × Int :=
  (s.rco.authority.dir.getD .up, s.msu.pSup.getD 0, s.rco.authority.targetPosition.getD (s.msu.pSup.getD 0))

/-- What the record of a computation in CURVE mode holds (R85 to R90, R92). -/
structure Curve (s : State) (zone : Option (Fin 16)) (r : Ssv) : Prop where
  zone_ : r.zone = zone
  mSb : r.mSb = max 200 (r.vPerm / 16)
  mEb : r.mEb = max 400 (r.vPerm / 8)
  asked : r.asked = askedLevel s.msu.vMeas r.vPerm r.mSb r.mEb s.line.vLineMax
  permitted : ∃ v, r.target = some v ∧ Permitted s (s.currentLimit (s.msu.pSup.getD 0) zone) v r.zoneCandidates r.vPerm r.term
  snapshot : r.snapshot = s.ssv.snapshot
  at_ : ∀ d p target, s.curveAt = (d, p, target) →
    r.overrunFlag = s.targetOverrun d p target ∧
    ∃ percent aZone aG, r.percent = some percent ∧ r.aZone = some aZone ∧ r.aG = some aG ∧
      percent = s.spannedPercent d p target zone ∧ aZone = s.line.aBase * percent / 100 ∧
      aG = guaranteed s.line aZone ((s.ssv.snapshot.map (·.loadUnits)).getD 0) ∧
      r.target = some (targetCandidate s.line aG (d.distance p target)) ∧ r.zoneCandidates = s.zoneCandidatesFor d p target aG zone

theorem curveRecord_curve (s : State) (zone : Option (Fin 16)) : Curve s zone (s.curveRecord zone) where
  zone_ := rfl
  mSb := rfl
  mEb := rfl
  asked := rfl
  permitted := by
    have least : (s.curveRecord zone).term = (leastTerm (.target, ((s.curveRecord zone).target).getD 0)
          (s.laterTerms (s.msu.pSup.getD 0) zone (s.curveRecord zone).zoneCandidates)).1 ∧
        (s.curveRecord zone).vPerm = (leastTerm (.target, ((s.curveRecord zone).target).getD 0)
          (s.laterTerms (s.msu.pSup.getD 0) zone (s.curveRecord zone).zoneCandidates)).2 := by
      unfold State.curveRecord State.laterTerms
      cases s.modeCeiling <;> exact ⟨rfl, rfl⟩
    refine ⟨((s.curveRecord zone).target).getD 0, rfl, ?_⟩
    rw [least.1, least.2]
    exact permitted ..
  snapshot := rfl
  at_ := by
    rintro d p target ⟨⟩
    exact ⟨rfl, _, _, _, rfl, rfl, rfl, rfl, rfl, rfl, rfl, rfl⟩

end Sys2Proof.Machine
end

section
/-! The sample event and the thresholds (R81 to R96). -/

namespace Sys2Proof.Machine

/-! ### The supervision record, mode by mode (R81) -/

theorem supervised_mode (s : State) : s.supervised.mode = s.supervisionMode := by
  change s.supervisionRecord.mode = _
  unfold State.supervisionRecord
  cases s.supervisionMode <;> rfl

theorem supervised_zone (s : State) : s.supervised.zone = s.settleZone := by
  change s.supervisionRecord.zone = _
  unfold State.supervisionRecord
  cases s.supervisionMode <;> rfl

theorem supervised_curve {s : State} (mode : s.supervised.mode = .curve) : Curve s s.settleZone s.supervised := by
  rw [supervised_mode] at mode
  have record : s.supervisionRecord = s.curveRecord s.settleZone := by
    unfold State.supervisionRecord
    rw [mode]
  obtain ⟨zone, mSb, mEb, asked, permitted, snapshot, at_⟩ := curveRecord_curve s s.settleZone
  unfold State.supervised
  rw [record]
  exact ⟨zone, mSb, mEb, asked, permitted, snapshot, at_⟩

theorem supervised_plain {s : State} (mode : s.supervised.mode ≠ .curve) :
    s.supervised.vPerm = 0 ∧ s.supervised.term = .none ∧ s.supervised.mSb = 200 ∧ s.supervised.mEb = 400 ∧
      s.supervised.overrunFlag = false := by
  rw [supervised_mode] at mode
  change s.supervisionRecord.vPerm = 0 ∧ s.supervisionRecord.term = .none ∧ s.supervisionRecord.mSb = 200 ∧
    s.supervisionRecord.mEb = 400 ∧ s.supervisionRecord.overrunFlag = false
  unfold State.supervisionRecord
  cases found : s.supervisionMode with
  | curve => exact absurd found mode
  | _ => exact ⟨rfl, rfl, rfl, rfl, rfl⟩

theorem supervised_asked (s : State) : s.supervised.asked =
    if s.supervised.mode = .idle then .none
    else askedLevel s.msu.vMeas s.supervised.vPerm s.supervised.mSb s.supervised.mEb s.line.vLineMax := by
  change s.supervisionRecord.asked = if s.supervisionRecord.mode = .idle then .none
    else askedLevel s.msu.vMeas s.supervisionRecord.vPerm s.supervisionRecord.mSb s.supervisionRecord.mEb s.line.vLineMax
  unfold State.supervisionRecord
  cases s.supervisionMode <;> rfl

/-! ### The excursion record (R96) -/

theorem record_excursion (s : State) : s.supervisionRecord.excursion = s.ssv.excursion := by
  unfold State.supervisionRecord
  cases s.supervisionMode <;> rfl

theorem supervised_calm {s : State} (calm : s.supervised.asked.brakes = false) : s.supervised.excursion = s.ssv.excursion := by
  have asked : ¬s.supervisionRecord.asked.brakes = true := Bool.eq_false_iff.mp calm
  exact (if_neg asked).trans (record_excursion s)

theorem supervised_goesOn {s : State} (brakes : s.supervised.asked.brakes = true) (before : s.ssv.asked.brakes = true) :
    s.supervised.excursion = s.ssv.excursion.map fun e =>
      { e with
        greatestLevel := if e.greatestLevel.rank < s.supervised.asked.rank then s.supervised.asked else e.greatestLevel
        greatestV := max e.greatestV s.msu.vMeas } := by
  refine ((if_pos brakes).trans (if_pos before)).trans ?_
  rw [record_excursion]
  rfl

theorem supervised_onset {s : State} (brakes : s.supervised.asked.brakes = true) (before : s.ssv.asked.brakes = false) :
    s.supervised.excursion = some
      { mode := s.supervised.mode, vMeas := s.msu.vMeas, pSup := s.msu.pSup, motion := s.msu.motion
        authState := s.rco.authority.state, targetPosition := s.rco.authority.targetPosition
        vPerm := s.supervised.vPerm, term := s.supervised.term, aG := s.supervised.aG, mSb := s.supervised.mSb, mEb := s.supervised.mEb
        asked := s.supervised.asked, greatestLevel := s.supervised.asked, greatestV := s.msu.vMeas } :=
  (if_pos brakes).trans (if_neg (by simp [before]))

/-! ### The event as a whole -/

/-- A sample event from `s` that supervises `w` and ends in `t`. -/
structure Sampled (s w t : State) : Prop where
  cfs : w.cfs = s.cfs
  ssv : w.ssv = s.ssv
  auth : Subsides s.rco.authority.state w.rco.authority.state
  runs : Runs s w
  msu : t.msu = w.msu
  record : ∃ snapshot aG percent, t.ssv = { w.supervised with snapshot := snapshot, aG := aG, percent := percent }
  ceiling : t.rco.authority.state.running = true → w.rco.authority.state.running = true ∧ t.rco.authority.ceiling = w.supervised.vPerm
  caution : t.bks.demand.caution = (w.supervised.asked == .caution)
  entry : w.supervised.asked.brakes = true →
    ∃ e ∈ t.bks.demand.causes, e.cause = .overspeed ∧ w.supervised.asked.rank ≤ e.level.rank
  overrun : w.supervised.overrunFlag = true → s.ssv.overrunFlag = false → ∃ e ∈ t.bks.demand.causes, e.cause = .overrun ∧ 3 ≤ e.level.rank
  whole : (s.runLawful = true ∧ t.rco.authority.state.running = true) ∨ w.supervised.asked.brakes = true →
    t.ssv = w.supervised ∧ Subsides w.rco.authority.state t.rco.authority.state ∧
      (t.rco.authority.state.running = true →
        t.rco.authority.dir = w.rco.authority.dir ∧ t.rco.authority.targetPosition = w.rco.authority.targetPosition)

theorem ceiled_law {s : State} (law : RunLaw s) : RunLaw s.ceiled := by
  have cfs : s.ceiled.cfs = s.cfs := by
    unfold State.ceiled takeCeiling
    split <;> rfl
  refine law.of_same ?_ ?_ ?_ ?_ ?_ ?_ (by rw [cfs]) <;> rw [ceiled_rco]

theorem sampled (s : State) (r1 r2 : SensorRead) : Sampled s (s.measured r1 r2) (endEvent (superviseLine (s.measured r1 r2))) := by
  have before := measured_tracks s r1 r2
  generalize s.measured r1 r2 = w at *
  have handed := superviseLine_tracks w
  have ceiled := ceiled_rco w
  have record := superviseLine_ssv w
  have caution := superviseLine_caution w
  have brakes := superviseLine_brakes (s := w)
  have overrun := superviseLine_overrun (s := w)
  have msu := superviseLine_msu w
  have law : RunLaw s → RunLaw (superviseLine w) := fun law => handed.law.law (ceiled_law (before.law.law law))
  generalize superviseLine w = u at *
  have lasts := Lasts.endEvent u
  have mounts := Mounts.endEvent u
  have authority (runs : u.rco.authority.state.running = true) : w.rco.authority.state.running = true ∧
      u.rco.authority = { w.rco.authority with state := u.rco.authority.state, ceiling := w.supervised.vPerm } := by
    obtain ⟨on, -, same⟩ := handed.runs.kept runs
    rw [ceiled] at on same
    refine ⟨on, same.trans ?_⟩
    dsimp only
    rw [if_pos (show w.rco.authority.state.running = true from on)]
  exact
    { cfs := before.cfs
      ssv := before.ssv
      auth := before.auth
      runs := before.runs
      msu := (Calm.endEvent u).msu.trans msu
      record := record ▸ lasts.ssv
      ceiling := fun runs => by
        obtain ⟨on, ceiling⟩ := lasts.runs runs
        obtain ⟨on', same⟩ := authority on
        exact ⟨on', ceiling.trans (congrArg Authority.ceiling same)⟩
      caution := lasts.caution.trans caution
      entry := fun asked => mounts.entry (brakes asked).1
      overrun := fun over_ before_ => mounts.entry (overrun over_ (by rw [before.ssv]; exact before_))
      whole := fun still => by
        have ended : endEvent u = u.rested := by
          rcases still with ⟨lawful, runs⟩ | asked
          · exact endEvent_of_running (law ((runLawful_iff s).mp lawful)) runs
          · exact endEvent_of_latched (brakes asked).2
        have subsides := handed.auth
        rw [ceiled] at subsides
        rw [ended]
        refine ⟨record, subsides, fun runs => ?_⟩
        obtain ⟨-, same⟩ := authority runs
        change u.rco.authority.dir = _ ∧ u.rco.authority.targetPosition = _
        rw [same]
        exact ⟨rfl, rfl⟩ }

end Sys2Proof.Machine
end

section
/-! The thresholds of a sample event, clause by clause (R34, R57, R81 to R96). -/

namespace Sys2Proof.Machine

/-- An authority that ends where it began is the same between. -/
theorem Subsides.between {a b c : AuthState} (h : Subsides a b) (g : Subsides b c) (same : c = a) : b = c := by
  unfold Subsides at h g
  rcases h with rfl | rfl | ⟨rfl, rfl⟩ <;> rcases g with rfl | rfl | ⟨old, rfl⟩ <;> simp_all

theorem Subsides.running {a b : AuthState} (h : Subsides a b) (runs : b.running = true) : a.running = true := by
  rcases h with rfl | rfl | ⟨rfl, rfl⟩
  · exact runs
  · cases runs
  · rfl

/-- The mode of supervision, by the table of R81. -/
theorem supervisionMode_eq (s : State) : s.supervisionMode =
    if s.msu.supervised = false then .idle
    else if s.rco.authority.state.running = true then
      if s.msu.qualified = false then .idle
      else if 20 < s.msu.vMeas ∧ s.msu.motion.isSome = true ∧ s.msu.motion.map Dir.opposite = s.rco.authority.dir then .fixed
      else .curve
    else if 20 < s.msu.vMeas then .fixed
    else .idle := by
  unfold State.supervisionMode
  simp only [Bool.not_eq_true', Bool.and_eq_true, decide_eq_true_eq, beq_iff_eq]
  congr 3
  exact ite_congr (propext (by grind)) (fun _ => rfl) fun _ => rfl

theorem running_of_curve {s : State} (mode : s.supervisionMode = .curve) : s.rco.authority.state.running = true := by
  rw [supervisionMode_eq] at mode
  refine Classical.byContradiction fun stands => ?_
  rw [if_neg stands] at mode
  split at mode
  · cases mode
  · split at mode <;> cases mode

/-- Settles O18: the supervision record of the state that the measurement leaves, and what the end of the event keeps of it. -/
theorem sampleEventSetsThresholds : Obligations.SampleEventSetsThresholds := by
  intro s r1 r2 loaded timer
  refine ⟨_, exec_sample r1 r2 loaded timer, ?_⟩
  have event := sampled s r1 r2
  generalize endEvent (superviseLine (s.measured r1 r2)) = t at *
  generalize s.measured r1 r2 = w at *
  obtain ⟨cfs, ssv, auth, runs, msu, ⟨snapshot, aG, percent, record⟩, ceiling, caution, entry, overrun, whole⟩ := event
  have line : w.line = s.line := congrArg (fun k : Cfs => k.tables.line) cfs
  have entries (z : Fin 16) : w.zoneEntry z = s.zoneEntry z := by rw [State.zoneEntry, cfs]; rfl
  have mode : t.ssv.mode = w.supervised.mode := by rw [record]
  have zone : t.ssv.zone = w.settleZone := by rw [record]; exact supervised_zone w
  have vPerm : t.ssv.vPerm = w.supervised.vPerm := by rw [record]
  have asked : t.ssv.asked = w.supervised.asked := by rw [record]
  refine ⟨fun curved => ?_, fun flat => ?_, fun held => ?_, ?_, ?_, fun brakes => ?_, fun over_ before => ?_, fun lost => ?_,
    fun p known at_ => ⟨fun unset low => ?_, fun unset high => ⟨fun z found => ?_, fun none_ n present => ?_⟩, fun valid stands => ?_⟩,
    fun calm => ?_, fun brakes before => ?_, fun brakes before => ?_, fun lawful same => ?_, fun lawful curved on => ?_⟩
  · have curve := supervised_curve (mode ▸ curved)
    obtain ⟨v, target, permitted⟩ := curve.permitted
    have current (z : Fin 16) (found : t.ssv.zone = some z) : w.currentLimit (w.msu.pSup.getD 0) w.settleZone = (s.zoneEntry z).limit := by
      rw [← zone, found, ← entries]
      rfl
    have sameMode : w.rco.mode = s.rco.mode := (runs.kept (running_of_curve ((supervised_mode w).symm.trans (mode ▸ curved)))).2.1
    obtain ⟨atMost, zones, limit, byLine, byCeiling, atTarget, atZone, past⟩ := permitted
    rw [line] at byLine byCeiling past
    rw [sameMode] at byCeiling
    simp only [record] at current ⊢
    refine ⟨curve.mSb, curve.mEb, byLine, v, target, atMost, zones, fun z found => ?_⟩
    rw [current z found] at limit past
    refine ⟨limit, fun _ => ⟨byCeiling, ?_⟩⟩
    by_cases own : w.supervised.vPerm = v
    · rw [if_pos own]
      exact atTarget own
    · rw [if_neg own]
      cases found : w.supervised.zoneCandidates.find? (fun x => x.2 == w.supervised.vPerm) with
      | some x => exact atZone own x found
      | none => exact past own found
  · have plain := supervised_plain (fun h => flat (mode.trans h))
    simp only [record]
    exact plain
  · have on : t.rco.authority.state.running = true := by rcases held with h | h <;> rw [h] <;> rfl
    rw [vPerm]
    exact (ceiling on).2
  · have level := supervised_asked w
    rw [line] at level
    simp only [record, msu]
    exact level
  · rw [caution, asked]
    exact beq_iff_eq
  · rw [asked] at brakes ⊢
    exact entry brakes
  · simp only [record] at over_
    exact overrun over_ before
  · rw [zone, settleZone_unqualified (msu ▸ lost), ssv]
  · rw [msu] at known at_
    rw [zone, settleZone_unset known at_ (by rw [ssv]; exact unset), searchZone_below low, entries]
  · rw [msu] at known at_
    rw [zone, settleZone_unset known at_ (by rw [ssv]; exact unset)] at found
    obtain ⟨present, starts, last⟩ := searchZone_some high found
    simp only [entries] at present starts last
    exact ⟨present, starts, last⟩
  · rw [msu] at known at_
    rw [zone, settleZone_unset known at_ (by rw [ssv]; exact unset)] at none_
    have above := searchZone_none high none_ n
    rw [entries] at above
    exact above present
  · rw [msu] at known at_
    obtain ⟨z, found, present, starts, last⟩ := settleZone_names (s := w) (by rw [cfs]; exact valid) known at_
      (by simp only [ssv, entries]; exact stands)
    simp only [entries] at present starts last
    exact ⟨z, zone.trans found, present, starts, last⟩
  · rw [asked] at calm
    simp only [record]
    rw [supervised_calm calm, ssv]
  · rw [asked] at brakes
    have goesOn := supervised_goesOn brakes (by rw [ssv]; exact before)
    simp only [record, msu]
    rw [ssv] at goesOn
    exact goesOn
  · rw [asked] at brakes
    obtain ⟨same, ends, aim⟩ := whole (.inr brakes)
    have onset := supervised_onset brakes (by rw [ssv]; exact before)
    rw [same, msu]
    refine ⟨_, onset, rfl, rfl, rfl, rfl, rfl, rfl, rfl, rfl, rfl, rfl, rfl, rfl, fun still => ?_⟩
    have between := auth.between ends still
    exact ⟨between.trans (still.symm ▸ rfl), fun on => (aim on).2.symm⟩
  · have running : w.rco.authority.state.running = t.rco.authority.state.running := by
      cases on : t.rco.authority.state.running with
      | true => exact (ceiling on).1
      | false =>
        rw [on] at same
        exact Bool.eq_false_iff.mpr fun between => Bool.false_ne_true (same.trans (auth.running between))
    rw [mode, supervised_mode, supervisionMode_eq, msu, running]
    by_cases on : t.rco.authority.state.running = true
    · rw [if_pos on, if_pos on, ((whole (.inl ⟨lawful, on⟩)).2.2 on).1]
    · rw [if_neg on, if_neg on]
  · obtain ⟨same, -, aim⟩ := whole (.inl ⟨lawful, on⟩)
    obtain ⟨dir, targetPosition⟩ := aim on
    have curve := supervised_curve (mode ▸ curved)
    have curveAt {d : Dir} {p target : Int} (hd : t.rco.authority.dir = some d) (hp : t.msu.pSup = some p)
        (ht : t.rco.authority.targetPosition = some target) : w.curveAt = (d, p, target) := by
      rw [State.curveAt, ← dir, ← msu, ← targetPosition, hd, hp, ht]
      rfl
    have spanned (d : Dir) (p target : Int) (z : Fin 16) : w.spannedZones d p target z = s.spannedZones d p target z := by
      have search (x : Int) : w.searchZone x = s.searchZone x := by
        simp only [State.searchZone, State.presentZones, entries]
      simp only [State.spannedZones, search, entries]
    rw [same]
    refine ⟨curve.snapshot.trans (by rw [ssv]), fun d p target hd hp ht => ?_, fun d p target z hd hp ht hz => ?_⟩
    · rw [(curve.at_ d p target (curveAt hd hp ht)).1]
      unfold State.targetOverrun
      rw [line]
      cases d <;> exact decide_eq_true_iff
    · obtain ⟨-, percent, aZone, aG, hPercent, hZone, hG, least, zoned, given, hTarget, cands⟩ := curve.at_ d p target (curveAt hd hp ht)
      rw [← curve.zone_, hz] at least cands
      obtain ⟨each, one⟩ := spannedPercent_least w d p target z
      simp only [spanned, entries] at each one
      rw [line] at zoned given hTarget
      refine ⟨percent, aZone, aG, hPercent, hZone, hG, least ▸ each, least ▸ one, zoned, fun x taken => ?_, ?_, fun e v => ?_⟩
      · rw [ssv, taken] at given
        rw [given, guaranteed_eq]
        rfl
      · rw [hTarget]
        cases d <;> rfl
      · rw [cands]
        cases d with
        | up => simp only [mem_zoneCandidates_up, spanned, entries]
        | down => simp only [mem_zoneCandidates_down, spanned, entries]

end Sys2Proof.Machine
end
